-- ==== Sys2Proof/Word.lean ====
section
/-! DEFINITION. The word types of the HX2480 setup space (R10) and of its memories (R371). -/

namespace Sys2Proof

/-- A setup-space register: 32 bits (R10). -/
abbrev Word := BitVec 32

/-- One byte of the cistern or of a payload. -/
abbrev Byte := BitVec 8

/-- The 64 data bits of a protected memory word (R371). -/
abbrev DWord := BitVec 64

end Sys2Proof
end

