-- ==== Sys2Proof/Syntax.lean ====
section
/-! DEFINITION. The commands of the HX2480: one constructor per row of spec/opcode_table.json, with the operands that the
rules of the row need. The table gives no bits to a row. -/

namespace Sys2Proof

/-- A host command as its descriptor carries it (R345), with the ring it came from. -/
structure Cmd where
  /-- 0 port A, 1 port B -/
  port  : Nat
  /-- ring 0 to 63 of the port (R340) -/
  ring  : Nat
  /-- hierarchy level of the target node (R6) -/
  level : Nat
  /-- node index within its level -/
  index : Nat
  /-- parameter word -/
  param : Word
  /-- host address of PAGE_IN and PAGE_OUT -/
  addr  : Nat
  /-- TAG, returned in the completion -/
  tag   : Word
  /-- LIMIT_MS, 0 none (R347) -/
  limit : Nat
  deriving DecidableEq, Repr, Inhabited

/-- A change of the raw level of Hall or encoder lines: at 50 MHz sample `sample` (0 to 2499) of the window the lines take `code`
(Hall: 4 HC + 2 HB + HA; encoder: 4 I + 2 B + A) (R232, R234). -/
structure LineChange where
  sample : Nat
  code   : Nat
  deriving DecidableEq, Repr, Inhabited

/-- What one bridge die's uplink showed over the last tick (R18, R19, R46): frames discarded for parity, the modulator streams
with a discarded frame (bits 0 to 11 leaf phases, 12 to 15 step phases, 16 rail, 17 temperature), the decimated values. -/
structure DieIn where
  discards : Nat
  bad      : Nat
  phases   : List Int
  rail     : Nat
  temp     : Int
  /-- on-state voltage of the measured switch in mV, read in place of the rail in a measurement tick (R182) -/
  onMv     : Nat
  deriving DecidableEq, Repr, Inhabited

/-- What a die reads at a sensitive edge (R144): the loop resistance in Ω, and for how many ns it has stood. -/
structure EdgeLoop where
  ohms : Nat
  ns   : Nat
  deriving DecidableEq, Repr, Inhabited

/-- A slot of the tick that overruns (R47): the units its stage had completed at the abort, the axis where one applies or 0xFF, the
clock reached. -/
structure Overrun where
  slot     : Nat
  progress : Nat
  axis     : Nat
  clk      : Nat
  deriving DecidableEq, Repr, Inhabited

/-- What the world shows the core die in one tick. -/
structure TickIn where
  /-- core clocks each stage 1 to 11 used (R39) -/
  slotClocks : List Nat
  /-- the link 4 uplink frame of this tick is valid (R20) -/
  link4Ok : Bool
  /-- the link 5 uplink frame of this tick is valid (R20) -/
  link5Ok : Bool
  /-- the four bridge dies -/
  dies    : List DieIn
  /-- raw Hall changes of leaves 0 to 15 -/
  hall    : List (List LineChange)
  /-- raw encoder changes of ports 0 to 7 -/
  enc     : List (List LineChange)
  /-- DCL_SUP, DCL_HS, DCL_LS in 10 mV -/
  dclSup  : Nat
  dclHs   : Nat
  dclLs   : Nat
  /-- VDRV at bridge die B0, 10 mV -/
  vdrv    : Nat
  /-- switch die temperature, 0.1 °C -/
  swTemp  : Int
  /-- further slots that overrun in the same tick (R47); of TICK_OVERRUN alone -/
  more    : List Overrun
  deriving DecidableEq, Repr, Inhabited

/-- A CAN frame as it stands on the bus (R310, R327). -/
structure CanFrame where
  ide  : Bool
  id   : Nat
  rtr  : Bool
  fdf  : Bool
  brs  : Bool
  esi  : Bool
  dlc  : Nat
  data : List Byte
  deriving DecidableEq, Repr, Inhabited

/-- What a PCIe configuration request asks of a port's function (R334, R335, R438). -/
inductive CfgReq where
  /-- read of the vendor and device identity -/
  | readId
  /-- read of class code and revision -/
  | readClass
  /-- read of the subsystem identity -/
  | readSubsys
  /-- write of Bus Master Enable -/
  | setBme (on : Bool)
  /-- write of Extended Tag Field Enable -/
  | setExtTag (on : Bool)
  /-- write of the max payload size, bytes -/
  | setMps (bytes : Nat)
  /-- write of the max read request size, bytes -/
  | setMrrs (bytes : Nat)
  /-- any other configuration access, answered as the PCI Express specification lays down -/
  | other
  deriving DecidableEq, Repr, Inhabited

/-- Why a port is reset (R338). -/
inductive PortResetKind where
  | flr | hotReset | linkDown | perst | d3hot
  deriving DecidableEq, Repr, Inhabited

/-- The commands: one constructor per row of spec/opcode_table.json. -/
inductive Instr where
  | tick (a : TickIn)
  | tickOverrun (slot : Nat) (progress : Nat) (axis : Nat) (clk : Nat) (a : TickIn)
  | powerOn
  | rstNLow (ns : Nat)
  | vcoreBrownOut
  | vioBrownOut
  | clockLoss
  | coreWatchdog
  | coreReset
  | resetRelease (straps : Nat) (fillClocks : Nat) (loadUs : Nat)
  | vdrvLow (die : Nat) (mv10 : Nat)
  | vdrvRecovered (die : Nat) (mv10 : Nat)
  | portReset (port : Nat) (kind : PortResetKind)
  | portUp (port : Nat) (width : Nat) (speed : Nat)
  | pcieConfigRequest (port : Nat) (req : CfgReq)
  | carrierPeriodStart (die : Nat) (half : Nat) (valid : Bool)
  | bridgeSafeState (die : Nat)
  | leafComparatorTrip (leaf : Nat) (phase : Nat)
  | stepComparatorTrip (step : Nat) (phase : Nat)
  | edgeClassChange (leaf : Nat) (loop : EdgeLoop)
  | switchLink4Frame (valid : Bool)
  | switchAutonomous
  | switchSupervisorReset
  | link6Frame (valid : Bool)
  | lswEvaluation (amps : List Int) (temps : List Int) (rails : List Nat)
  | lswComparatorTrip (ch : Nat) (ma : Int)
  | inrushWindowEnd (ch : Nat)
  | pauseEnd (ch : Nat)
  | settleExpired (ch : Nat)
  | groupUnderVoltage (g : Nat) (v : Nat)
  | groupUvRecovered (g : Nat) (v : Nat)
  | uvStaggeredRestart (ch : Nat)
  | openLoadQualified (ch : Nat) (isOpen : Bool)
  | dimEdge (pin : Nat) (high : Bool)
  | railDip (g : Nat) (v : Nat) (us : Nat)
  | senseUpdate (g : Nat)
  | channelBTestPulse (lsAbove70 : Bool)
  | switchDieLatch
  | fieldLink5Frame (valid : Bool)
  | fieldOutputsOff
  | fieldDieSupervisorReset (above8V : Bool)
  | fieldSample (volts : List Nat) (microamps : List Nat) (fsup : Nat) (outVolts : List Nat)
  | wireBreak (input : Nat) (broken : Bool) (microamps : Nat)
  | fieldSupplyState (missing : Bool) (low : Bool) (v : Nat)
  | fsRecExpired (v : Nat)
  | fieldOutputThermal (out : Nat) (hot : Bool)
  | trainlineSample (volts : List Nat)
  | tlIndeterminate (tl : Nat)
  | ilkTestPulse (hsBelow30 : Bool)
  | ilkDiscrepancy
  | ilkDiscSafe
  | ilkFeedbackTimeout
  | chargePumpRunDown (chB : Bool)
  | tUnlockExpired (portal : Nat)
  | tOpenExpired (portal : Nat)
  | tCloseExpired (portal : Nat)
  | tLockExpired (portal : Nat)
  | tDwellExpired (portal : Nat)
  | tWarnExpired (portal : Nat)
  | tRecloseExpired (portal : Nat)
  | tObsClearExpired (portal : Nat)
  | tStepExpired (portal : Nat)
  | signaturePulse (portal : Nat)
  | sigPulseJudged (portal : Nat) (ma : Int)
  | pendingOpenTaken (portal : Nat)
  | pendDeadline (portal : Nat)
  | departMsExpired (bank : Nat)
  | obsTrip (leaf : Nat) (cause : Nat)
  | obsReactionDone (leaf : Nat)
  | ldrUvHold (die : Nat)
  | ldrUvResume (die : Nat)
  | ldrRailOv (die : Nat)
  | ldrOvRecovered (die : Nat)
  | ldrOcLatch (leaf : Nat) (phase : Nat)
  | injectionRequest (leaf : Nat)
  | ldrRwindDone (leaf : Nat) (aborted : Bool)
  | stpStall (step : Nat) (slip : Bool)
  | standstillReduction (step : Nat)
  | stpOcLatch (step : Nat) (phase : Nat)
  | homingTrip (step : Nat)
  | fbkHallFault (leaf : Nat) (cause : Nat)
  | fbkEncoderFault (port : Nat) (cause : Nat)
  | errorWindowClose (isEncoder : Bool) (source : Nat)
  | fbkZeroSpeed (leaf : Nat)
  | patStateSave
  | canFrameStart (ctl : Nat) (clk : Nat)
  | canFrameReceived (ctl : Nat) (f : CanFrame) (sofDtc : Nat)
  | canTxDone (ctl : Nat) (tdcv : Nat)
  | canFailedAttempt (ctl : Nat) (lec : Nat) (noDominant : Bool) (noCount : Bool)
  | canBusoffRecovered (ctl : Nat)
  | canProtocolException (ctl : Nat)
  | canModeWrite (port : Nat) (ctl : Nat) (value : Word)
  | canMode (ctl : Nat)
  | canObjEnWrite (port : Nat) (ctl : Nat) (m : Nat) (value : Word)
  | ntReferenceReceived (f : CanFrame) (sofDtc : Nat)
  | ntMasterPeriod
  | ntTimeout
  | jetTail (port : Nat) (ring : Nat) (value : Word) (clk : Nat)
  | jetCq (port : Nat) (ring : Nat) (value : Word) (clk : Nat)
  | descriptorFetch (port : Nat) (ring : Nat)
  | fetchCompletion (port : Nat) (ring : Nat) (descs : List (List Word)) (failed : Bool) (latencyUs : Nat)
  | commandTimeout (id : Nat)
  | msixModerationTimeout (port : Nat) (ring : Nat)
  | guaranteeRestored (guarantee : Nat) (port : Nat)
  | bar2Write (port : Nat) (addr : Nat) (data : List Byte)
  | bar2Read (port : Nat) (addr : Nat) (len : Nat)
  | dtcLoRead (port : Nat) (clk : Nat)
  | recSeqLoRead (port : Nat) (which : Nat)
  | registerWrite (port : Nat) (offset : Nat) (value : Word) (be : Nat) (clk : Nat)
  | resyncSwitch
  | clrLinkCnt
  | genReset (port : Nat) (value : Word)
  | tckClrHwm
  | clrOverrun
  | clrCycles
  | clrLatch
  | clrTrips
  | ldrClrOc (leaf : Nat)
  | cmpPosWrite (port : Nat) (axis : Nat) (value : Word) (clk : Nat)
  | disarm (axis : Nat) (clk : Nat)
  | stpClrOc (step : Nat)
  | stpClrCount
  | clrHall (leaf : Nat)
  | clrEnc (port : Nat)
  | fbkClrCnt
  | clrAlarm
  | save
  | lswClrCount
  | fioClrCnt
  | hifClrHwm
  | clrStat (port : Nat)
  | enable (port : Nat) (ring : Nat)
  | disable (port : Nat) (ring : Nat)
  | memClrCount
  | recClrCount
  | cfgGroupOpen (port : Nat)
  | cfgGroupCommit (port : Nat) (clk : Nat)
  | seqOpen (c : Cmd)
  | seqClose (c : Cmd)
  | seqReopen (c : Cmd)
  | seqHold (c : Cmd)
  | crewClose (c : Cmd)
  | isolate (c : Cmd)
  | deisolate (c : Cmd)
  | clearFault (c : Cmd)
  | resetManual (c : Cmd)
  | armLoad (c : Cmd)
  | armRead (c : Cmd)
  | tblLoad (c : Cmd)
  | tblRead (c : Cmd)
  | accept (c : Cmd)
  | refuse (c : Cmd)
  | thaw (c : Cmd)
  | propRead (c : Cmd)
  | lswSwitch (c : Cmd)
  | lswRestart (c : Cmd)
  | setOut (c : Cmd)
  | txSend (c : Cmd)
  | rxRead (c : Cmd)
  | txAbort (c : Cmd)
  | nop (c : Cmd)
  | pageTake (c : Cmd)
  | pageGive (c : Cmd)
  | pagePass (c : Cmd)
  | pageIn (c : Cmd)
  | pageOut (c : Cmd)
  | pageTransferDone (port : Nat) (page : Nat)
  | sluice (c : Cmd)
  | inject (c : Cmd)
  | stop (c : Cmd)
  | sluiceDone (mem : Nat)
  | patrolDue (mem : Nat)
  | weirLeak (mem : Nat)
  | drain (c : Cmd)
  | drainDone (port : Nat)
  | capArm (c : Cmd)
  | capTrigger (c : Cmd)
  | capStop (c : Cmd)
  | captureSample (unit : Nat)
  | recordCommit
  | cycleCut (portal : Nat)
  | reliefSet (c : Cmd)
  | reliefApply
  | reliefTimeout
  | imgWrite (c : Cmd)
  | imgWriteDone
  | imgCommit (c : Cmd)
  | imgCommitDone
  | imgRead (c : Cmd)
  | link6FrameMissed
  | canReceiveError (ctl : Nat) (lec : Nat) (dominantAfter : Bool)
  | completionTimeout (port : Nat) (isPageIn : Bool) (which : Nat)
  | pageInReadCompletion (port : Nat) (page : Nat) (offset : Nat) (data : List Byte) (ep : Bool)
  | msixTableWrite (port : Nat) (vector : Nat) (masked : Bool)
  deriving DecidableEq, Repr

end Sys2Proof
end

