-- ==== Sys2Proof/Config.lean ====
section
/-! DEFINITION. What an implementation of the HX2480 fixes and the spec does not give, and the free values of the
model: constants without a body, so that no proof can see a value of theirs. -/

namespace Sys2Proof.Config

/-- A free value drawn by a step: the result the spec leaves open, numbered by State.freeCount. -/
opaque freeValue : Nat → Nat

/-- The CRC-16 of the links and of channel B's map (R18, R110): the spec names the check, not its polynomial. -/
opaque crc16 : List Byte → BitVec 16

/-- How the 15-bit code of R371 classes an error vector for which it gives no assurance (four or more bit errors, or more
than one on top of the poison pattern): 0 clean, 1 correctable, 2 poison, otherwise uncorrectable. -/
opaque eccAlias : DWord → BitVec 15 → Nat

/-- The bits that the code of R371 turns over where it takes such an error vector for a correctable one. -/
opaque eccTurns : DWord → BitVec 15 → DWord

/-- The place in working storage (R37) of a source word of the cycle record: portal, field. The spec gives none. -/
opaque recPlace : Nat → Nat → Nat

/-- GEN_SERIALk: 'per part' in the register map. -/
opaque serialWord : Nat → Word

/-- GEN_DIESET_REV bits 15:0: 'per part'. -/
opaque diesetRev : BitVec 16

/-- The place in working storage (R37) of a word of the ageing tracker: part, quantity, object, bin. The spec gives none. -/
opaque patPlace : Nat → Nat → Nat → Nat → Nat

/-- GEN_DIE_REV: 'per part'. -/
opaque dieRev : Word

end Sys2Proof.Config
end

