-- ==== Sys2Proof/Machine/Bits.lean ====
section
/-! DEFINITION. Bit fields, byte order, saturating arithmetic, and total access to vectors and sorted lists: the helpers the
operations of the model use. -/

/-- Entry i, or the default value outside the bounds. -/
def Vector.nth {α : Type} [Inhabited α] {n : Nat} (v : Vector α n) (i : Nat) : α :=
  if h : i < n then v[i] else default

/-- Entry i changed by f; nothing outside the bounds. -/
def Vector.upd {α : Type} {n : Nat} (v : Vector α n) (i : Nat) (f : α → α) : Vector α n :=
  if h : i < n then v.set i (f v[i]) else v

/-- Entry i set to x; nothing outside the bounds. -/
def Vector.put {α : Type} {n : Nat} (v : Vector α n) (i : Nat) (x : α) : Vector α n :=
  v.upd i (fun _ => x)

/-- Entry i, or the default value past the end. -/
def List.nth {α : Type} [Inhabited α] (l : List α) (i : Nat) : α := (l[i]?).getD default

namespace Sys2Proof.Machine

/-- Bits hi down to lo of a number. -/
def bitsOf (n hi lo : Nat) : Nat := (n >>> lo) % 2 ^ (hi + 1 - lo)

/-- Field hi:lo of a register word. -/
def fldW (w : Word) (hi lo : Nat) : Nat := bitsOf w.toNat hi lo

/-- 1 where the condition holds. -/
def b2n (b : Bool) : Nat := if b then 1 else 0

/-- Number n with bit i set to b. -/
def setBit (n i : Nat) (b : Bool) : Nat :=
  if b then n ||| 2 ^ i else if n.testBit i then n - 2 ^ i else n

/-- The bits of a that stand in no place of b. -/
def andNot (a b : Nat) : Nat := a ^^^ (a &&& b)

/-- Two's complement of the low k bits. -/
def signed (k n : Nat) : Int :=
  let m := n % 2 ^ k
  if m < 2 ^ (k - 1) then (m : Int) else (m : Int) - 2 ^ k

/-- The k-bit pattern of an integer (R9: two's complement). -/
def pattern (k : Nat) (x : Int) : Nat := (x % (2 ^ k : Int)).toNat

/-- An integer held between two bounds. -/
def clampI (lo hi x : Int) : Int := if x < lo then lo else if hi < x then hi else x

/-- Saturation of a signed 32-bit quantity. -/
def sat32 (x : Int) : Int := clampI (-2147483648) 2147483647 x

/-- Saturation of a signed 16-bit quantity. -/
def sat16 (x : Int) : Int := clampI (-32768) 32767 x

/-- Increment of a counter of k bits that saturates. -/
def satInc (k n : Nat) : Nat := if n + 1 < 2 ^ k then n + 1 else 2 ^ k - 1

/-- Addition to a counter of k bits that saturates. -/
def satAdd (k n m : Nat) : Nat := if n + m < 2 ^ k then n + m else 2 ^ k - 1

/-- Integer square root, bit by bit from bit k - 1 down. -/
def isqrtFrom : Nat → Nat → Nat → Nat
  | 0, acc, _ => acc
  | k + 1, acc, n =>
    let t := acc + 2 ^ k
    isqrtFrom k (if t * t ≤ n then t else acc) n

/-- Integer square root of a number below 2^128. -/
def isqrt (n : Nat) : Nat := isqrtFrom 64 0 n

/-- Division rounding to the nearest, halves away from zero. -/
def divNear (a : Int) (b : Nat) : Int :=
  if b = 0 then 0 else if 0 ≤ a then (a + (b / 2 : Nat)) / b else -((-a + (b / 2 : Nat)) / b)

/-- Division toward zero; zero for a zero divisor. -/
def divZ (a b : Int) : Int := Int.tdiv a b

/-- k bytes of a number, lowest first (R10, R371: little-endian). -/
def leBytes : Nat → Nat → List Byte
  | 0, _ => []
  | k + 1, n => BitVec.ofNat 8 n :: leBytes k (n / 256)

/-- The number that bytes spell, lowest first. -/
def ofLe : List Byte → Nat
  | [] => 0
  | b :: l => b.toNat + 256 * ofLe l

/-- An event payload field of one byte (R355). -/
def p1 (n : Nat) : List Byte := leBytes 1 n
/-- An event payload field of two bytes (R355). -/
def p2 (x : Int) : List Byte := leBytes 2 (pattern 16 x)
/-- An event payload field of four bytes (R355). -/
def p4 (x : Int) : List Byte := leBytes 4 (pattern 32 x)
/-- An event payload field of eight bytes (R355). -/
def p8 (n : Nat) : List Byte := leBytes 8 n

/-- One bit of CRC-32C, reflected (R395). -/
def crcBit (c : Nat) : Nat := if c % 2 = 1 then (c / 2) ^^^ 0x82F63B78 else c / 2

/-- One byte of CRC-32C. -/
def crcByte (c : Nat) (b : Byte) : Nat :=
  let x := c ^^^ b.toNat
  crcBit (crcBit (crcBit (crcBit (crcBit (crcBit (crcBit (crcBit x)))))))

/-- CRC-32C of bytes (R395). -/
def crc32c (l : List Byte) : Nat := (l.foldl crcByte 0xFFFFFFFF) ^^^ 0xFFFFFFFF

/-- Value under key k of a sorted association list. -/
def lookupKey {α : Type} (k : Nat) : List (Nat × α) → Option α
  | [] => none
  | (j, v) :: l => if j = k then some v else lookupKey k l

/-- Entry k set to v, the keys kept rising. -/
def insertKey {α : Type} (k : Nat) (v : α) : List (Nat × α) → List (Nat × α)
  | [] => [(k, v)]
  | (j, w) :: l => if j < k then (j, w) :: insertKey k v l else if j = k then (k, v) :: l else (k, v) :: (j, w) :: l

/-- Entry k taken away. -/
def eraseKey {α : Type} (k : Nat) : List (Nat × α) → List (Nat × α)
  | [] => []
  | (j, w) :: l => if j = k then l else (j, w) :: eraseKey k l

/-- The keys rise strictly. -/
def keysRise {α : Type} : List (Nat × α) → Bool
  | [] => true
  | [_] => true
  | (j, _) :: (k, w) :: l => decide (j < k) && keysRise ((k, w) :: l)

/-- Indices below n at which a condition holds. -/
def indices (n : Nat) (p : Nat → Bool) : List Nat := (List.range n).filter p

/-- The mask of the indices below n at which a condition holds. -/
def maskOf (n : Nat) (p : Nat → Bool) : Nat := (List.range n).foldl (fun m i => if p i then m + 2 ^ i else m) 0

/-- Number of set bits among the low n. -/
def popCount (n w : Nat) : Nat := (List.range n).foldl (fun c i => c + b2n (w.testBit i)) 0

/-- Ticks of a time in ms (R82: 20 ticks to a ms). -/
def msTicks (ms : Nat) : Nat := 20 * ms

end Sys2Proof.Machine
end

