-- ==== Sys2Proof/Machine/RegMap.lean ====
section
/-! DEFINITION. The register map of the setup space (R10 to R13, R33): one row per register or family of registers, with its
address, class, writable bits and reset value, as the register tables of the chapters give them. Written out from those tables. -/

namespace Sys2Proof.Machine

/-- The class of a register (R13). -/
inductive RegClass where
  | live | tick | idle
  deriving DecidableEq, Repr, Inhabited

/-- One register, or a family of count registers: instance i lies at base + stride * (i / inner) + stride2 * (i % inner). -/
structure RegRow where
  base : Nat
  count : Nat
  inner : Nat
  stride : Nat
  stride2 : Nat
  cls : RegClass
  /-- bits of RW fields -/
  rw : Nat
  /-- bits of RWL fields -/
  rwl : Nat
  /-- bits of W1C fields -/
  w1c : Nat
  /-- bits of WO fields -/
  wo : Nat
  /-- reset value of instance i -/
  reset : Nat → Nat

/-- The BAR0 offset of instance i. -/
def RegRow.addr (r : RegRow) (i : Nat) : Nat := r.base + r.stride * (i / r.inner) + r.stride2 * (i % r.inner)

/-- The instance of a row that lies at an offset. -/
def RegRow.find (r : RegRow) (off : Nat) : Option Nat :=
  if off < r.base then none else
  let d := off - r.base
  let hi := if r.stride = 0 then 0 else d / r.stride
  let lo := if r.stride = 0 then d else d % r.stride
  let j := if r.stride2 = 0 then 0 else lo / r.stride2
  let i := hi * r.inner + j
  if i < r.count ∧ j < r.inner ∧ r.addr i = off then some i else none

namespace Reg

def GEN_DEVICE_ID : RegRow := ⟨0x00000, 1, 1, 0x0, 0x0, .live, 0x0, 0x0, 0x0, 0x0, fun _ => 0x24800101⟩
def GEN_DIESET_REV : RegRow := ⟨0x00004, 1, 1, 0x0, 0x0, .live, 0x0, 0x0, 0x0, 0x0, fun _ => 0x0⟩
def GEN_DIE_REV : RegRow := ⟨0x00008, 1, 1, 0x0, 0x0, .live, 0x0, 0x0, 0x0, 0x0, fun _ => 0x0⟩
def GEN_SERIAL0 : RegRow := ⟨0x00010, 1, 1, 0x0, 0x0, .live, 0x0, 0x0, 0x0, 0x0, fun _ => 0x0⟩
def GEN_SERIAL1 : RegRow := ⟨0x00014, 1, 1, 0x0, 0x0, .live, 0x0, 0x0, 0x0, 0x0, fun _ => 0x0⟩
def GEN_SERIAL2 : RegRow := ⟨0x00018, 1, 1, 0x0, 0x0, .live, 0x0, 0x0, 0x0, 0x0, fun _ => 0x0⟩
def GEN_STRAPS : RegRow := ⟨0x00020, 1, 1, 0x0, 0x0, .live, 0x0, 0x0, 0x0, 0x0, fun _ => 0x0⟩
def GEN_LINK_STATUS : RegRow := ⟨0x00024, 1, 1, 0x0, 0x0, .live, 0x0, 0x0, 0xFF00, 0x0, fun _ => 0x0⟩
def GEN_CTRL : RegRow := ⟨0x00028, 1, 1, 0x0, 0x0, .live, 0x0, 0x0, 0x0, 0x3, fun _ => 0x0⟩
def GEN_LINK_ERRCNT : RegRow := ⟨0x00040, 8, 1, 0x4, 0x0, .live, 0x0, 0x0, 0x0, 0x0, fun _ => 0x0⟩
def TCK_CTRL : RegRow := ⟨0x10000, 1, 1, 0x0, 0x0, .live, 0x0, 0x0, 0x0, 0x3, fun _ => 0x0⟩
def TCK_STATUS : RegRow := ⟨0x10004, 1, 1, 0x0, 0x0, .live, 0x0, 0x0, 0x0, 0x0, fun _ => 0x0⟩
def TCK_TICK_COUNT : RegRow := ⟨0x10008, 1, 1, 0x0, 0x0, .live, 0x0, 0x0, 0x0, 0x0, fun _ => 0x0⟩
def TCK_DTC_LO : RegRow := ⟨0x10010, 1, 1, 0x0, 0x0, .live, 0x0, 0x0, 0x0, 0x0, fun _ => 0x0⟩
def TCK_DTC_HI_SNAP : RegRow := ⟨0x10014, 1, 1, 0x0, 0x0, .live, 0x0, 0x0, 0x0, 0x0, fun _ => 0x0⟩
def TCK_OVR_COUNT : RegRow := ⟨0x10018, 1, 1, 0x0, 0x0, .live, 0x0, 0x0, 0x0, 0x0, fun _ => 0x0⟩
def TCK_SLOT_HWM : RegRow := ⟨0x10040, 11, 1, 0x4, 0x0, .live, 0x0, 0x0, 0x0, 0x0, fun _ => 0x0⟩
def TCK_NT_CFG : RegRow := ⟨0x10100, 1, 1, 0x0, 0x0, .idle, 0xFFFFFF0F, 0x0, 0x0, 0x0, fun _ => 0x64000A00⟩
def TCK_NT_REF_ID : RegRow := ⟨0x10104, 1, 1, 0x0, 0x0, .idle, 0x3FFFFFFF, 0x0, 0x0, 0x0, fun _ => 0x0⟩
def TCK_NT_STEPLIM : RegRow := ⟨0x10108, 1, 1, 0x0, 0x0, .live, 0xFFFF, 0x0, 0x0, 0x0, fun _ => 0x64⟩
def TCK_NT_NOW : RegRow := ⟨0x10110, 1, 1, 0x0, 0x0, .live, 0x0, 0x0, 0x0, 0x0, fun _ => 0x0⟩
def TCK_NT_ANCHOR_NT : RegRow := ⟨0x10114, 1, 1, 0x0, 0x0, .live, 0x0, 0x0, 0x0, 0x0, fun _ => 0x0⟩
def TCK_NT_ANCHOR_DTC_LO : RegRow := ⟨0x10118, 1, 1, 0x0, 0x0, .live, 0x0, 0x0, 0x0, 0x0, fun _ => 0x0⟩
def TCK_NT_ANCHOR_DTC_HI : RegRow := ⟨0x1011C, 1, 1, 0x0, 0x0, .live, 0x0, 0x0, 0x0, 0x0, fun _ => 0x0⟩
def TCK_NT_RATE : RegRow := ⟨0x10120, 1, 1, 0x0, 0x0, .live, 0x0, 0x0, 0x0, 0x0, fun _ => 0x0⟩
def SEQ_CTRL : RegRow := ⟨0x20000, 1, 1, 0x0, 0x0, .live, 0x0, 0x0, 0x0, 0x1, fun _ => 0x0⟩
def SEQ_BANK_MAP : RegRow := ⟨0x20004, 1, 1, 0x0, 0x0, .idle, 0xFFFFFF, 0x0, 0x0, 0x0, fun _ => 0xFF5500⟩
def SEQ_AUTH : RegRow := ⟨0x20008, 1, 1, 0x0, 0x0, .idle, 0xFFFFFF, 0x0, 0x0, 0x0, fun _ => 0xFFF⟩
def SEQ_TRAIN_VIEW : RegRow := ⟨0x20010, 1, 1, 0x0, 0x0, .live, 0x0, 0x0, 0x0, 0x0, fun _ => 0x3F00⟩
def SEQ_PORTAL_STATE : RegRow := ⟨0x20020, 1, 1, 0x0, 0x0, .live, 0x0, 0x0, 0x0, 0x0, fun _ => 0x0⟩
def SEQ_STEP_STATE : RegRow := ⟨0x20024, 1, 1, 0x0, 0x0, .live, 0x0, 0x0, 0x0, 0x0, fun _ => 0x0⟩
def SEQ_BANK_CFG : RegRow := ⟨0x20100, 4, 1, 0x10, 0x0, .idle, 0xFF0001F3, 0x0, 0x0, 0x0, fun i => if i = 1 then 0xFF000041 else 0xFF000040⟩
def SEQ_BANK_TIME : RegRow := ⟨0x20104, 4, 1, 0x10, 0x0, .tick, 0xFFFFFFFF, 0x0, 0x0, 0x0, fun _ => 0x27101770⟩
def SEQ_BANK_STATUS : RegRow := ⟨0x20108, 4, 1, 0x10, 0x0, .live, 0x0, 0x0, 0x0, 0x0, fun _ => 0x2⟩
def SEQ_P_INMAP : RegRow := ⟨0x21000, 8, 1, 0x100, 0x0, .idle, 0xFFFFFFFF, 0x0, 0x0, 0x0, fun _ => 0xFFFFFFFF⟩
def SEQ_P_INMAP2 : RegRow := ⟨0x21004, 8, 1, 0x100, 0x0, .idle, 0xFF, 0x0, 0x0, 0x0, fun _ => 0xFF⟩
def SEQ_P_CHMAP : RegRow := ⟨0x21008, 8, 1, 0x100, 0x0, .idle, 0xFFFFFFFF, 0x0, 0x0, 0x0, fun i => 0x03020100 + 0x06060606 * i⟩
def SEQ_P_CFG : RegRow := ⟨0x2100C, 8, 1, 0x100, 0x0, .idle, 0xFF1B, 0x0, 0x0, 0x0, fun _ => 0x2309⟩
def SEQ_P_OPEN_POS : RegRow := ⟨0x21010, 8, 1, 0x100, 0x0, .idle, 0xFFFFFFFF, 0x0, 0x0, 0x0, fun _ => 0x0⟩
def SEQ_P_TOL : RegRow := ⟨0x21014, 8, 1, 0x100, 0x0, .idle, 0xFFFFFFFF, 0x0, 0x0, 0x0, fun _ => 0x7D003E8⟩
def SEQ_P_STEP_POS : RegRow := ⟨0x21018, 8, 1, 0x100, 0x0, .idle, 0xFFFFFFFF, 0x0, 0x0, 0x0, fun _ => 0x0⟩
def SEQ_P_STEP_ZONE : RegRow := ⟨0x2101C, 8, 1, 0x100, 0x0, .idle, 0xFFFF, 0x0, 0x0, 0x0, fun _ => 0x800⟩
def SEQ_P_TIMER0 : RegRow := ⟨0x21020, 8, 1, 0x100, 0x0, .tick, 0xFFFFFFFF, 0x0, 0x0, 0x0, fun _ => 0x138801F4⟩
def SEQ_P_TIMER1 : RegRow := ⟨0x21024, 8, 1, 0x100, 0x0, .tick, 0xFFFFFFFF, 0x0, 0x0, 0x0, fun _ => 0x1770⟩
def SEQ_P_TIMER2 : RegRow := ⟨0x21028, 8, 1, 0x100, 0x0, .tick, 0xFFFFFFFF, 0x0, 0x0, 0x0, fun _ => 0x1F405DC⟩
def SEQ_P_TIMER3 : RegRow := ⟨0x2102C, 8, 1, 0x100, 0x0, .tick, 0xFFFFFFFF, 0x0, 0x0, 0x0, fun _ => 0xBB82710⟩
def SEQ_P_LOCK : RegRow := ⟨0x21030, 8, 1, 0x100, 0x0, .idle, 0xFFFF000F, 0x0, 0x0, 0x0, fun _ => 0xC80004⟩
def SEQ_P_LOCKSIG : RegRow := ⟨0x21034, 8, 1, 0x100, 0x0, .idle, 0xFFFFFFFF, 0x0, 0x0, 0x0, fun _ => 0x5A0028⟩
def SEQ_P_LAMPMAP : RegRow := ⟨0x21038, 8, 1, 0x100, 0x0, .idle, 0x7FF07FF, 0x0, 0x0, 0x0, fun _ => 0x1FC01FC⟩
def SEQ_P_REFSPEED : RegRow := ⟨0x2103C, 8, 1, 0x100, 0x0, .idle, 0xFFFFFFFF, 0x0, 0x0, 0x0, fun _ => 0xC350⟩
def SEQ_P_STATUS : RegRow := ⟨0x21040, 8, 1, 0x100, 0x0, .live, 0x0, 0x0, 0x0, 0x0, fun _ => 0x0⟩
def SEQ_P_TIMER_NOW : RegRow := ⟨0x21044, 8, 1, 0x100, 0x0, .live, 0x0, 0x0, 0x0, 0x0, fun _ => 0x0⟩
def SEQ_P_CYCLES : RegRow := ⟨0x21048, 8, 1, 0x100, 0x0, .live, 0x0, 0x0, 0x0, 0x0, fun _ => 0x0⟩
def SEQ_P_SIG_LAST : RegRow := ⟨0x2104C, 8, 1, 0x100, 0x0, .live, 0x0, 0x0, 0x0, 0x0, fun _ => 0x0⟩
def ILK_CTRL : RegRow := ⟨0x30000, 1, 1, 0x0, 0x0, .live, 0x0, 0x0, 0x0, 0x1, fun _ => 0x0⟩
def ILK_CFG : RegRow := ⟨0x30004, 1, 1, 0x0, 0x0, .idle, 0x0, 0xFF0B, 0x0, 0x0, fun _ => 0x0⟩
def ILK_FB : RegRow := ⟨0x30008, 1, 1, 0x0, 0x0, .idle, 0x0, 0xFFFF00FF, 0x0, 0x0, fun _ => 0x1E00FF⟩
def ILK_WIN : RegRow := ⟨0x3000C, 1, 1, 0x0, 0x0, .idle, 0x0, 0xFFFF00FF, 0x0, 0x0, fun _ => 0x13880005⟩
def ILK_B_MAP : RegRow := ⟨0x30010, 4, 1, 0x4, 0x0, .idle, 0x0, 0xFFFFFFFF, 0x0, 0x0, fun _ => 0xFFFFFFFF⟩
def ILK_B_CRC : RegRow := ⟨0x30020, 1, 1, 0x0, 0x0, .live, 0x0, 0x0, 0x0, 0x0, fun _ => 0x0⟩
def ILK_STATUS : RegRow := ⟨0x30024, 1, 1, 0x0, 0x0, .live, 0x0, 0x0, 0x0, 0x0, fun _ => 0x10000⟩
def ILK_PORTAL : RegRow := ⟨0x30028, 1, 1, 0x0, 0x0, .live, 0x0, 0x0, 0x0, 0x0, fun _ => 0x0⟩
def ILK_READBACK : RegRow := ⟨0x3002C, 1, 1, 0x0, 0x0, .live, 0x0, 0x0, 0x0, 0x0, fun _ => 0x0⟩
def ILK_SUPPLY : RegRow := ⟨0x30030, 1, 1, 0x0, 0x0, .live, 0x0, 0x0, 0x0, 0x0, fun _ => 0x0⟩
def ILK_COUNT : RegRow := ⟨0x30034, 1, 1, 0x0, 0x0, .live, 0x0, 0x0, 0x0, 0x0, fun _ => 0x0⟩
def OBS_CTRL : RegRow := ⟨0x40000, 1, 1, 0x0, 0x0, .live, 0x0, 0x0, 0x0, 0x1, fun _ => 0x0⟩
def OBS_EDGE_STATE : RegRow := ⟨0x40004, 1, 1, 0x0, 0x0, .live, 0x0, 0x0, 0x0, 0x0, fun _ => 0x0⟩
def OBS_ACTIVE : RegRow := ⟨0x40008, 1, 1, 0x0, 0x0, .live, 0x0, 0x0, 0x0, 0x0, fun _ => 0x0⟩
def OBS_L_KT : RegRow := ⟨0x41000, 16, 1, 0x100, 0x0, .idle, 0xFFFFFFFF, 0x0, 0x0, 0x0, fun _ => 0x3D090⟩
def OBS_L_KF : RegRow := ⟨0x41004, 16, 1, 0x100, 0x0, .idle, 0xFFFFFFFF, 0x0, 0x0, 0x0, fun _ => 0x640000⟩
def OBS_L_MASS : RegRow := ⟨0x41008, 16, 1, 0x100, 0x0, .idle, 0xFFFF, 0x0, 0x0, 0x0, fun _ => 0xDAC⟩
def OBS_L_STROKE : RegRow := ⟨0x4100C, 16, 1, 0x100, 0x0, .idle, 0xFFFFFFFF, 0x0, 0x0, 0x0, fun _ => 0x9EB10⟩
def OBS_L_EDGE : RegRow := ⟨0x41010, 16, 1, 0x100, 0x0, .idle, 0xFFFF0001, 0x0, 0x0, 0x0, fun _ => 0x27100000⟩
def OBS_L_CRIT_C : RegRow := ⟨0x41020, 16, 1, 0x100, 0x0, .idle, 0xFFFF0FFF, 0x0, 0x0, 0x0, fun _ => 0x32280103⟩
def OBS_L_CRIT_O : RegRow := ⟨0x41060, 16, 1, 0x100, 0x0, .idle, 0xFFFF0FFF, 0x0, 0x0, 0x0, fun _ => 0x32280103⟩
def OBS_L_FORCE_C : RegRow := ⟨0x41024, 16, 1, 0x100, 0x0, .idle, 0xFFFFFFFF, 0x0, 0x0, 0x0, fun _ => 0x5DC012C⟩
def OBS_L_FORCE_O : RegRow := ⟨0x41064, 16, 1, 0x100, 0x0, .idle, 0xFFFFFFFF, 0x0, 0x0, 0x0, fun _ => 0x5DC012C⟩
def OBS_L_MARGIN_C : RegRow := ⟨0x41028, 16, 1, 0x100, 0x0, .idle, 0xFFFFFFFF, 0x0, 0x0, 0x0, fun _ => 0x3200064⟩
def OBS_L_MARGIN_O : RegRow := ⟨0x41068, 16, 1, 0x100, 0x0, .idle, 0xFFFFFFFF, 0x0, 0x0, 0x0, fun _ => 0x3200064⟩
def OBS_L_ZONE_C : RegRow := ⟨0x4102C, 16, 1, 0x100, 0x0, .idle, 0xFFFFFFFF, 0x0, 0x0, 0x0, fun _ => 0x1F44E20⟩
def OBS_L_ZONE_O : RegRow := ⟨0x4106C, 16, 1, 0x100, 0x0, .idle, 0xFFFFFFFF, 0x0, 0x0, 0x0, fun _ => 0x1F44E20⟩
def OBS_L_SPDMIN_C : RegRow := ⟨0x41030, 16, 1, 0x100, 0x0, .idle, 0xFFFFFFFF, 0x0, 0x0, 0x0, fun _ => 0x4E20⟩
def OBS_L_SPDMIN_O : RegRow := ⟨0x41070, 16, 1, 0x100, 0x0, .idle, 0xFFFFFFFF, 0x0, 0x0, 0x0, fun _ => 0x4E20⟩
def OBS_L_REACT_C : RegRow := ⟨0x41034, 16, 1, 0x100, 0x0, .idle, 0x7, 0x0, 0x0, 0x0, fun _ => 4⟩
def OBS_L_REACT_O : RegRow := ⟨0x41074, 16, 1, 0x100, 0x0, .idle, 0x7, 0x0, 0x0, 0x0, fun _ => 1⟩
def OBS_L_REVDIST_C : RegRow := ⟨0x41038, 16, 1, 0x100, 0x0, .idle, 0xFFFFFFFF, 0x0, 0x0, 0x0, fun _ => 0x186A0⟩
def OBS_L_REVDIST_O : RegRow := ⟨0x41078, 16, 1, 0x100, 0x0, .idle, 0xFFFFFFFF, 0x0, 0x0, 0x0, fun _ => 0x186A0⟩
def OBS_L_REVACC_C : RegRow := ⟨0x4103C, 16, 1, 0x100, 0x0, .idle, 0xFFFFFFFF, 0x0, 0x0, 0x0, fun _ => 0x4C4B40⟩
def OBS_L_REVACC_O : RegRow := ⟨0x4107C, 16, 1, 0x100, 0x0, .idle, 0xFFFFFFFF, 0x0, 0x0, 0x0, fun _ => 0x4C4B40⟩
def OBS_L_REVSPD_C : RegRow := ⟨0x41040, 16, 1, 0x100, 0x0, .idle, 0xFFFFFFFF, 0x0, 0x0, 0x0, fun _ => 0x3D090⟩
def OBS_L_REVSPD_O : RegRow := ⟨0x41080, 16, 1, 0x100, 0x0, .idle, 0xFFFFFFFF, 0x0, 0x0, 0x0, fun _ => 0x3D090⟩
def OBS_L_NOW : RegRow := ⟨0x410A0, 16, 1, 0x100, 0x0, .live, 0x0, 0x0, 0x0, 0x0, fun _ => 0x0⟩
def OBS_L_STATUS : RegRow := ⟨0x410A4, 16, 1, 0x100, 0x0, .live, 0x0, 0x0, 0x0, 0x0, fun _ => 0x0⟩
def OBS_L_TARGET : RegRow := ⟨0x410A8, 16, 1, 0x100, 0x0, .live, 0x0, 0x0, 0x0, 0x0, fun _ => 0x0⟩
def OBS_L_TRIP_POS : RegRow := ⟨0x410AC, 16, 1, 0x100, 0x0, .live, 0x0, 0x0, 0x0, 0x0, fun _ => 0x0⟩
def OBS_L_TRIPS : RegRow := ⟨0x410B0, 16, 1, 0x100, 0x0, .live, 0x0, 0x0, 0x0, 0x0, fun _ => 0x0⟩
def OBS_P_CURTAIN : RegRow := ⟨0x42000, 8, 1, 0x10, 0x0, .idle, 0xFFFF0017, 0x0, 0x0, 0x0, fun _ => 0xFFFF0002⟩
def LDR_L_CFG : RegRow := ⟨0x50000, 16, 1, 0x400, 0x0, .idle, 0xFF03, 0x0, 0x0, 0x0, fun _ => 0x4200⟩
def LDR_L_UMREV : RegRow := ⟨0x50004, 16, 1, 0x400, 0x0, .idle, 0xFFFFFFFF, 0x0, 0x0, 0x0, fun _ => 0xC350⟩
def LDR_L_HALL : RegRow := ⟨0x50008, 16, 1, 0x400, 0x0, .idle, 0xFFFF, 0x0, 0x0, 0x0, fun _ => 0x0⟩
def LDR_L_MOTOR : RegRow := ⟨0x5000C, 16, 1, 0x400, 0x0, .idle, 0xFFFFFFFF, 0x0, 0x0, 0x0, fun _ => 0x4B009C4⟩
def LDR_L_KE : RegRow := ⟨0x50010, 16, 1, 0x400, 0x0, .idle, 0xFFFFFFFF, 0x0, 0x0, 0x0, fun _ => 0x3D090⟩
def LDR_L_CUR_PI : RegRow := ⟨0x50014, 16, 1, 0x400, 0x0, .tick, 0xFFFFFFFF, 0x0, 0x0, 0x0, fun _ => 0x3116012E⟩
def LDR_L_SPD_PI : RegRow := ⟨0x50018, 16, 1, 0x400, 0x0, .tick, 0xFFFFFFFF, 0x0, 0x0, 0x0, fun _ => 0x13880032⟩
def LDR_L_POS : RegRow := ⟨0x5001C, 16, 1, 0x400, 0x0, .tick, 0xFFFF, 0x0, 0x0, 0x0, fun _ => 0xBB8⟩
def LDR_L_ILIM : RegRow := ⟨0x50020, 16, 1, 0x400, 0x0, .tick, 0xFFFFFFFF, 0x0, 0x0, 0x0, fun _ => 0x177003E8⟩
def LDR_L_OC : RegRow := ⟨0x50024, 16, 1, 0x400, 0x0, .idle, 0xFFFF000F, 0x0, 0x0, 0x0, fun _ => 0x1D4C0004⟩
def LDR_L_I2T : RegRow := ⟨0x50028, 16, 1, 0x400, 0x0, .idle, 0xFFFFFFFF, 0x0, 0x0, 0x0, fun _ => 0xBB82710⟩
def LDR_L_INJ : RegRow := ⟨0x5002C, 16, 1, 0x400, 0x0, .idle, 0xFFFFFFFF, 0x0, 0x0, 0x0, fun _ => 0xC803E8⟩
def LDR_L_STATUS : RegRow := ⟨0x50040, 16, 1, 0x400, 0x0, .live, 0x0, 0x0, 0x0, 0x0, fun _ => 0x1000⟩
def LDR_L_IDQ : RegRow := ⟨0x50044, 16, 1, 0x400, 0x0, .live, 0x0, 0x0, 0x0, 0x0, fun _ => 0x0⟩
def LDR_L_VDQ : RegRow := ⟨0x50048, 16, 1, 0x400, 0x0, .live, 0x0, 0x0, 0x0, 0x0, fun _ => 0x0⟩
def LDR_L_ANGLE : RegRow := ⟨0x5004C, 16, 1, 0x400, 0x0, .live, 0x0, 0x0, 0x0, 0x0, fun _ => 0x0⟩
def LDR_L_ILIM_NOW : RegRow := ⟨0x50050, 16, 1, 0x400, 0x0, .live, 0x0, 0x0, 0x0, 0x0, fun _ => 0x0⟩
def LDR_L_RDSON_U : RegRow := ⟨0x50054, 16, 1, 0x400, 0x0, .live, 0x0, 0x0, 0x0, 0x0, fun _ => 0x0⟩
def LDR_L_RDSON_V : RegRow := ⟨0x50058, 16, 1, 0x400, 0x0, .live, 0x0, 0x0, 0x0, 0x0, fun _ => 0x0⟩
def LDR_L_RDSON_W : RegRow := ⟨0x5005C, 16, 1, 0x400, 0x0, .live, 0x0, 0x0, 0x0, 0x0, fun _ => 0x0⟩
def LDR_L_RWIND : RegRow := ⟨0x50060, 16, 1, 0x400, 0x0, .live, 0x0, 0x0, 0x0, 0x0, fun _ => 0x0⟩
def LDR_L_OC_COUNT : RegRow := ⟨0x50064, 16, 1, 0x400, 0x0, .live, 0x0, 0x0, 0x0, 0x0, fun _ => 0x0⟩
def LDR_CTRL : RegRow := ⟨0x58000, 1, 1, 0x0, 0x0, .live, 0x0, 0x0, 0x0, 0xFFFF, fun _ => 0x0⟩
def LDR_RAIL_CFG : RegRow := ⟨0x58004, 1, 1, 0x0, 0x0, .idle, 0xFFFFFFFF, 0x0, 0x0, 0x0, fun _ => 0x7D02AF8⟩
def LDR_RAIL_OV : RegRow := ⟨0x58008, 1, 1, 0x0, 0x0, .idle, 0xFFFFFFFF, 0x0, 0x0, 0x0, fun _ => 0x445C3E80⟩
def LDR_UV_DECEL : RegRow := ⟨0x5800C, 1, 1, 0x0, 0x0, .idle, 0xFFFFFFFF, 0x0, 0x0, 0x0, fun _ => 0x1E8480⟩
def LDR_PWR : RegRow := ⟨0x58010, 1, 1, 0x0, 0x0, .tick, 0xFFFFFFFF, 0x0, 0x0, 0x0, fun _ => 0x5DC12C0⟩
def LDR_TEMP_CFG : RegRow := ⟨0x58014, 1, 1, 0x0, 0x0, .idle, 0xFFFFFFFF, 0x0, 0x0, 0x0, fun _ => 0x4E20546⟩
def LDR_PWM : RegRow := ⟨0x58018, 1, 1, 0x0, 0x0, .idle, 0xFFFFFF, 0x0, 0x0, 0x0, fun _ => 0x5F1414⟩
def LDR_DIE : RegRow := ⟨0x58020, 4, 1, 0x4, 0x0, .live, 0x0, 0x0, 0x0, 0x0, fun _ => 0x0⟩
def LDR_DIE_STATUS : RegRow := ⟨0x58030, 1, 1, 0x0, 0x0, .live, 0x0, 0x0, 0x0, 0x0, fun _ => 0x0⟩
def LDR_PWR_NOW : RegRow := ⟨0x58034, 1, 1, 0x0, 0x0, .live, 0x0, 0x0, 0x0, 0x0, fun _ => 0x64000000⟩
def MPG_A_CFG : RegRow := ⟨0x60000, 24, 1, 0x400, 0x0, .idle, 0x1, 0x0, 0x0, 0x0, fun _ => 0x0⟩
def MPG_A_LIM_LO : RegRow := ⟨0x60004, 24, 1, 0x400, 0x0, .idle, 0xFFFFFFFF, 0x0, 0x0, 0x0, fun _ => 0x80000000⟩
def MPG_A_LIM_HI : RegRow := ⟨0x60008, 24, 1, 0x400, 0x0, .idle, 0xFFFFFFFF, 0x0, 0x0, 0x0, fun _ => 0x7FFFFFFF⟩
def MPG_A_Sk_RAMP : RegRow := ⟨0x60040, 96, 4, 0x400, 0x40, .tick, 0x1, 0x0, 0x0, 0x0, fun i => if i < 64 then 0x0 else 0x0⟩
def MPG_A_Sk_V_START : RegRow := ⟨0x60044, 96, 4, 0x400, 0x40, .tick, 0xFFFFFFFF, 0x0, 0x0, 0x0, fun i => if i < 64 then 0x0 else 0xA00⟩
def MPG_A_Sk_V_STOP : RegRow := ⟨0x60048, 96, 4, 0x400, 0x40, .tick, 0xFFFFFFFF, 0x0, 0x0, 0x0, fun i => if i < 64 then 0x4E20 else 0xA00⟩
def MPG_A_Sk_V_BREAK : RegRow := ⟨0x6004C, 96, 4, 0x400, 0x40, .tick, 0xFFFFFFFF, 0x0, 0x0, 0x0, fun i => if i < 64 then 0x186A0 else 0x6400⟩
def MPG_A_Sk_V_MAX : RegRow := ⟨0x60050, 96, 4, 0x400, 0x40, .tick, 0xFFFFFFFF, 0x0, 0x0, 0x0, fun i => if i < 64 then 0x3D090 else 0xC800⟩
def MPG_A_Sk_A1 : RegRow := ⟨0x60054, 96, 4, 0x400, 0x40, .tick, 0xFFFFFFFF, 0x0, 0x0, 0x0, fun i => if i < 64 then 0xF4240 else 0x3E800⟩
def MPG_A_Sk_A2 : RegRow := ⟨0x60058, 96, 4, 0x400, 0x40, .tick, 0xFFFFFFFF, 0x0, 0x0, 0x0, fun i => if i < 64 then 0x7A120 else 0x1F400⟩
def MPG_A_Sk_D1 : RegRow := ⟨0x6005C, 96, 4, 0x400, 0x40, .tick, 0xFFFFFFFF, 0x0, 0x0, 0x0, fun i => if i < 64 then 0xF4240 else 0x3E800⟩
def MPG_A_Sk_D2 : RegRow := ⟨0x60060, 96, 4, 0x400, 0x40, .tick, 0xFFFFFFFF, 0x0, 0x0, 0x0, fun i => if i < 64 then 0x7A120 else 0x1F400⟩
def MPG_A_Sk_JERK : RegRow := ⟨0x60064, 96, 4, 0x400, 0x40, .tick, 0xFFFFFFFF, 0x0, 0x0, 0x0, fun i => if i < 64 then 0x1312D00 else 0x271000⟩
def MPG_A_Sk_CUSHION : RegRow := ⟨0x60068, 96, 4, 0x400, 0x40, .tick, 0xFFFFFFFF, 0x0, 0x0, 0x0, fun i => if i < 64 then 0x2710 else 0x0⟩
def MPG_A_CMP_POS : RegRow := ⟨0x60180, 24, 1, 0x400, 0x0, .tick, 0xFFFFFFFF, 0x0, 0x0, 0x0, fun _ => 0x0⟩
def MPG_A_CMP_CFG : RegRow := ⟨0x60184, 24, 1, 0x400, 0x0, .tick, 0x3, 0x0, 0x0, 0x80, fun _ => 0x0⟩
def MPG_A_CMP_INTERVAL : RegRow := ⟨0x60188, 24, 1, 0x400, 0x0, .tick, 0xFFFFFFFF, 0x0, 0x0, 0x0, fun _ => 0x0⟩
def MPG_A_CMP_STATUS : RegRow := ⟨0x6018C, 24, 1, 0x400, 0x0, .live, 0x0, 0x0, 0x6, 0x0, fun _ => 0x0⟩
def MPG_A_CMP_DTC_LO : RegRow := ⟨0x60190, 24, 1, 0x400, 0x0, .live, 0x0, 0x0, 0x0, 0x0, fun _ => 0x0⟩
def MPG_A_CMP_DTC_HI : RegRow := ⟨0x60194, 24, 1, 0x400, 0x0, .live, 0x0, 0x0, 0x0, 0x0, fun _ => 0x0⟩
def MPG_A_GEAR_CFG : RegRow := ⟨0x605C0, 8, 1, 0x800, 0x0, .idle, 0x3, 0x0, 0x0, 0x0, fun _ => 0x2⟩
def MPG_A_RATIO1 : RegRow := ⟨0x605C4, 8, 1, 0x800, 0x0, .idle, 0xFFFFFFFF, 0x0, 0x0, 0x0, fun _ => 0x10000⟩
def MPG_A_RATIO2 : RegRow := ⟨0x605C8, 8, 1, 0x800, 0x0, .idle, 0xFFFFFFFF, 0x0, 0x0, 0x0, fun _ => 0x10000⟩
def MPG_A_M_CHANGE : RegRow := ⟨0x605CC, 8, 1, 0x800, 0x0, .idle, 0xFFFFFFFF, 0x0, 0x0, 0x0, fun _ => 0x0⟩
def MPG_A_STATUS : RegRow := ⟨0x60200, 24, 1, 0x400, 0x0, .live, 0x0, 0x0, 0x0, 0x0, fun _ => 0x0⟩
def MPG_A_TARGET : RegRow := ⟨0x60204, 24, 1, 0x400, 0x0, .live, 0x0, 0x0, 0x0, 0x0, fun _ => 0x0⟩
def MPG_A_REMAIN : RegRow := ⟨0x60208, 24, 1, 0x400, 0x0, .live, 0x0, 0x0, 0x0, 0x0, fun _ => 0x0⟩
def MPG_A_PSET : RegRow := ⟨0x6020C, 24, 1, 0x400, 0x0, .live, 0x0, 0x0, 0x0, 0x0, fun _ => 0x0⟩
def MPG_A_VSET : RegRow := ⟨0x60210, 24, 1, 0x400, 0x0, .live, 0x0, 0x0, 0x0, 0x0, fun _ => 0x0⟩
def MPG_A_ASET : RegRow := ⟨0x60214, 24, 1, 0x400, 0x0, .live, 0x0, 0x0, 0x0, 0x0, fun _ => 0x0⟩
def MPG_MOVING : RegRow := ⟨0x68000, 1, 1, 0x0, 0x0, .live, 0x0, 0x0, 0x0, 0x0, fun _ => 0x0⟩
def MPG_HELD : RegRow := ⟨0x68004, 1, 1, 0x0, 0x0, .live, 0x0, 0x0, 0x0, 0x0, fun _ => 0x0⟩
def STP_S_CFG : RegRow := ⟨0x70000, 8, 1, 0x400, 0x0, .idle, 0xFF000003, 0x0, 0x0, 0x0, fun _ => 0xFF000000⟩
def STP_S_MOTOR : RegRow := ⟨0x70004, 8, 1, 0x400, 0x0, .idle, 0xFFFFFFFF, 0x0, 0x0, 0x0, fun _ => 0xBB80FA0⟩
def STP_S_KE : RegRow := ⟨0x70008, 8, 1, 0x400, 0x0, .idle, 0xFFFFFFFF, 0x0, 0x0, 0x0, fun _ => 0x61A8⟩
def STP_S_CUR : RegRow := ⟨0x7000C, 8, 1, 0x400, 0x0, .tick, 0xFFFFFFFF, 0x0, 0x0, 0x0, fun _ => 0x9C401F4⟩
def STP_S_CUR2 : RegRow := ⟨0x70010, 8, 1, 0x400, 0x0, .tick, 0xFFFFFFFF, 0x0, 0x0, 0x0, fun _ => 0x19003E8⟩
def STP_S_ADAPT : RegRow := ⟨0x70014, 8, 1, 0x400, 0x0, .tick, 0xFFFFFF0F, 0x0, 0x0, 0x0, fun _ => 0xA14C803⟩
def STP_S_LOADTH : RegRow := ⟨0x70018, 8, 1, 0x400, 0x0, .tick, 0xFFFFFFFF, 0x0, 0x0, 0x0, fun _ => 0x1C200C8⟩
def STP_S_STALL : RegRow := ⟨0x7001C, 8, 1, 0x400, 0x0, .tick, 0xFFFFFF00, 0x0, 0x0, 0x0, fun _ => 0x2EE0A00⟩
def STP_S_VMIN : RegRow := ⟨0x70020, 8, 1, 0x400, 0x0, .tick, 0xFFFFFFFF, 0x0, 0x0, 0x0, fun _ => 0x800⟩
def STP_S_HOLD : RegRow := ⟨0x70024, 8, 1, 0x400, 0x0, .tick, 0xFFFF, 0x0, 0x0, 0x0, fun _ => 0x1F4⟩
def STP_S_PWM : RegRow := ⟨0x70028, 8, 1, 0x400, 0x0, .idle, 0xFF01FF, 0x0, 0x0, 0x0, fun _ => 0x5F0108⟩
def STP_S_OC : RegRow := ⟨0x7002C, 8, 1, 0x400, 0x0, .idle, 0xFFFF000F, 0x0, 0x0, 0x0, fun _ => 0xDAC0004⟩
def STP_S_HOME : RegRow := ⟨0x70030, 8, 1, 0x400, 0x0, .idle, 0xFF00FFFF, 0x0, 0x0, 0x0, fun _ => 0x4000400⟩
def STP_S_HOME_DIST : RegRow := ⟨0x70034, 8, 1, 0x400, 0x0, .idle, 0xFFFFFFFF, 0x0, 0x0, 0x0, fun _ => 0xC800⟩
def STP_S_STATUS : RegRow := ⟨0x70040, 8, 1, 0x400, 0x0, .live, 0x0, 0x0, 0x0, 0x0, fun _ => 0x1000⟩
def STP_S_LOAD : RegRow := ⟨0x70044, 8, 1, 0x400, 0x0, .live, 0x0, 0x0, 0x0, 0x0, fun _ => 0x0⟩
def STP_S_IPH : RegRow := ⟨0x70048, 8, 1, 0x400, 0x0, .live, 0x0, 0x0, 0x0, 0x0, fun _ => 0x0⟩
def STP_S_VPH : RegRow := ⟨0x7004C, 8, 1, 0x400, 0x0, .live, 0x0, 0x0, 0x0, 0x0, fun _ => 0x0⟩
def STP_S_TRIM : RegRow := ⟨0x70050, 8, 1, 0x400, 0x0, .live, 0x0, 0x0, 0x0, 0x0, fun _ => 0x400⟩
def STP_S_HOME_TRIP : RegRow := ⟨0x70054, 8, 1, 0x400, 0x0, .live, 0x0, 0x0, 0x0, 0x0, fun _ => 0x0⟩
def STP_S_HOME_STAT : RegRow := ⟨0x70058, 8, 1, 0x400, 0x0, .live, 0x0, 0x0, 0x0, 0x0, fun _ => 0x0⟩
def STP_S_COUNT : RegRow := ⟨0x7005C, 8, 1, 0x400, 0x0, .live, 0x0, 0x0, 0x0, 0x0, fun _ => 0x0⟩
def STP_CTRL : RegRow := ⟨0x72000, 1, 1, 0x0, 0x0, .live, 0x0, 0x0, 0x0, 0xFF01, fun _ => 0x0⟩
def FBK_CTRL : RegRow := ⟨0x80000, 1, 1, 0x0, 0x0, .live, 0x0, 0x0, 0x0, 0x1FFFFFF, fun _ => 0x0⟩
def FBK_FILT : RegRow := ⟨0x80004, 1, 1, 0x0, 0x0, .idle, 0x1F1F, 0x0, 0x0, 0x0, fun _ => 0x802⟩
def FBK_FAULT : RegRow := ⟨0x80008, 1, 1, 0x0, 0x0, .live, 0x0, 0x0, 0x0, 0x0, fun _ => 0x0⟩
def FBK_L_CFG : RegRow := ⟨0x81000, 16, 1, 0x80, 0x0, .idle, 0x3, 0x0, 0x0, 0x0, fun _ => 0x0⟩
def FBK_L_WIN : RegRow := ⟨0x81004, 16, 1, 0x80, 0x0, .idle, 0xFFFFFFFF, 0x0, 0x0, 0x0, fun _ => 0x4E200FA0⟩
def FBK_L_STATUS : RegRow := ⟨0x81020, 16, 1, 0x80, 0x0, .live, 0x0, 0x0, 0x320, 0x0, fun _ => 0x40⟩
def FBK_L_POS : RegRow := ⟨0x81024, 16, 1, 0x80, 0x0, .live, 0x0, 0x0, 0x0, 0x0, fun _ => 0x0⟩
def FBK_L_SPEED : RegRow := ⟨0x81028, 16, 1, 0x80, 0x0, .live, 0x0, 0x0, 0x0, 0x0, fun _ => 0x0⟩
def FBK_L_HALLCNT : RegRow := ⟨0x8102C, 16, 1, 0x80, 0x0, .live, 0x0, 0x0, 0x0, 0x0, fun _ => 0x0⟩
def FBK_L_ERRCNT : RegRow := ⟨0x81030, 16, 1, 0x80, 0x0, .live, 0x0, 0x0, 0x0, 0x0, fun _ => 0x0⟩
def FBK_E_CFG : RegRow := ⟨0x82000, 8, 1, 0x40, 0x0, .idle, 0x7FF, 0x0, 0x0, 0x0, fun _ => 0xFF⟩
def FBK_E_GEOM : RegRow := ⟨0x82004, 8, 1, 0x40, 0x0, .idle, 0xFFFFFFF, 0x0, 0x0, 0x0, fun _ => 0x1040400⟩
def FBK_E_WIN : RegRow := ⟨0x82008, 8, 1, 0x40, 0x0, .idle, 0xFFFFF, 0x0, 0x0, 0x0, fun _ => 0x24E20⟩
def FBK_E_STATUS : RegRow := ⟨0x82020, 8, 1, 0x40, 0x0, .live, 0x0, 0x0, 0xC0, 0x0, fun _ => 0x0⟩
def FBK_E_COUNT : RegRow := ⟨0x82024, 8, 1, 0x40, 0x0, .live, 0x0, 0x0, 0x0, 0x0, fun _ => 0x0⟩
def FBK_E_IDX_POS : RegRow := ⟨0x82028, 8, 1, 0x40, 0x0, .live, 0x0, 0x0, 0x0, 0x0, fun _ => 0x0⟩
def FBK_E_IDX_SPAN : RegRow := ⟨0x8202C, 8, 1, 0x40, 0x0, .live, 0x0, 0x0, 0x0, 0x0, fun _ => 0x0⟩
def FBK_E_ERRCNT : RegRow := ⟨0x82030, 8, 1, 0x40, 0x0, .live, 0x0, 0x0, 0x0, 0x0, fun _ => 0x0⟩
def PAT_CTRL : RegRow := ⟨0x90000, 1, 1, 0x0, 0x0, .live, 0x0, 0x0, 0x0, 0x3, fun _ => 0x0⟩
def PAT_CFG : RegRow := ⟨0x90004, 1, 1, 0x0, 0x0, .tick, 0xFFFF0FFF, 0x0, 0x0, 0x0, fun _ => 0x32400000⟩
def PAT_FILT : RegRow := ⟨0x90008, 1, 1, 0x0, 0x0, .tick, 0xFFFFFFFF, 0x0, 0x0, 0x0, fun _ => 0x3310012C⟩
def PAT_ARM_CFG : RegRow := ⟨0x9000C, 1, 1, 0x0, 0x0, .tick, 0xFFFFFFFF, 0x0, 0x0, 0x0, fun _ => 0x102000C8⟩
def PAT_EXP_LIM : RegRow := ⟨0x90010, 1, 1, 0x0, 0x0, .tick, 0xFFFFFFFF, 0x0, 0x0, 0x0, fun _ => 0x960005⟩
def PAT_MAR_LIM : RegRow := ⟨0x90014, 1, 1, 0x0, 0x0, .tick, 0xFFFFFFFF, 0x0, 0x0, 0x0, fun _ => 0x640005⟩
def PAT_CUSH_LIM : RegRow := ⟨0x90018, 1, 1, 0x0, 0x0, .tick, 0xFFFFFFFF, 0x0, 0x0, 0x0, fun _ => 0x138800C8⟩
def PAT_CUSH_CLR : RegRow := ⟨0x9001C, 1, 1, 0x0, 0x0, .tick, 0xFFFF, 0x0, 0x0, 0x0, fun _ => 0xFA0⟩
def PAT_TO_LIM : RegRow := ⟨0x90020, 1, 1, 0x0, 0x0, .tick, 0xFFFFFFFF, 0x0, 0x0, 0x0, fun _ => 0xC8190214⟩
def PAT_INR_LIM : RegRow := ⟨0x90024, 1, 1, 0x0, 0x0, .tick, 0xFFFFFF00, 0x0, 0x0, 0x0, fun _ => 0x96140100⟩
def LSW_CTRL : RegRow := ⟨0xA0000, 1, 1, 0x0, 0x0, .live, 0x0, 0x0, 0x0, 0x1, fun _ => 0x0⟩
def LSW_STATUS : RegRow := ⟨0xA0004, 1, 1, 0x0, 0x0, .live, 0x0, 0x0, 0x0, 0x0, fun _ => 0x0⟩
def LSW_STATE : RegRow := ⟨0xA0010, 6, 1, 0x4, 0x0, .live, 0x0, 0x0, 0x0, 0x0, fun _ => 0x0⟩
def LSW_CMD_LO : RegRow := ⟨0xA0030, 1, 1, 0x0, 0x0, .live, 0x0, 0x0, 0x0, 0x0, fun _ => 0x0⟩
def LSW_CMD_HI : RegRow := ⟨0xA0034, 1, 1, 0x0, 0x0, .live, 0x0, 0x0, 0x0, 0x0, fun _ => 0x0⟩
def LSW_OPEN_LO : RegRow := ⟨0xA0038, 1, 1, 0x0, 0x0, .live, 0x0, 0x0, 0x0, 0x0, fun _ => 0x0⟩
def LSW_OPEN_HI : RegRow := ⟨0xA003C, 1, 1, 0x0, 0x0, .live, 0x0, 0x0, 0x0, 0x0, fun _ => 0x0⟩
def LSW_DIM_CFG : RegRow := ⟨0xA0040, 1, 1, 0x0, 0x0, .idle, 0xFF00FF, 0x0, 0x0, 0x0, fun _ => 0x0⟩
def LSW_DIM_STATUS : RegRow := ⟨0xA0044, 1, 1, 0x0, 0x0, .live, 0x0, 0x0, 0x0, 0x0, fun _ => 0x0⟩
def LSW_G_RAIL_CFG : RegRow := ⟨0xA0100, 6, 1, 0x20, 0x0, .idle, 0xFFFFFFFF, 0x0, 0x0, 0x0, fun _ => 0x3E80640⟩
def LSW_G_RAIL_TIME : RegRow := ⟨0xA0104, 6, 1, 0x20, 0x0, .idle, 0xFFFFFFFF, 0x0, 0x0, 0x0, fun _ => 0xC83264⟩
def LSW_G_SENSE : RegRow := ⟨0xA0108, 6, 1, 0x20, 0x0, .live, 0x77, 0x0, 0x0, 0x0, fun _ => 0x0⟩
def LSW_G_STATUS : RegRow := ⟨0xA010C, 6, 1, 0x20, 0x0, .live, 0x0, 0x0, 0x0, 0x0, fun _ => 0x0⟩
def LSW_G_FLAGS : RegRow := ⟨0xA0110, 6, 1, 0x20, 0x0, .live, 0x0, 0x0, 0x2, 0x0, fun _ => 0x0⟩
def LSW_C_CFG : RegRow := ⟨0xA1000, 48, 1, 0x40, 0x0, .idle, 0xFFFF0107, 0x0, 0x0, 0x0, fun i => 0x3F080100 + i / 6⟩
def LSW_C_LIMIT : RegRow := ⟨0xA1004, 48, 1, 0x40, 0x0, .idle, 0xFFFFFFFF, 0x0, 0x0, 0x0, fun _ => 0x27100BB8⟩
def LSW_C_TIME : RegRow := ⟨0xA1008, 48, 1, 0x40, 0x0, .idle, 0xFFFFFFFF, 0x0, 0x0, 0x0, fun _ => 0x3E80A14⟩
def LSW_C_OL : RegRow := ⟨0xA100C, 48, 1, 0x40, 0x0, .idle, 0xFFFF, 0x0, 0x0, 0x0, fun _ => 0x14⟩
def LSW_C_STATUS : RegRow := ⟨0xA1020, 48, 1, 0x40, 0x0, .live, 0x0, 0x0, 0x0, 0x0, fun _ => 0x140000⟩
def LSW_C_CURRENT : RegRow := ⟨0xA1024, 48, 1, 0x40, 0x0, .live, 0x0, 0x0, 0x0, 0x0, fun _ => 0x0⟩
def LSW_C_TEMP : RegRow := ⟨0xA1028, 48, 1, 0x40, 0x0, .live, 0x0, 0x0, 0x0, 0x0, fun _ => 0x0⟩
def LSW_C_COUNT : RegRow := ⟨0xA102C, 48, 1, 0x40, 0x0, .live, 0x0, 0x0, 0x0, 0x0, fun _ => 0x0⟩
def LSW_C_TURN_ONS : RegRow := ⟨0xA1030, 48, 1, 0x40, 0x0, .live, 0x0, 0x0, 0x0, 0x0, fun _ => 0x0⟩
def FIO_CTRL : RegRow := ⟨0xB0000, 1, 1, 0x0, 0x0, .live, 0x0, 0x0, 0x0, 0x1, fun _ => 0x0⟩
def FIO_SUPPLY : RegRow := ⟨0xB0004, 1, 1, 0x0, 0x0, .live, 0x0, 0x0, 0x0, 0x0, fun _ => 0x1⟩
def FIO_SUPPLY_CFG : RegRow := ⟨0xB0008, 1, 1, 0x0, 0x0, .idle, 0xFFFF0000, 0x0, 0x0, 0x0, fun _ => 0x320000⟩
def FIO_IN_STATE_LO : RegRow := ⟨0xB0010, 1, 1, 0x0, 0x0, .live, 0x0, 0x0, 0x0, 0x0, fun _ => 0x0⟩
def FIO_IN_STATE_HI : RegRow := ⟨0xB0014, 1, 1, 0x0, 0x0, .live, 0x0, 0x0, 0x0, 0x0, fun _ => 0x0⟩
def FIO_IN_UNK_LO : RegRow := ⟨0xB0018, 1, 1, 0x0, 0x0, .live, 0x0, 0x0, 0x0, 0x0, fun _ => 0xFFFFFFFF⟩
def FIO_IN_UNK_HI : RegRow := ⟨0xB001C, 1, 1, 0x0, 0x0, .live, 0x0, 0x0, 0x0, 0x0, fun _ => 0xFFFFFFFF⟩
def FIO_IN_WB_LO : RegRow := ⟨0xB0020, 1, 1, 0x0, 0x0, .live, 0x0, 0x0, 0x0, 0x0, fun _ => 0x0⟩
def FIO_IN_WB_HI : RegRow := ⟨0xB0024, 1, 1, 0x0, 0x0, .live, 0x0, 0x0, 0x0, 0x0, fun _ => 0x0⟩
def FIO_OUT_STATE : RegRow := ⟨0xB0030, 1, 1, 0x0, 0x0, .live, 0x0, 0x0, 0x0, 0x0, fun _ => 0x0⟩
def FIO_OUT_FLAGS : RegRow := ⟨0xB0034, 1, 1, 0x0, 0x0, .live, 0x0, 0x0, 0x0, 0x0, fun _ => 0x0⟩
def FIO_TL_CFG : RegRow := ⟨0xB0040, 1, 1, 0x0, 0x0, .idle, 0xFFFFFFFF, 0x0, 0x0, 0x0, fun _ => 0x2AF83C1E⟩
def FIO_TL_TIME : RegRow := ⟨0xB0044, 1, 1, 0x0, 0x0, .idle, 0xFFFF0000, 0x0, 0x0, 0x0, fun _ => 0x640000⟩
def FIO_TL_FILT0 : RegRow := ⟨0xB0048, 1, 1, 0x0, 0x0, .idle, 0xFFFFFFFF, 0x0, 0x0, 0x0, fun _ => 0x64646464⟩
def FIO_TL_FILT1 : RegRow := ⟨0xB004C, 1, 1, 0x0, 0x0, .idle, 0xFFFF, 0x0, 0x0, 0x0, fun _ => 0x00006464⟩
def FIO_TL_STATUS : RegRow := ⟨0xB0060, 6, 1, 0x4, 0x0, .live, 0x0, 0x0, 0x0, 0x0, fun _ => 0x2⟩
def FIO_F_CFG : RegRow := ⟨0xB1000, 64, 1, 0x10, 0x0, .idle, 0xFFFF03, 0x0, 0x0, 0x0, fun _ => 0xA0A01⟩
def FIO_F_STATUS : RegRow := ⟨0xB1004, 64, 1, 0x10, 0x0, .live, 0x0, 0x0, 0x80, 0x0, fun _ => 0x12⟩
def FIO_F_CURRENT : RegRow := ⟨0xB1008, 64, 1, 0x10, 0x0, .live, 0x0, 0x0, 0x0, 0x0, fun _ => 0x0⟩
def FIO_F_COUNT : RegRow := ⟨0xB100C, 64, 1, 0x10, 0x0, .live, 0x0, 0x0, 0x0, 0x0, fun _ => 0x0⟩
def FIO_O_CFG : RegRow := ⟨0xB2000, 16, 1, 0x10, 0x0, .idle, 0xFF07, 0x0, 0x0, 0x0, fun i => 0x1400 + i / 2⟩
def FIO_O_STATUS : RegRow := ⟨0xB2004, 16, 1, 0x10, 0x0, .live, 0x0, 0x0, 0x0, 0x0, fun _ => 0x0⟩
def FIO_O_COUNT : RegRow := ⟨0xB2008, 16, 1, 0x10, 0x0, .live, 0x0, 0x0, 0x0, 0x0, fun _ => 0x0⟩
def CAN_C_MODE : RegRow := ⟨0xC0000, 4, 1, 0x4000, 0x0, .live, 0x3, 0x0, 0x0, 0x0, fun _ => 0x0⟩
def CAN_C_CFG : RegRow := ⟨0xC0004, 4, 1, 0x4000, 0x0, .idle, 0x1, 0x0, 0x0, 0x0, fun _ => 0x1⟩
def CAN_C_NBT : RegRow := ⟨0xC0008, 4, 1, 0x4000, 0x0, .idle, 0x1FFF7F7F, 0x0, 0x0, 0x0, fun _ => 0x11E0707⟩
def CAN_C_DBT : RegRow := ⟨0xC000C, 4, 1, 0x4000, 0x0, .idle, 0x1F1FFF, 0x0, 0x0, 0x0, fun _ => 0xD44⟩
def CAN_C_TDC : RegRow := ⟨0xC0010, 4, 1, 0x4000, 0x0, .idle, 0x807F007F, 0x0, 0x0, 0x0, fun _ => 0x8000000F⟩
def CAN_C_STATUS : RegRow := ⟨0xC0014, 4, 1, 0x4000, 0x0, .live, 0x0, 0x0, 0x0, 0x0, fun _ => 0x0⟩
def CAN_C_ERRCNT : RegRow := ⟨0xC0018, 4, 1, 0x4000, 0x0, .live, 0x0, 0x0, 0x0, 0x0, fun _ => 0x0⟩
def CAN_C_COUNT : RegRow := ⟨0xC001C, 4, 1, 0x4000, 0x0, .live, 0x0, 0x0, 0x0, 0x0, fun _ => 0x0⟩
def CAN_C_RXCNT : RegRow := ⟨0xC0020, 4, 1, 0x4000, 0x0, .live, 0x0, 0x0, 0x0, 0x0, fun _ => 0x0⟩
def CAN_C_TXCNT : RegRow := ⟨0xC0024, 4, 1, 0x4000, 0x0, .live, 0x0, 0x0, 0x0, 0x0, fun _ => 0x0⟩
def CAN_C_NT : RegRow := ⟨0xC0028, 4, 1, 0x4000, 0x0, .live, 0x0, 0x0, 0x0, 0x0, fun _ => 0x0⟩
def CAN_C_OBJ_EN : RegRow := ⟨0xC0030, 16, 4, 0x4000, 0x4, .live, 0xFFFFFFFF, 0x0, 0x0, 0x0, fun _ => 0x0⟩
def CAN_C_NEW : RegRow := ⟨0xC0040, 16, 4, 0x4000, 0x4, .live, 0x0, 0x0, 0x0, 0x0, fun _ => 0x0⟩
def CAN_C_LOST : RegRow := ⟨0xC0050, 16, 4, 0x4000, 0x4, .live, 0x0, 0x0, 0x0, 0x0, fun _ => 0x0⟩
def CAN_C_TXREQ : RegRow := ⟨0xC0060, 16, 4, 0x4000, 0x4, .live, 0x0, 0x0, 0x0, 0x0, fun _ => 0x0⟩
def CAN_C_TXFAIL : RegRow := ⟨0xC0070, 16, 4, 0x4000, 0x4, .live, 0x0, 0x0, 0xFFFFFFFF, 0x0, fun _ => 0x0⟩
def CAN_O_ID : RegRow := ⟨0xC1000, 512, 128, 0x4000, 0x8, .idle, 0x3FFFFFFF, 0x0, 0x0, 0x0, fun _ => 0x0⟩
def CAN_O_CFG : RegRow := ⟨0xC1004, 512, 128, 0x4000, 0x8, .idle, 0xF0F, 0x0, 0x0, 0x0, fun _ => 0xF00⟩
def CAN_O_STATUS : RegRow := ⟨0xC2000, 512, 128, 0x4000, 0x4, .live, 0x0, 0x0, 0x0, 0x0, fun _ => 0x0⟩
def CAN_C_AUTH : RegRow := ⟨0xC3F00, 4, 1, 0x4000, 0x0, .idle, 0x3, 0x0, 0x0, 0x0, fun _ => 0x1⟩
def HIF_CTRL : RegRow := ⟨0xD0000, 1, 1, 0x0, 0x0, .live, 0x0, 0x0, 0x0, 0x1, fun _ => 0x0⟩
def HIF_CFG : RegRow := ⟨0xD0004, 1, 1, 0x0, 0x0, .idle, 0x0, 0x1, 0x0, 0x0, fun _ => 0x0⟩
def HIF_SUBSYS : RegRow := ⟨0xD0008, 1, 1, 0x0, 0x0, .idle, 0x0, 0xFFFFFFFF, 0x0, 0x0, fun _ => 0x1C7E⟩
def HIF_TRACK : RegRow := ⟨0xD0010, 1, 1, 0x0, 0x0, .live, 0x0, 0x0, 0x0, 0x0, fun _ => 0x0⟩
def HIF_TRACK_HWM : RegRow := ⟨0xD0014, 1, 1, 0x0, 0x0, .live, 0x0, 0x0, 0x0, 0x0, fun _ => 0x0⟩
def HIF_GUAR : RegRow := ⟨0xD0018, 1, 1, 0x0, 0x0, .live, 0x0, 0x0, 0x0, 0x0, fun _ => 0x0⟩
def HIF_PAGE_OWN : RegRow := ⟨0xD0100, 64, 1, 0x4, 0x0, .live, 0x0, 0x0, 0x0, 0x0, fun _ => 0x0⟩
def HIF_PAGE_BUSY : RegRow := ⟨0xD0200, 32, 1, 0x4, 0x0, .live, 0x0, 0x0, 0x0, 0x0, fun _ => 0x0⟩
def HIF_P_STATUS : RegRow := ⟨0xD1000, 2, 1, 0x4000, 0x0, .live, 0x0, 0x0, 0x0, 0x0, fun _ => 0x0⟩
def HIF_P_CTRL : RegRow := ⟨0xD1004, 2, 1, 0x4000, 0x0, .live, 0x0, 0x0, 0x0, 0x1, fun _ => 0x0⟩
def HIF_P_STAT0 : RegRow := ⟨0xD1010, 2, 1, 0x4000, 0x0, .live, 0x0, 0x0, 0x0, 0x0, fun _ => 0x0⟩
def HIF_P_STAT1 : RegRow := ⟨0xD1014, 2, 1, 0x4000, 0x0, .live, 0x0, 0x0, 0x0, 0x0, fun _ => 0x0⟩
def HIF_P_STAT2 : RegRow := ⟨0xD1018, 2, 1, 0x4000, 0x0, .live, 0x0, 0x0, 0x0, 0x0, fun _ => 0x0⟩
def HIF_P_EVSEQ : RegRow := ⟨0xD101C, 2, 1, 0x4000, 0x0, .live, 0x0, 0x0, 0x0, 0x0, fun _ => 0x0⟩
def HIF_R_CFG : RegRow := ⟨0xD2000, 128, 64, 0x4000, 0x40, .idle, 0x1FF00D, 0x0, 0x0, 0x0, fun i => 0x6000 + 4 * (if i < 4 then 0 else if i % 64 < 32 then 1 else 2)⟩
def HIF_R_CTRL : RegRow := ⟨0xD2004, 128, 64, 0x4000, 0x40, .live, 0x0, 0x0, 0x0, 0x3, fun _ => 0x0⟩
def HIF_R_BASE_LO : RegRow := ⟨0xD2008, 128, 64, 0x4000, 0x40, .idle, 0xFFFFFFFF, 0x0, 0x0, 0x0, fun _ => 0x0⟩
def HIF_R_BASE_HI : RegRow := ⟨0xD200C, 128, 64, 0x4000, 0x40, .idle, 0xFFFFFFFF, 0x0, 0x0, 0x0, fun _ => 0x0⟩
def HIF_R_CQ_LO : RegRow := ⟨0xD2010, 128, 64, 0x4000, 0x40, .idle, 0xFFFFFFFF, 0x0, 0x0, 0x0, fun _ => 0x0⟩
def HIF_R_CQ_HI : RegRow := ⟨0xD2014, 128, 64, 0x4000, 0x40, .idle, 0xFFFFFFFF, 0x0, 0x0, 0x0, fun _ => 0x0⟩
def HIF_R_EVMASK : RegRow := ⟨0xD2018, 128, 64, 0x4000, 0x40, .idle, 0x1FFFF, 0x0, 0x0, 0x0, fun _ => 0x1FFFF⟩
def HIF_R_MOD : RegRow := ⟨0xD201C, 128, 64, 0x4000, 0x40, .idle, 0xFFFFFFFF, 0x0, 0x0, 0x0, fun _ => 0x1⟩
def HIF_R_STATUS : RegRow := ⟨0xD2020, 128, 64, 0x4000, 0x40, .live, 0x0, 0x0, 0x0, 0x0, fun _ => 0x0⟩
def HIF_R_IDX : RegRow := ⟨0xD2024, 128, 64, 0x4000, 0x40, .live, 0x0, 0x0, 0x0, 0x0, fun _ => 0x0⟩
def HIF_R_CQ_IDX : RegRow := ⟨0xD2028, 128, 64, 0x4000, 0x40, .live, 0x0, 0x0, 0x0, 0x0, fun _ => 0x0⟩
def HIF_R_COUNT : RegRow := ⟨0xD202C, 128, 64, 0x4000, 0x40, .live, 0x0, 0x0, 0x0, 0x0, fun _ => 0x0⟩
def MEM_CTRL : RegRow := ⟨0xE0000, 1, 1, 0x0, 0x0, .live, 0x0, 0x0, 0x0, 0x1, fun _ => 0x0⟩
def MEM_STATUS : RegRow := ⟨0xE0004, 1, 1, 0x0, 0x0, .live, 0x0, 0x0, 0x0, 0x0, fun _ => 0x0⟩
def MEM_CFG : RegRow := ⟨0xE0008, 1, 1, 0x0, 0x0, .idle, 0x0, 0x3, 0x0, 0x0, fun _ => 0x0⟩
def MEM_AUTH : RegRow := ⟨0xE000C, 1, 1, 0x0, 0x0, .idle, 0x3, 0x0, 0x0, 0x0, fun _ => 0x1⟩
def MEM_FILL_TIME : RegRow := ⟨0xE0010, 1, 1, 0x0, 0x0, .live, 0x0, 0x0, 0x0, 0x0, fun _ => 0x0⟩
def MEM_M_RANGE_LO : RegRow := ⟨0xE0100, 2, 1, 0x100, 0x0, .live, 0xFFFFFFFF, 0x0, 0x0, 0x0, fun _ => 0x0⟩
def MEM_M_RANGE_HI : RegRow := ⟨0xE0104, 2, 1, 0x100, 0x0, .live, 0xFFFFFFFF, 0x0, 0x0, 0x0, fun i => if i = 0 then 0x007FFFF8 else 0x03FFFFF8⟩
def MEM_M_PATROL : RegRow := ⟨0xE0108, 2, 1, 0x100, 0x0, .idle, 0xFFFF, 0x0, 0x0, 0x0, fun i => if i = 0 then 0x003C else 0x0E10⟩
def MEM_M_WEIR : RegRow := ⟨0xE010C, 2, 1, 0x100, 0x0, .tick, 0xFFFFFFFF, 0x0, 0x0, 0x0, fun _ => 0x1003E8⟩
def MEM_M_WEIR_NOW : RegRow := ⟨0xE0110, 2, 1, 0x100, 0x0, .live, 0x0, 0x0, 0x0, 0x0, fun _ => 0x0⟩
def MEM_M_CE_COUNT : RegRow := ⟨0xE0114, 2, 1, 0x100, 0x0, .live, 0x0, 0x0, 0x0, 0x0, fun _ => 0x0⟩
def MEM_M_UE_COUNT : RegRow := ⟨0xE0118, 2, 1, 0x100, 0x0, .live, 0x0, 0x0, 0x0, 0x0, fun _ => 0x0⟩
def MEM_M_CE_ADDR : RegRow := ⟨0xE011C, 2, 1, 0x100, 0x0, .live, 0x0, 0x0, 0x0, 0x0, fun _ => 0x0⟩
def MEM_M_UE_ADDR : RegRow := ⟨0xE0120, 2, 1, 0x100, 0x0, .live, 0x0, 0x0, 0x0, 0x0, fun _ => 0x0⟩
def MEM_M_SL_STATUS : RegRow := ⟨0xE0130, 2, 1, 0x100, 0x0, .live, 0x0, 0x0, 0x0, 0x0, fun _ => 0x0⟩
def MEM_M_SL_WORDS : RegRow := ⟨0xE0134, 2, 1, 0x100, 0x0, .live, 0x0, 0x0, 0x0, 0x0, fun _ => 0x0⟩
def MEM_M_SL_CE : RegRow := ⟨0xE0138, 2, 1, 0x100, 0x0, .live, 0x0, 0x0, 0x0, 0x0, fun _ => 0x0⟩
def MEM_M_SL_UNWRITTEN : RegRow := ⟨0xE0148, 2, 1, 0x100, 0x0, .live, 0x0, 0x0, 0x0, 0x0, fun _ => 0x0⟩
def MEM_M_SL_POS : RegRow := ⟨0xE014C, 2, 1, 0x100, 0x0, .live, 0x0, 0x0, 0x0, 0x0, fun _ => 0x0⟩
def MEM_M_SL_UE : RegRow := ⟨0xE013C, 2, 1, 0x100, 0x0, .live, 0x0, 0x0, 0x0, 0x0, fun _ => 0x0⟩
def MEM_M_SL_FIRST_UE : RegRow := ⟨0xE0140, 2, 1, 0x100, 0x0, .live, 0x0, 0x0, 0x0, 0x0, fun _ => 0xFFFFFFFF⟩
def MEM_M_SL_LAST_UE : RegRow := ⟨0xE0144, 2, 1, 0x100, 0x0, .live, 0x0, 0x0, 0x0, 0x0, fun _ => 0xFFFFFFFF⟩
def MEM_M_FLIP0 : RegRow := ⟨0xE0160, 2, 1, 0x100, 0x0, .live, 0xFFFFFFFF, 0x0, 0x0, 0x0, fun _ => 0x0⟩
def MEM_M_FLIP1 : RegRow := ⟨0xE0164, 2, 1, 0x100, 0x0, .live, 0xFFFFFFFF, 0x0, 0x0, 0x0, fun _ => 0x0⟩
def MEM_M_FLIP2 : RegRow := ⟨0xE0168, 2, 1, 0x100, 0x0, .live, 0xFFFF, 0x0, 0x0, 0x0, fun _ => 0x0⟩
def MEM_M_INJ_ADDR : RegRow := ⟨0xE016C, 2, 1, 0x100, 0x0, .live, 0xFFFFFFFF, 0x0, 0x0, 0x0, fun _ => 0x0⟩
def MEM_M_INJ_CFG : RegRow := ⟨0xE0170, 2, 1, 0x100, 0x0, .live, 0x1, 0x0, 0x0, 0x0, fun _ => 0x0⟩
def MEM_M_INJ_STATUS : RegRow := ⟨0xE0174, 2, 1, 0x100, 0x0, .live, 0x0, 0x0, 0x2, 0x0, fun _ => 0x0⟩
def REC_CTRL : RegRow := ⟨0xF0000, 1, 1, 0x0, 0x0, .live, 0x0, 0x0, 0x0, 0x1, fun _ => 0x0⟩
def REC_CFG : RegRow := ⟨0xF0004, 1, 1, 0x0, 0x0, .tick, 0xFFFFFF01, 0x0, 0x0, 0x0, fun _ => 0xE10F000⟩
def REC_STATUS : RegRow := ⟨0xF0008, 1, 1, 0x0, 0x0, .live, 0x0, 0x0, 0x0, 0x0, fun _ => 0x0⟩
def REC_NEXT_LO : RegRow := ⟨0xF0010, 1, 1, 0x0, 0x0, .live, 0x0, 0x0, 0x0, 0x0, fun _ => 0x0⟩
def REC_NEXT_HI : RegRow := ⟨0xF0014, 1, 1, 0x0, 0x0, .live, 0x0, 0x0, 0x0, 0x0, fun _ => 0x0⟩
def REC_COMMIT_LO : RegRow := ⟨0xF0018, 1, 1, 0x0, 0x0, .live, 0x0, 0x0, 0x0, 0x0, fun _ => 0x0⟩
def REC_COMMIT_HI : RegRow := ⟨0xF001C, 1, 1, 0x0, 0x0, .live, 0x0, 0x0, 0x0, 0x0, fun _ => 0x0⟩
def REC_OLDEST_LO : RegRow := ⟨0xF0020, 1, 1, 0x0, 0x0, .live, 0x0, 0x0, 0x0, 0x0, fun _ => 0x0⟩
def REC_OLDEST_HI : RegRow := ⟨0xF0024, 1, 1, 0x0, 0x0, .live, 0x0, 0x0, 0x0, 0x0, fun _ => 0x0⟩
def REC_COUNT : RegRow := ⟨0xF0028, 1, 1, 0x0, 0x0, .live, 0x0, 0x0, 0x0, 0x0, fun _ => 0x0⟩
def REC_AUTH : RegRow := ⟨0xF002C, 1, 1, 0x0, 0x0, .idle, 0x3, 0x0, 0x0, 0x0, fun _ => 0x3⟩
def REC_P_FROM_LO : RegRow := ⟨0xF0100, 2, 1, 0x20, 0x0, .idle, 0xFFFFFFFF, 0x0, 0x0, 0x0, fun _ => 0x0⟩
def REC_P_FROM_HI : RegRow := ⟨0xF0104, 2, 1, 0x20, 0x0, .idle, 0xFF, 0x0, 0x0, 0x0, fun _ => 0x0⟩
def REC_P_LAG : RegRow := ⟨0xF0108, 2, 1, 0x20, 0x0, .live, 0x0, 0x0, 0x0, 0x0, fun _ => 0x0⟩
def REC_P_SKIPPED : RegRow := ⟨0xF010C, 2, 1, 0x20, 0x0, .live, 0x0, 0x0, 0x0, 0x0, fun _ => 0x0⟩
def REC_U_CFG : RegRow := ⟨0xF0200, 4, 1, 0x20, 0x0, .idle, 0xF0FFF00, 0x0, 0x0, 0x0, fun _ => 0x6010100⟩
def REC_U_PRE : RegRow := ⟨0xF0204, 4, 1, 0x20, 0x0, .idle, 0xFFFF, 0x0, 0x0, 0x0, fun _ => 0x100⟩
def REC_U_STATUS : RegRow := ⟨0xF0208, 4, 1, 0x20, 0x0, .live, 0x0, 0x0, 0x0, 0x0, fun _ => 0x0⟩
def REC_U_INDEX : RegRow := ⟨0xF020C, 4, 1, 0x20, 0x0, .live, 0x0, 0x0, 0x0, 0x0, fun _ => 0x0⟩
def REC_U_TRIG_DTC_LO : RegRow := ⟨0xF0210, 4, 1, 0x20, 0x0, .live, 0x0, 0x0, 0x0, 0x0, fun _ => 0x0⟩
def REC_U_TRIG_DTC_HI : RegRow := ⟨0xF0214, 4, 1, 0x20, 0x0, .live, 0x0, 0x0, 0x0, 0x0, fun _ => 0x0⟩
def CFG_CTRL : RegRow := ⟨0xF8000, 1, 1, 0x0, 0x0, .live, 0x0, 0x0, 0x0, 0x3, fun _ => 0x0⟩
def CFG_STATUS : RegRow := ⟨0xF8004, 1, 1, 0x0, 0x0, .live, 0x0, 0x0, 0x0, 0x0, fun _ => 0x1F1F00⟩
def CFG_ID : RegRow := ⟨0xF8008, 1, 1, 0x0, 0x0, .live, 0x0, 0x0, 0x0, 0x0, fun _ => 0x0⟩
def CFG_GEN : RegRow := ⟨0xF800C, 1, 1, 0x0, 0x0, .live, 0x0, 0x0, 0x0, 0x0, fun _ => 0x0⟩
def CFG_REJECT : RegRow := ⟨0xF8010, 1, 1, 0x0, 0x0, .live, 0x0, 0x0, 0x1000000, 0x0, fun _ => 0x0⟩
def CFG_REJECT_COUNT : RegRow := ⟨0xF8014, 1, 1, 0x0, 0x0, .live, 0x0, 0x0, 0x0, 0x0, fun _ => 0x0⟩
def CFG_GROUP_FILL : RegRow := ⟨0xF8018, 1, 1, 0x0, 0x0, .live, 0x0, 0x0, 0x0, 0x0, fun _ => 0x0⟩
def CFG_AUTH : RegRow := ⟨0xF8020, 1, 1, 0x0, 0x0, .idle, 0x0, 0xF, 0x0, 0x0, fun _ => 0x3⟩
def CFG_RELIEF_WAIT : RegRow := ⟨0xF8024, 1, 1, 0x0, 0x0, .live, 0xFFFF, 0x0, 0x0, 0x0, fun _ => 0x2710⟩
def CFG_BANKb_STATE : RegRow := ⟨0xF8030, 2, 1, 0x10, 0x0, .live, 0x0, 0x0, 0x0, 0x0, fun _ => 0x0⟩
def CFG_BANKb_GEN : RegRow := ⟨0xF8034, 2, 1, 0x10, 0x0, .live, 0x0, 0x0, 0x0, 0x0, fun _ => 0x0⟩
def CFG_BANKb_ID : RegRow := ⟨0xF8038, 2, 1, 0x10, 0x0, .live, 0x0, 0x0, 0x0, 0x0, fun _ => 0x0⟩
def CFG_LOAD_TIME : RegRow := ⟨0xF8050, 1, 1, 0x0, 0x0, .live, 0x0, 0x0, 0x0, 0x0, fun _ => 0x0⟩
def GEN_RESET_CAUSE : RegRow := ⟨0x00060, 1, 1, 0x0, 0x0, .live, 0x0, 0x0, 0x0, 0x0, fun _ => 0x0⟩
def GEN_RESET : RegRow := ⟨0x00064, 1, 1, 0x0, 0x0, .live, 0x0, 0x0, 0x0, 0xFFFF0001, fun _ => 0x0⟩
def GEN_WDT : RegRow := ⟨0x00068, 1, 1, 0x0, 0x0, .idle, 0x0, 0x1FF, 0x0, 0x0, fun _ => 0x105⟩
def GEN_SUPPLY : RegRow := ⟨0x0006C, 1, 1, 0x0, 0x0, .live, 0x0, 0x0, 0x0, 0x0, fun _ => 0x0⟩
def GEN_BOOT_TIME : RegRow := ⟨0x00070, 1, 1, 0x0, 0x0, .live, 0x0, 0x0, 0x0, 0x0, fun _ => 0x0⟩
def PAT_P_PENDING : RegRow := ⟨0x91000, 8, 1, 0x100, 0x0, .live, 0x0, 0x0, 0x0, 0x0, fun _ => 0x0⟩
def PAT_P_FROZEN : RegRow := ⟨0x91004, 8, 1, 0x100, 0x0, .live, 0x0, 0x0, 0x0, 0x0, fun _ => 0x0⟩
def PAT_P_SAMPLES : RegRow := ⟨0x91008, 8, 1, 0x100, 0x0, .live, 0x0, 0x0, 0x0, 0x0, fun _ => 0x0⟩
def PAT_P_STEPI : RegRow := ⟨0x9100C, 8, 1, 0x100, 0x0, .live, 0x0, 0x0, 0x0, 0x0, fun _ => 0x0⟩
def PAT_P_VAL : RegRow := ⟨0x91010, 56, 7, 0x100, 0x4, .live, 0x0, 0x0, 0x0, 0x0, fun _ => 0x0⟩
def PAT_P_DAT : RegRow := ⟨0x91030, 56, 7, 0x100, 0x4, .live, 0x0, 0x0, 0x0, 0x0, fun _ => 0x0⟩
def PAT_P_PSEQ : RegRow := ⟨0x91050, 8, 1, 0x100, 0x0, .live, 0x0, 0x0, 0x0, 0x0, fun _ => 0x0⟩
def PAT_P_ALARM : RegRow := ⟨0x91054, 8, 1, 0x100, 0x0, .live, 0x0, 0x0, 0x0, 0x0, fun _ => 0x0⟩
def PAT_L_ENERGY : RegRow := ⟨0x92000, 16, 1, 0x80, 0x0, .live, 0x0, 0x0, 0x0, 0x0, fun _ => 0x0⟩
def PAT_L_FRIC : RegRow := ⟨0x92004, 16, 1, 0x80, 0x0, .live, 0x0, 0x0, 0x0, 0x0, fun _ => 0x0⟩
def PAT_L_RES : RegRow := ⟨0x92008, 16, 1, 0x80, 0x0, .live, 0x0, 0x0, 0x0, 0x0, fun _ => 0x0⟩
def PAT_L_CUSH : RegRow := ⟨0x9200C, 16, 1, 0x80, 0x0, .live, 0x0, 0x0, 0x0, 0x0, fun _ => 0x0⟩
def PAT_L_CUSH_DAT : RegRow := ⟨0x92010, 16, 1, 0x80, 0x0, .live, 0x0, 0x0, 0x0, 0x0, fun _ => 0x0⟩
def PAT_L_REJ : RegRow := ⟨0x92014, 16, 1, 0x80, 0x0, .live, 0x0, 0x0, 0x0, 0x0, fun _ => 0x0⟩
def PAT_L_ALARM : RegRow := ⟨0x92018, 16, 1, 0x80, 0x0, .live, 0x0, 0x0, 0x0, 0x0, fun _ => 0x0⟩

/-- The registers of the GEN block. -/
def tableGEN : List RegRow :=
  [GEN_DEVICE_ID, GEN_DIESET_REV, GEN_DIE_REV, GEN_SERIAL0, GEN_SERIAL1,
   GEN_SERIAL2, GEN_STRAPS, GEN_LINK_STATUS, GEN_CTRL, GEN_LINK_ERRCNT,
   GEN_RESET_CAUSE, GEN_RESET, GEN_WDT, GEN_SUPPLY, GEN_BOOT_TIME]
/-- The registers of the TCK block. -/
def tableTCK : List RegRow :=
  [TCK_CTRL, TCK_STATUS, TCK_TICK_COUNT, TCK_DTC_LO, TCK_DTC_HI_SNAP,
   TCK_OVR_COUNT, TCK_SLOT_HWM, TCK_NT_CFG, TCK_NT_REF_ID, TCK_NT_STEPLIM,
   TCK_NT_NOW, TCK_NT_ANCHOR_NT, TCK_NT_ANCHOR_DTC_LO, TCK_NT_ANCHOR_DTC_HI, TCK_NT_RATE]
/-- The registers of the SEQ block. -/
def tableSEQ : List RegRow :=
  [SEQ_CTRL, SEQ_BANK_MAP, SEQ_AUTH, SEQ_TRAIN_VIEW, SEQ_PORTAL_STATE,
   SEQ_STEP_STATE, SEQ_BANK_CFG, SEQ_BANK_TIME, SEQ_BANK_STATUS, SEQ_P_INMAP,
   SEQ_P_INMAP2, SEQ_P_CHMAP, SEQ_P_CFG, SEQ_P_OPEN_POS, SEQ_P_TOL,
   SEQ_P_STEP_POS, SEQ_P_STEP_ZONE, SEQ_P_TIMER0, SEQ_P_TIMER1, SEQ_P_TIMER2,
   SEQ_P_TIMER3, SEQ_P_LOCK, SEQ_P_LOCKSIG, SEQ_P_LAMPMAP, SEQ_P_REFSPEED,
   SEQ_P_STATUS, SEQ_P_TIMER_NOW, SEQ_P_CYCLES, SEQ_P_SIG_LAST]
/-- The registers of the ILK block. -/
def tableILK : List RegRow :=
  [ILK_CTRL, ILK_CFG, ILK_FB, ILK_WIN, ILK_B_MAP,
   ILK_B_CRC, ILK_STATUS, ILK_PORTAL, ILK_READBACK, ILK_SUPPLY,
   ILK_COUNT]
/-- The registers of the OBS block. -/
def tableOBS : List RegRow :=
  [OBS_CTRL, OBS_EDGE_STATE, OBS_ACTIVE, OBS_L_KT, OBS_L_KF,
   OBS_L_MASS, OBS_L_STROKE, OBS_L_EDGE, OBS_L_CRIT_C, OBS_L_CRIT_O,
   OBS_L_FORCE_C, OBS_L_FORCE_O, OBS_L_MARGIN_C, OBS_L_MARGIN_O, OBS_L_ZONE_C,
   OBS_L_ZONE_O, OBS_L_SPDMIN_C, OBS_L_SPDMIN_O, OBS_L_REACT_C, OBS_L_REACT_O,
   OBS_L_REVDIST_C, OBS_L_REVDIST_O, OBS_L_REVACC_C, OBS_L_REVACC_O, OBS_L_REVSPD_C,
   OBS_L_REVSPD_O, OBS_L_NOW, OBS_L_STATUS, OBS_L_TARGET, OBS_L_TRIP_POS,
   OBS_L_TRIPS, OBS_P_CURTAIN]
/-- The registers of the LDR block. -/
def tableLDR : List RegRow :=
  [LDR_L_CFG, LDR_L_UMREV, LDR_L_HALL, LDR_L_MOTOR, LDR_L_KE,
   LDR_L_CUR_PI, LDR_L_SPD_PI, LDR_L_POS, LDR_L_ILIM, LDR_L_OC,
   LDR_L_I2T, LDR_L_INJ, LDR_L_STATUS, LDR_L_IDQ, LDR_L_VDQ,
   LDR_L_ANGLE, LDR_L_ILIM_NOW, LDR_L_RDSON_U, LDR_L_RDSON_V, LDR_L_RDSON_W,
   LDR_L_RWIND, LDR_L_OC_COUNT, LDR_CTRL, LDR_RAIL_CFG, LDR_RAIL_OV,
   LDR_UV_DECEL, LDR_PWR, LDR_TEMP_CFG, LDR_PWM, LDR_DIE,
   LDR_DIE_STATUS, LDR_PWR_NOW]
/-- The registers of the MPG block. -/
def tableMPG : List RegRow :=
  [MPG_A_CFG, MPG_A_LIM_LO, MPG_A_LIM_HI, MPG_A_Sk_RAMP, MPG_A_Sk_V_START,
   MPG_A_Sk_V_STOP, MPG_A_Sk_V_BREAK, MPG_A_Sk_V_MAX, MPG_A_Sk_A1, MPG_A_Sk_A2,
   MPG_A_Sk_D1, MPG_A_Sk_D2, MPG_A_Sk_JERK, MPG_A_Sk_CUSHION, MPG_A_CMP_POS,
   MPG_A_CMP_CFG, MPG_A_CMP_INTERVAL, MPG_A_CMP_STATUS, MPG_A_CMP_DTC_LO, MPG_A_CMP_DTC_HI,
   MPG_A_GEAR_CFG, MPG_A_RATIO1, MPG_A_RATIO2, MPG_A_M_CHANGE, MPG_A_STATUS,
   MPG_A_TARGET, MPG_A_REMAIN, MPG_A_PSET, MPG_A_VSET, MPG_A_ASET,
   MPG_MOVING, MPG_HELD]
/-- The registers of the STP block. -/
def tableSTP : List RegRow :=
  [STP_S_CFG, STP_S_MOTOR, STP_S_KE, STP_S_CUR, STP_S_CUR2,
   STP_S_ADAPT, STP_S_LOADTH, STP_S_STALL, STP_S_VMIN, STP_S_HOLD,
   STP_S_PWM, STP_S_OC, STP_S_HOME, STP_S_HOME_DIST, STP_S_STATUS,
   STP_S_LOAD, STP_S_IPH, STP_S_VPH, STP_S_TRIM, STP_S_HOME_TRIP,
   STP_S_HOME_STAT, STP_S_COUNT, STP_CTRL]
/-- The registers of the FBK block. -/
def tableFBK : List RegRow :=
  [FBK_CTRL, FBK_FILT, FBK_FAULT, FBK_L_CFG, FBK_L_WIN,
   FBK_L_STATUS, FBK_L_POS, FBK_L_SPEED, FBK_L_HALLCNT, FBK_L_ERRCNT,
   FBK_E_CFG, FBK_E_GEOM, FBK_E_WIN, FBK_E_STATUS, FBK_E_COUNT,
   FBK_E_IDX_POS, FBK_E_IDX_SPAN, FBK_E_ERRCNT]
/-- The registers of the PAT block. -/
def tablePAT : List RegRow :=
  [PAT_CTRL, PAT_CFG, PAT_FILT, PAT_ARM_CFG, PAT_EXP_LIM,
   PAT_MAR_LIM, PAT_CUSH_LIM, PAT_CUSH_CLR, PAT_TO_LIM, PAT_INR_LIM,
   PAT_P_PENDING, PAT_P_FROZEN, PAT_P_SAMPLES, PAT_P_STEPI, PAT_P_VAL,
   PAT_P_DAT, PAT_P_PSEQ, PAT_P_ALARM, PAT_L_ENERGY, PAT_L_FRIC,
   PAT_L_RES, PAT_L_CUSH, PAT_L_CUSH_DAT, PAT_L_REJ, PAT_L_ALARM]
/-- The registers of the LSW block. -/
def tableLSW : List RegRow :=
  [LSW_CTRL, LSW_STATUS, LSW_STATE, LSW_CMD_LO, LSW_CMD_HI,
   LSW_OPEN_LO, LSW_OPEN_HI, LSW_DIM_CFG, LSW_DIM_STATUS, LSW_G_RAIL_CFG,
   LSW_G_RAIL_TIME, LSW_G_SENSE, LSW_G_STATUS, LSW_G_FLAGS, LSW_C_CFG,
   LSW_C_LIMIT, LSW_C_TIME, LSW_C_OL, LSW_C_STATUS, LSW_C_CURRENT,
   LSW_C_TEMP, LSW_C_COUNT, LSW_C_TURN_ONS]
/-- The registers of the FIO block. -/
def tableFIO : List RegRow :=
  [FIO_CTRL, FIO_SUPPLY, FIO_SUPPLY_CFG, FIO_IN_STATE_LO, FIO_IN_STATE_HI,
   FIO_IN_UNK_LO, FIO_IN_UNK_HI, FIO_IN_WB_LO, FIO_IN_WB_HI, FIO_OUT_STATE,
   FIO_OUT_FLAGS, FIO_TL_CFG, FIO_TL_TIME, FIO_TL_FILT0, FIO_TL_FILT1,
   FIO_TL_STATUS, FIO_F_CFG, FIO_F_STATUS, FIO_F_CURRENT, FIO_F_COUNT,
   FIO_O_CFG, FIO_O_STATUS, FIO_O_COUNT]
/-- The registers of the CAN block. -/
def tableCAN : List RegRow :=
  [CAN_C_MODE, CAN_C_CFG, CAN_C_NBT, CAN_C_DBT, CAN_C_TDC,
   CAN_C_STATUS, CAN_C_ERRCNT, CAN_C_COUNT, CAN_C_RXCNT, CAN_C_TXCNT,
   CAN_C_NT, CAN_C_OBJ_EN, CAN_C_NEW, CAN_C_LOST, CAN_C_TXREQ,
   CAN_C_TXFAIL, CAN_O_ID, CAN_O_CFG, CAN_O_STATUS, CAN_C_AUTH]
/-- The registers of the HIF block. -/
def tableHIF : List RegRow :=
  [HIF_CTRL, HIF_CFG, HIF_SUBSYS, HIF_TRACK, HIF_TRACK_HWM,
   HIF_GUAR, HIF_PAGE_OWN, HIF_PAGE_BUSY, HIF_P_STATUS, HIF_P_CTRL,
   HIF_P_STAT0, HIF_P_STAT1, HIF_P_STAT2, HIF_P_EVSEQ, HIF_R_CFG,
   HIF_R_CTRL, HIF_R_BASE_LO, HIF_R_BASE_HI, HIF_R_CQ_LO, HIF_R_CQ_HI,
   HIF_R_EVMASK, HIF_R_MOD, HIF_R_STATUS, HIF_R_IDX, HIF_R_CQ_IDX,
   HIF_R_COUNT]
/-- The registers of the MEM block. -/
def tableMEM : List RegRow :=
  [MEM_CTRL, MEM_STATUS, MEM_CFG, MEM_AUTH, MEM_FILL_TIME,
   MEM_M_RANGE_LO, MEM_M_RANGE_HI, MEM_M_PATROL, MEM_M_WEIR, MEM_M_WEIR_NOW,
   MEM_M_CE_COUNT, MEM_M_UE_COUNT, MEM_M_CE_ADDR, MEM_M_UE_ADDR, MEM_M_SL_STATUS,
   MEM_M_SL_WORDS, MEM_M_SL_CE, MEM_M_SL_UNWRITTEN, MEM_M_SL_POS, MEM_M_SL_UE,
   MEM_M_SL_FIRST_UE, MEM_M_SL_LAST_UE, MEM_M_FLIP0, MEM_M_FLIP1, MEM_M_FLIP2,
   MEM_M_INJ_ADDR, MEM_M_INJ_CFG, MEM_M_INJ_STATUS]
/-- The registers of the REC block. -/
def tableREC : List RegRow :=
  [REC_CTRL, REC_CFG, REC_STATUS, REC_NEXT_LO, REC_NEXT_HI,
   REC_COMMIT_LO, REC_COMMIT_HI, REC_OLDEST_LO, REC_OLDEST_HI, REC_COUNT,
   REC_AUTH, REC_P_FROM_LO, REC_P_FROM_HI, REC_P_LAG, REC_P_SKIPPED,
   REC_U_CFG, REC_U_PRE, REC_U_STATUS, REC_U_INDEX, REC_U_TRIG_DTC_LO,
   REC_U_TRIG_DTC_HI]
/-- The registers of the CFG block. -/
def tableCFG : List RegRow :=
  [CFG_CTRL, CFG_STATUS, CFG_ID, CFG_GEN, CFG_REJECT,
   CFG_REJECT_COUNT, CFG_GROUP_FILL, CFG_AUTH, CFG_RELIEF_WAIT, CFG_BANKb_STATE,
   CFG_BANKb_GEN, CFG_BANKb_ID, CFG_LOAD_TIME]

end Reg

/-- The registers of the block an offset lies in (R33). -/
def regTableOf (off : Nat) : List RegRow :=
  match off / 0x10000 with
  | 0 => Reg.tableGEN
  | 1 => Reg.tableTCK
  | 2 => Reg.tableSEQ
  | 3 => Reg.tableILK
  | 4 => Reg.tableOBS
  | 5 => Reg.tableLDR
  | 6 => Reg.tableMPG
  | 7 => Reg.tableSTP
  | 8 => Reg.tableFBK
  | 9 => Reg.tablePAT
  | 10 => Reg.tableLSW
  | 11 => Reg.tableFIO
  | 12 => Reg.tableCAN
  | 13 => Reg.tableHIF
  | 14 => Reg.tableMEM
  | 15 => if off < 0xF8000 then Reg.tableREC else Reg.tableCFG
  | _ => []

/-- The register at an offset, and its instance; none where none is implemented (R11). -/
def findRegIn (off : Nat) : List RegRow → Option (RegRow × Nat)
  | [] => none
  | r :: l => match r.find off with
    | some i => some (r, i)
    | none => findRegIn off l

/-- The register at an offset. -/
def findReg (off : Nat) : Option (RegRow × Nat) := findRegIn off (regTableOf off)

/-- The words of the writable registers, listed where they differ from the reset value: (offset, word), offsets rising. -/
structure RegFile where
  vals : List (Nat × Word)
  deriving DecidableEq, Repr, Inhabited

/-- The reset word of instance i. -/
def RegRow.resetWord (r : RegRow) (i : Nat) : Word := BitVec.ofNat 32 (r.reset i)

/-- The word a writable register holds. -/
def RegFile.word (f : RegFile) (r : RegRow) (i : Nat) : Word :=
  match lookupKey (r.addr i) f.vals with
  | some w => w
  | none => r.resetWord i

/-- A writable register set to a word. -/
def RegFile.setWord (f : RegFile) (r : RegRow) (i : Nat) (w : Word) : RegFile :=
  if w = r.resetWord i then ⟨eraseKey (r.addr i) f.vals⟩ else ⟨insertKey (r.addr i) w f.vals⟩

/-- One field of a writable register. -/
def RegFile.fld (f : RegFile) (r : RegRow) (i hi lo : Nat) : Nat := fldW (f.word r i) hi lo

/-- Every register at its reset value. -/
def RegFile.reset : RegFile := ⟨[]⟩

end Sys2Proof.Machine
end

