-- ==== Sys2Proof/Machine/RegFields.lean ====
section
/-! DEFINITION. The writable fields of the registers by name: the bits each register table gives them. -/

namespace Sys2Proof.Machine.RegFile

def TCK_NT_CFG_TIMEOUT (f : RegFile) : Nat := f.fld Reg.TCK_NT_CFG 0 31 24
def TCK_NT_CFG_PERIOD (f : RegFile) : Nat := f.fld Reg.TCK_NT_CFG 0 23 8
def TCK_NT_CFG_SRC (f : RegFile) : Nat := f.fld Reg.TCK_NT_CFG 0 3 2
def TCK_NT_CFG_MODE (f : RegFile) : Nat := f.fld Reg.TCK_NT_CFG 0 1 0
def TCK_NT_REF_ID_IDE (f : RegFile) : Nat := f.fld Reg.TCK_NT_REF_ID 0 29 29
def TCK_NT_REF_ID_ID (f : RegFile) : Nat := f.fld Reg.TCK_NT_REF_ID 0 28 0
def TCK_NT_STEPLIM_LIMIT (f : RegFile) : Nat := f.fld Reg.TCK_NT_STEPLIM 0 15 0
def SEQ_BANK_MAP_PORTAL_EN (f : RegFile) : Nat := f.fld Reg.SEQ_BANK_MAP 0 23 16
def SEQ_BANK_MAP_BANK (f : RegFile) : Nat := f.fld Reg.SEQ_BANK_MAP 0 15 0
def SEQ_AUTH_PORT_B (f : RegFile) : Nat := f.fld Reg.SEQ_AUTH 0 23 12
def SEQ_AUTH_PORT_A (f : RegFile) : Nat := f.fld Reg.SEQ_AUTH 0 11 0
def SEQ_BANK_CFG_SYNC_IN (f : RegFile) (i : Nat) : Nat := f.fld Reg.SEQ_BANK_CFG i 31 24
def SEQ_BANK_CFG_DEPART_OWNER (f : RegFile) (i : Nat) : Nat := f.fld Reg.SEQ_BANK_CFG i 8 8
def SEQ_BANK_CFG_DEPART_EN (f : RegFile) (i : Nat) : Nat := f.fld Reg.SEQ_BANK_CFG i 7 7
def SEQ_BANK_CFG_REQ_REOPEN (f : RegFile) (i : Nat) : Nat := f.fld Reg.SEQ_BANK_CFG i 6 6
def SEQ_BANK_CFG_PUSH_TO_OPEN (f : RegFile) (i : Nat) : Nat := f.fld Reg.SEQ_BANK_CFG i 5 5
def SEQ_BANK_CFG_PSD (f : RegFile) (i : Nat) : Nat := f.fld Reg.SEQ_BANK_CFG i 4 4
def SEQ_BANK_CFG_RELEASE_SRC (f : RegFile) (i : Nat) : Nat := f.fld Reg.SEQ_BANK_CFG i 1 0
def SEQ_BANK_TIME_SYNC_WAIT (f : RegFile) (i : Nat) : Nat := f.fld Reg.SEQ_BANK_TIME i 31 16
def SEQ_BANK_TIME_DEPART_MS (f : RegFile) (i : Nat) : Nat := f.fld Reg.SEQ_BANK_TIME i 15 0
def SEQ_P_INMAP_ISOL (f : RegFile) (i : Nat) : Nat := f.fld Reg.SEQ_P_INMAP i 31 24
def SEQ_P_INMAP_EMREL (f : RegFile) (i : Nat) : Nat := f.fld Reg.SEQ_P_INMAP i 23 16
def SEQ_P_INMAP_LOCK_B (f : RegFile) (i : Nat) : Nat := f.fld Reg.SEQ_P_INMAP i 15 8
def SEQ_P_INMAP_LOCK_A (f : RegFile) (i : Nat) : Nat := f.fld Reg.SEQ_P_INMAP i 7 0
def SEQ_P_INMAP2_REQ (f : RegFile) (i : Nat) : Nat := f.fld Reg.SEQ_P_INMAP2 i 7 0
def SEQ_P_CHMAP_INT_LAMP (f : RegFile) (i : Nat) : Nat := f.fld Reg.SEQ_P_CHMAP i 31 24
def SEQ_P_CHMAP_EXT_LAMP (f : RegFile) (i : Nat) : Nat := f.fld Reg.SEQ_P_CHMAP i 23 16
def SEQ_P_CHMAP_REL_CH (f : RegFile) (i : Nat) : Nat := f.fld Reg.SEQ_P_CHMAP i 15 8
def SEQ_P_CHMAP_LOCK_CH (f : RegFile) (i : Nat) : Nat := f.fld Reg.SEQ_P_CHMAP i 7 0
def SEQ_P_CFG_STEP_RETRY (f : RegFile) (i : Nat) : Nat := f.fld Reg.SEQ_P_CFG i 15 12
def SEQ_P_CFG_RECLOSE_MAX (f : RegFile) (i : Nat) : Nat := f.fld Reg.SEQ_P_CFG i 11 8
def SEQ_P_CFG_HELD_REOPEN (f : RegFile) (i : Nat) : Nat := f.fld Reg.SEQ_P_CFG i 4 4
def SEQ_P_CFG_STEP_REQUIRED (f : RegFile) (i : Nat) : Nat := f.fld Reg.SEQ_P_CFG i 3 3
def SEQ_P_CFG_STEP_MODE (f : RegFile) (i : Nat) : Nat := f.fld Reg.SEQ_P_CFG i 1 0
def SEQ_P_OPEN_POS_OPEN_POS (f : RegFile) (i : Nat) : Nat := f.fld Reg.SEQ_P_OPEN_POS i 31 0
def SEQ_P_TOL_OPEN_TOL (f : RegFile) (i : Nat) : Nat := f.fld Reg.SEQ_P_TOL i 31 16
def SEQ_P_TOL_CLOSED_TOL (f : RegFile) (i : Nat) : Nat := f.fld Reg.SEQ_P_TOL i 15 0
def SEQ_P_STEP_POS_DEPLOY_POS (f : RegFile) (i : Nat) : Nat := f.fld Reg.SEQ_P_STEP_POS i 31 0
def SEQ_P_STEP_ZONE_CONTACT_ZONE (f : RegFile) (i : Nat) : Nat := f.fld Reg.SEQ_P_STEP_ZONE i 15 0
def SEQ_P_TIMER0_T_OPEN (f : RegFile) (i : Nat) : Nat := f.fld Reg.SEQ_P_TIMER0 i 31 16
def SEQ_P_TIMER0_T_UNLOCK (f : RegFile) (i : Nat) : Nat := f.fld Reg.SEQ_P_TIMER0 i 15 0
def SEQ_P_TIMER1_T_DWELL (f : RegFile) (i : Nat) : Nat := f.fld Reg.SEQ_P_TIMER1 i 31 16
def SEQ_P_TIMER1_T_CLOSE (f : RegFile) (i : Nat) : Nat := f.fld Reg.SEQ_P_TIMER1 i 15 0
def SEQ_P_TIMER2_T_RECLOSE (f : RegFile) (i : Nat) : Nat := f.fld Reg.SEQ_P_TIMER2 i 31 16
def SEQ_P_TIMER2_T_WARN (f : RegFile) (i : Nat) : Nat := f.fld Reg.SEQ_P_TIMER2 i 15 0
def SEQ_P_TIMER3_T_STEP (f : RegFile) (i : Nat) : Nat := f.fld Reg.SEQ_P_TIMER3 i 31 16
def SEQ_P_TIMER3_T_OBS_CLEAR (f : RegFile) (i : Nat) : Nat := f.fld Reg.SEQ_P_TIMER3 i 15 0
def SEQ_P_LOCK_T_LOCK (f : RegFile) (i : Nat) : Nat := f.fld Reg.SEQ_P_LOCK i 31 16
def SEQ_P_LOCK_SIG_PULSE (f : RegFile) (i : Nat) : Nat := f.fld Reg.SEQ_P_LOCK i 3 0
def SEQ_P_LOCKSIG_SIG_MAX (f : RegFile) (i : Nat) : Nat := f.fld Reg.SEQ_P_LOCKSIG i 31 16
def SEQ_P_LOCKSIG_SIG_MIN (f : RegFile) (i : Nat) : Nat := f.fld Reg.SEQ_P_LOCKSIG i 15 0
def SEQ_P_LAMPMAP_INT_ON (f : RegFile) (i : Nat) : Nat := f.fld Reg.SEQ_P_LAMPMAP i 26 16
def SEQ_P_LAMPMAP_EXT_ON (f : RegFile) (i : Nat) : Nat := f.fld Reg.SEQ_P_LAMPMAP i 10 0
def SEQ_P_REFSPEED_REFSPEED (f : RegFile) (i : Nat) : Nat := f.fld Reg.SEQ_P_REFSPEED i 31 0
def ILK_CFG_SCOPE (f : RegFile) : Nat := f.fld Reg.ILK_CFG 0 15 8
def ILK_CFG_FB_POL (f : RegFile) : Nat := f.fld Reg.ILK_CFG 0 3 3
def ILK_CFG_ISOL_MODE (f : RegFile) : Nat := f.fld Reg.ILK_CFG 0 1 1
def ILK_CFG_ENABLE (f : RegFile) : Nat := f.fld Reg.ILK_CFG 0 0 0
def ILK_FB_T_FB (f : RegFile) : Nat := f.fld Reg.ILK_FB 0 31 16
def ILK_FB_FB_IN (f : RegFile) : Nat := f.fld Reg.ILK_FB 0 7 0
def ILK_WIN_WIN_SAFE (f : RegFile) : Nat := f.fld Reg.ILK_WIN 0 31 16
def ILK_WIN_WIN_DANGER (f : RegFile) : Nat := f.fld Reg.ILK_WIN 0 7 0
def ILK_B_MAP_LOCK_B_ODD (f : RegFile) (i : Nat) : Nat := f.fld Reg.ILK_B_MAP i 31 24
def ILK_B_MAP_LOCK_A_ODD (f : RegFile) (i : Nat) : Nat := f.fld Reg.ILK_B_MAP i 23 16
def ILK_B_MAP_LOCK_B_EVEN (f : RegFile) (i : Nat) : Nat := f.fld Reg.ILK_B_MAP i 15 8
def ILK_B_MAP_LOCK_A_EVEN (f : RegFile) (i : Nat) : Nat := f.fld Reg.ILK_B_MAP i 7 0
def OBS_L_KT_KT (f : RegFile) (i : Nat) : Nat := f.fld Reg.OBS_L_KT i 31 0
def OBS_L_KF_KF (f : RegFile) (i : Nat) : Nat := f.fld Reg.OBS_L_KF i 31 0
def OBS_L_MASS_MASS (f : RegFile) (i : Nat) : Nat := f.fld Reg.OBS_L_MASS i 15 0
def OBS_L_STROKE_STROKE (f : RegFile) (i : Nat) : Nat := f.fld Reg.OBS_L_STROKE i 31 0
def OBS_L_EDGE_EDGE_MUTE (f : RegFile) (i : Nat) : Nat := f.fld Reg.OBS_L_EDGE i 31 16
def OBS_L_EDGE_PRESENT (f : RegFile) (i : Nat) : Nat := f.fld Reg.OBS_L_EDGE i 0 0
def OBS_L_CRIT_C_SPD_PCT (f : RegFile) (i : Nat) : Nat := f.fld Reg.OBS_L_CRIT_C i 31 24
def OBS_L_CRIT_C_N_SPD (f : RegFile) (i : Nat) : Nat := f.fld Reg.OBS_L_CRIT_C i 23 16
def OBS_L_CRIT_C_N_ABS (f : RegFile) (i : Nat) : Nat := f.fld Reg.OBS_L_CRIT_C i 11 8
def OBS_L_CRIT_C_N_MAP (f : RegFile) (i : Nat) : Nat := f.fld Reg.OBS_L_CRIT_C i 7 0
def OBS_L_CRIT_O_SPD_PCT (f : RegFile) (i : Nat) : Nat := f.fld Reg.OBS_L_CRIT_O i 31 24
def OBS_L_CRIT_O_N_SPD (f : RegFile) (i : Nat) : Nat := f.fld Reg.OBS_L_CRIT_O i 23 16
def OBS_L_CRIT_O_N_ABS (f : RegFile) (i : Nat) : Nat := f.fld Reg.OBS_L_CRIT_O i 11 8
def OBS_L_CRIT_O_N_MAP (f : RegFile) (i : Nat) : Nat := f.fld Reg.OBS_L_CRIT_O i 7 0
def OBS_L_FORCE_C_F_ABS (f : RegFile) (i : Nat) : Nat := f.fld Reg.OBS_L_FORCE_C i 31 16
def OBS_L_FORCE_C_F_RELAX (f : RegFile) (i : Nat) : Nat := f.fld Reg.OBS_L_FORCE_C i 15 0
def OBS_L_FORCE_O_F_ABS (f : RegFile) (i : Nat) : Nat := f.fld Reg.OBS_L_FORCE_O i 31 16
def OBS_L_FORCE_O_F_RELAX (f : RegFile) (i : Nat) : Nat := f.fld Reg.OBS_L_FORCE_O i 15 0
def OBS_L_MARGIN_C_MARGIN_MAX (f : RegFile) (i : Nat) : Nat := f.fld Reg.OBS_L_MARGIN_C i 31 16
def OBS_L_MARGIN_C_MARGIN_MIN (f : RegFile) (i : Nat) : Nat := f.fld Reg.OBS_L_MARGIN_C i 15 0
def OBS_L_MARGIN_O_MARGIN_MAX (f : RegFile) (i : Nat) : Nat := f.fld Reg.OBS_L_MARGIN_O i 31 16
def OBS_L_MARGIN_O_MARGIN_MIN (f : RegFile) (i : Nat) : Nat := f.fld Reg.OBS_L_MARGIN_O i 15 0
def OBS_L_ZONE_C_T_RELAX (f : RegFile) (i : Nat) : Nat := f.fld Reg.OBS_L_ZONE_C i 31 16
def OBS_L_ZONE_C_END (f : RegFile) (i : Nat) : Nat := f.fld Reg.OBS_L_ZONE_C i 15 0
def OBS_L_ZONE_O_T_RELAX (f : RegFile) (i : Nat) : Nat := f.fld Reg.OBS_L_ZONE_O i 31 16
def OBS_L_ZONE_O_END (f : RegFile) (i : Nat) : Nat := f.fld Reg.OBS_L_ZONE_O i 15 0
def OBS_L_SPDMIN_C_SPD_MIN (f : RegFile) (i : Nat) : Nat := f.fld Reg.OBS_L_SPDMIN_C i 31 0
def OBS_L_SPDMIN_O_SPD_MIN (f : RegFile) (i : Nat) : Nat := f.fld Reg.OBS_L_SPDMIN_O i 31 0
def OBS_L_REACT_C_EDGE_EN (f : RegFile) (i : Nat) : Nat := f.fld Reg.OBS_L_REACT_C i 2 2
def OBS_L_REACT_C_REACT (f : RegFile) (i : Nat) : Nat := f.fld Reg.OBS_L_REACT_C i 1 0
def OBS_L_REACT_O_EDGE_EN (f : RegFile) (i : Nat) : Nat := f.fld Reg.OBS_L_REACT_O i 2 2
def OBS_L_REACT_O_REACT (f : RegFile) (i : Nat) : Nat := f.fld Reg.OBS_L_REACT_O i 1 0
def OBS_L_REVDIST_C_REV_DIST (f : RegFile) (i : Nat) : Nat := f.fld Reg.OBS_L_REVDIST_C i 31 0
def OBS_L_REVDIST_O_REV_DIST (f : RegFile) (i : Nat) : Nat := f.fld Reg.OBS_L_REVDIST_O i 31 0
def OBS_L_REVACC_C_REV_ACC (f : RegFile) (i : Nat) : Nat := f.fld Reg.OBS_L_REVACC_C i 31 0
def OBS_L_REVACC_O_REV_ACC (f : RegFile) (i : Nat) : Nat := f.fld Reg.OBS_L_REVACC_O i 31 0
def OBS_L_REVSPD_C_REV_SPEED (f : RegFile) (i : Nat) : Nat := f.fld Reg.OBS_L_REVSPD_C i 31 0
def OBS_L_REVSPD_O_REV_SPEED (f : RegFile) (i : Nat) : Nat := f.fld Reg.OBS_L_REVSPD_O i 31 0
def OBS_P_CURTAIN_CURT_B (f : RegFile) (i : Nat) : Nat := f.fld Reg.OBS_P_CURTAIN i 31 24
def OBS_P_CURTAIN_CURT_A (f : RegFile) (i : Nat) : Nat := f.fld Reg.OBS_P_CURTAIN i 23 16
def OBS_P_CURTAIN_UNK_IGNORE (f : RegFile) (i : Nat) : Nat := f.fld Reg.OBS_P_CURTAIN i 4 4
def OBS_P_CURTAIN_DIR_O (f : RegFile) (i : Nat) : Nat := f.fld Reg.OBS_P_CURTAIN i 2 2
def OBS_P_CURTAIN_DIR_C (f : RegFile) (i : Nat) : Nat := f.fld Reg.OBS_P_CURTAIN i 1 1
def OBS_P_CURTAIN_POL (f : RegFile) (i : Nat) : Nat := f.fld Reg.OBS_P_CURTAIN i 0 0
def LDR_L_CFG_POLE_PAIRS (f : RegFile) (i : Nat) : Nat := f.fld Reg.LDR_L_CFG i 15 12
def LDR_L_CFG_IDLE_OPEN (f : RegFile) (i : Nat) : Nat := f.fld Reg.LDR_L_CFG i 11 10
def LDR_L_CFG_IDLE_CLOSED (f : RegFile) (i : Nat) : Nat := f.fld Reg.LDR_L_CFG i 9 8
def LDR_L_CFG_ANGLE_SRC (f : RegFile) (i : Nat) : Nat := f.fld Reg.LDR_L_CFG i 1 1
def LDR_L_CFG_DIR_INV (f : RegFile) (i : Nat) : Nat := f.fld Reg.LDR_L_CFG i 0 0
def LDR_L_UMREV_UMREV (f : RegFile) (i : Nat) : Nat := f.fld Reg.LDR_L_UMREV i 31 0
def LDR_L_HALL_HALL_OFFSET (f : RegFile) (i : Nat) : Nat := f.fld Reg.LDR_L_HALL i 15 0
def LDR_L_MOTOR_R_PH (f : RegFile) (i : Nat) : Nat := f.fld Reg.LDR_L_MOTOR i 31 16
def LDR_L_MOTOR_L_PH (f : RegFile) (i : Nat) : Nat := f.fld Reg.LDR_L_MOTOR i 15 0
def LDR_L_KE_KE (f : RegFile) (i : Nat) : Nat := f.fld Reg.LDR_L_KE i 31 0
def LDR_L_CUR_PI_KP (f : RegFile) (i : Nat) : Nat := f.fld Reg.LDR_L_CUR_PI i 31 16
def LDR_L_CUR_PI_KI (f : RegFile) (i : Nat) : Nat := f.fld Reg.LDR_L_CUR_PI i 15 0
def LDR_L_SPD_PI_KV (f : RegFile) (i : Nat) : Nat := f.fld Reg.LDR_L_SPD_PI i 31 16
def LDR_L_SPD_PI_KIV (f : RegFile) (i : Nat) : Nat := f.fld Reg.LDR_L_SPD_PI i 15 0
def LDR_L_POS_KPOS (f : RegFile) (i : Nat) : Nat := f.fld Reg.LDR_L_POS i 15 0
def LDR_L_ILIM_IQ_MAX (f : RegFile) (i : Nat) : Nat := f.fld Reg.LDR_L_ILIM i 31 16
def LDR_L_ILIM_HOLD_I (f : RegFile) (i : Nat) : Nat := f.fld Reg.LDR_L_ILIM i 15 0
def LDR_L_OC_OC_TRIP (f : RegFile) (i : Nat) : Nat := f.fld Reg.LDR_L_OC i 31 16
def LDR_L_OC_OC_LATCH (f : RegFile) (i : Nat) : Nat := f.fld Reg.LDR_L_OC i 3 0
def LDR_L_I2T_I_CONT (f : RegFile) (i : Nat) : Nat := f.fld Reg.LDR_L_I2T i 31 16
def LDR_L_I2T_I2T_TAU (f : RegFile) (i : Nat) : Nat := f.fld Reg.LDR_L_I2T i 15 0
def LDR_L_INJ_INJ_TICKS (f : RegFile) (i : Nat) : Nat := f.fld Reg.LDR_L_INJ i 31 16
def LDR_L_INJ_ID_INJ (f : RegFile) (i : Nat) : Nat := f.fld Reg.LDR_L_INJ i 15 0
def LDR_RAIL_CFG_UV_RECOVER (f : RegFile) : Nat := f.fld Reg.LDR_RAIL_CFG 0 31 16
def LDR_RAIL_CFG_NOMINAL (f : RegFile) : Nat := f.fld Reg.LDR_RAIL_CFG 0 15 0
def LDR_RAIL_OV_OV_TRIP (f : RegFile) : Nat := f.fld Reg.LDR_RAIL_OV 0 31 16
def LDR_RAIL_OV_OV_CLAMP (f : RegFile) : Nat := f.fld Reg.LDR_RAIL_OV 0 15 0
def LDR_UV_DECEL_UV_DECEL (f : RegFile) : Nat := f.fld Reg.LDR_UV_DECEL 0 31 0
def LDR_PWR_ID_DUMP (f : RegFile) : Nat := f.fld Reg.LDR_PWR 0 31 16
def LDR_PWR_PWR_LIMIT (f : RegFile) : Nat := f.fld Reg.LDR_PWR 0 15 0
def LDR_TEMP_CFG_T_WARN (f : RegFile) : Nat := f.fld Reg.LDR_TEMP_CFG 0 31 16
def LDR_TEMP_CFG_T_DERATE (f : RegFile) : Nat := f.fld Reg.LDR_TEMP_CFG 0 15 0
def LDR_PWM_MOD_MAX (f : RegFile) : Nat := f.fld Reg.LDR_PWM 0 23 16
def LDR_PWM_DEAD (f : RegFile) : Nat := f.fld Reg.LDR_PWM 0 15 8
def LDR_PWM_MIN_PULSE (f : RegFile) : Nat := f.fld Reg.LDR_PWM 0 7 0
def MPG_A_CFG_LIM_EN (f : RegFile) (i : Nat) : Nat := f.fld Reg.MPG_A_CFG i 0 0
def MPG_A_LIM_LO_LIMIT (f : RegFile) (i : Nat) : Nat := f.fld Reg.MPG_A_LIM_LO i 31 0
def MPG_A_LIM_HI_LIMIT (f : RegFile) (i : Nat) : Nat := f.fld Reg.MPG_A_LIM_HI i 31 0
def MPG_A_Sk_RAMP_RAMP (f : RegFile) (i : Nat) : Nat := f.fld Reg.MPG_A_Sk_RAMP i 0 0
def MPG_A_Sk_V_START_V_START (f : RegFile) (i : Nat) : Nat := f.fld Reg.MPG_A_Sk_V_START i 31 0
def MPG_A_Sk_V_STOP_V_STOP (f : RegFile) (i : Nat) : Nat := f.fld Reg.MPG_A_Sk_V_STOP i 31 0
def MPG_A_Sk_V_BREAK_V_BREAK (f : RegFile) (i : Nat) : Nat := f.fld Reg.MPG_A_Sk_V_BREAK i 31 0
def MPG_A_Sk_V_MAX_V_MAX (f : RegFile) (i : Nat) : Nat := f.fld Reg.MPG_A_Sk_V_MAX i 31 0
def MPG_A_Sk_A1_A1 (f : RegFile) (i : Nat) : Nat := f.fld Reg.MPG_A_Sk_A1 i 31 0
def MPG_A_Sk_A2_A2 (f : RegFile) (i : Nat) : Nat := f.fld Reg.MPG_A_Sk_A2 i 31 0
def MPG_A_Sk_D1_D1 (f : RegFile) (i : Nat) : Nat := f.fld Reg.MPG_A_Sk_D1 i 31 0
def MPG_A_Sk_D2_D2 (f : RegFile) (i : Nat) : Nat := f.fld Reg.MPG_A_Sk_D2 i 31 0
def MPG_A_Sk_JERK_JERK (f : RegFile) (i : Nat) : Nat := f.fld Reg.MPG_A_Sk_JERK i 31 0
def MPG_A_Sk_CUSHION_CUSHION (f : RegFile) (i : Nat) : Nat := f.fld Reg.MPG_A_Sk_CUSHION i 31 0
def MPG_A_CMP_POS_CMP_POS (f : RegFile) (i : Nat) : Nat := f.fld Reg.MPG_A_CMP_POS i 31 0
def MPG_A_CMP_CFG_DIR (f : RegFile) (i : Nat) : Nat := f.fld Reg.MPG_A_CMP_CFG i 1 0
def MPG_A_CMP_INTERVAL_INTERVAL (f : RegFile) (i : Nat) : Nat := f.fld Reg.MPG_A_CMP_INTERVAL i 31 0
def MPG_A_GEAR_CFG_MODE (f : RegFile) (i : Nat) : Nat := f.fld Reg.MPG_A_GEAR_CFG i 1 0
def MPG_A_RATIO1_RATIO (f : RegFile) (i : Nat) : Nat := f.fld Reg.MPG_A_RATIO1 i 31 0
def MPG_A_RATIO2_RATIO (f : RegFile) (i : Nat) : Nat := f.fld Reg.MPG_A_RATIO2 i 31 0
def MPG_A_M_CHANGE_M_CHANGE (f : RegFile) (i : Nat) : Nat := f.fld Reg.MPG_A_M_CHANGE i 31 0
def STP_S_CFG_HOME_IN (f : RegFile) (i : Nat) : Nat := f.fld Reg.STP_S_CFG i 31 24
def STP_S_CFG_HOME_POL (f : RegFile) (i : Nat) : Nat := f.fld Reg.STP_S_CFG i 1 1
def STP_S_CFG_DIR_INV (f : RegFile) (i : Nat) : Nat := f.fld Reg.STP_S_CFG i 0 0
def STP_S_MOTOR_R_PH (f : RegFile) (i : Nat) : Nat := f.fld Reg.STP_S_MOTOR i 31 16
def STP_S_MOTOR_L_PH (f : RegFile) (i : Nat) : Nat := f.fld Reg.STP_S_MOTOR i 15 0
def STP_S_KE_KE (f : RegFile) (i : Nat) : Nat := f.fld Reg.STP_S_KE i 31 0
def STP_S_CUR_I_MAX (f : RegFile) (i : Nat) : Nat := f.fld Reg.STP_S_CUR i 31 16
def STP_S_CUR_I_MIN (f : RegFile) (i : Nat) : Nat := f.fld Reg.STP_S_CUR i 15 0
def STP_S_CUR2_I_HOLD (f : RegFile) (i : Nat) : Nat := f.fld Reg.STP_S_CUR2 i 31 16
def STP_S_CUR2_I_LOW (f : RegFile) (i : Nat) : Nat := f.fld Reg.STP_S_CUR2 i 15 0
def STP_S_ADAPT_I_STEP (f : RegFile) (i : Nat) : Nat := f.fld Reg.STP_S_ADAPT i 31 24
def STP_S_ADAPT_UP_TICKS (f : RegFile) (i : Nat) : Nat := f.fld Reg.STP_S_ADAPT i 23 16
def STP_S_ADAPT_DOWN_TICKS (f : RegFile) (i : Nat) : Nat := f.fld Reg.STP_S_ADAPT i 15 8
def STP_S_ADAPT_FILT (f : RegFile) (i : Nat) : Nat := f.fld Reg.STP_S_ADAPT i 3 0
def STP_S_LOADTH_UP_TH (f : RegFile) (i : Nat) : Nat := f.fld Reg.STP_S_LOADTH i 31 16
def STP_S_LOADTH_DOWN_TH (f : RegFile) (i : Nat) : Nat := f.fld Reg.STP_S_LOADTH i 15 0
def STP_S_STALL_STALL_TH (f : RegFile) (i : Nat) : Nat := f.fld Reg.STP_S_STALL i 31 16
def STP_S_STALL_STALL_TICKS (f : RegFile) (i : Nat) : Nat := f.fld Reg.STP_S_STALL i 15 8
def STP_S_VMIN_SG_VMIN (f : RegFile) (i : Nat) : Nat := f.fld Reg.STP_S_VMIN i 31 0
def STP_S_HOLD_T_STANDSTILL (f : RegFile) (i : Nat) : Nat := f.fld Reg.STP_S_HOLD i 15 0
def STP_S_PWM_MOD_MAX (f : RegFile) (i : Nat) : Nat := f.fld Reg.STP_S_PWM i 23 16
def STP_S_PWM_TRIM_EN (f : RegFile) (i : Nat) : Nat := f.fld Reg.STP_S_PWM i 8 8
def STP_S_PWM_KTRIM (f : RegFile) (i : Nat) : Nat := f.fld Reg.STP_S_PWM i 7 0
def STP_S_OC_OC_TRIP (f : RegFile) (i : Nat) : Nat := f.fld Reg.STP_S_OC i 31 16
def STP_S_OC_OC_LATCH (f : RegFile) (i : Nat) : Nat := f.fld Reg.STP_S_OC i 3 0
def STP_S_HOME_HOME_QUAL (f : RegFile) (i : Nat) : Nat := f.fld Reg.STP_S_HOME i 31 24
def STP_S_HOME_HOME_POS (f : RegFile) (i : Nat) : Nat := f.fld Reg.STP_S_HOME i 15 0
def STP_S_HOME_DIST_HOME_DIST (f : RegFile) (i : Nat) : Nat := f.fld Reg.STP_S_HOME_DIST i 31 0
def FBK_FILT_HALL_F (f : RegFile) : Nat := f.fld Reg.FBK_FILT 0 12 8
def FBK_FILT_ENC_F (f : RegFile) : Nat := f.fld Reg.FBK_FILT 0 4 0
def FBK_L_CFG_DIR_EVT (f : RegFile) (i : Nat) : Nat := f.fld Reg.FBK_L_CFG i 1 1
def FBK_L_CFG_POS_SRC (f : RegFile) (i : Nat) : Nat := f.fld Reg.FBK_L_CFG i 0 0
def FBK_L_WIN_HALL_ERRWIN (f : RegFile) (i : Nat) : Nat := f.fld Reg.FBK_L_WIN i 31 16
def FBK_L_WIN_ZS_TIMEOUT (f : RegFile) (i : Nat) : Nat := f.fld Reg.FBK_L_WIN i 15 0
def FBK_E_CFG_IDX_POL (f : RegFile) (i : Nat) : Nat := f.fld Reg.FBK_E_CFG i 10 10
def FBK_E_CFG_IDX_EN (f : RegFile) (i : Nat) : Nat := f.fld Reg.FBK_E_CFG i 9 9
def FBK_E_CFG_INV (f : RegFile) (i : Nat) : Nat := f.fld Reg.FBK_E_CFG i 8 8
def FBK_E_CFG_LEAF (f : RegFile) (i : Nat) : Nat := f.fld Reg.FBK_E_CFG i 7 0
def FBK_E_GEOM_HALL_TOL (f : RegFile) (i : Nat) : Nat := f.fld Reg.FBK_E_GEOM i 27 24
def FBK_E_GEOM_IDX_TOL (f : RegFile) (i : Nat) : Nat := f.fld Reg.FBK_E_GEOM i 23 16
def FBK_E_GEOM_LINES (f : RegFile) (i : Nat) : Nat := f.fld Reg.FBK_E_GEOM i 15 0
def FBK_E_WIN_IDX_FAULT (f : RegFile) (i : Nat) : Nat := f.fld Reg.FBK_E_WIN i 19 16
def FBK_E_WIN_PHERR_WIN (f : RegFile) (i : Nat) : Nat := f.fld Reg.FBK_E_WIN i 15 0
def PAT_CFG_INJ_EVERY (f : RegFile) : Nat := f.fld Reg.PAT_CFG 0 31 24
def PAT_CFG_SAVE_EVERY (f : RegFile) : Nat := f.fld Reg.PAT_CFG 0 23 16
def PAT_CFG_EN (f : RegFile) : Nat := f.fld Reg.PAT_CFG 0 11 0
def PAT_FILT_SHIFT_ARM (f : RegFile) : Nat := f.fld Reg.PAT_FILT 0 31 28
def PAT_FILT_SHIFT_SCAL (f : RegFile) : Nat := f.fld Reg.PAT_FILT 0 27 24
def PAT_FILT_MIN_SAMPLES (f : RegFile) : Nat := f.fld Reg.PAT_FILT 0 23 16
def PAT_FILT_OUTLIER (f : RegFile) : Nat := f.fld Reg.PAT_FILT 0 15 0
def PAT_ARM_CFG_MARGIN_K (f : RegFile) : Nat := f.fld Reg.PAT_ARM_CFG 0 31 24
def PAT_ARM_CFG_OUT_MAX (f : RegFile) : Nat := f.fld Reg.PAT_ARM_CFG 0 23 16
def PAT_ARM_CFG_CONTACT_DF (f : RegFile) : Nat := f.fld Reg.PAT_ARM_CFG 0 15 0
def PAT_EXP_LIM_DRIFT (f : RegFile) : Nat := f.fld Reg.PAT_EXP_LIM 0 31 16
def PAT_EXP_LIM_STEP (f : RegFile) : Nat := f.fld Reg.PAT_EXP_LIM 0 15 0
def PAT_MAR_LIM_DRIFT (f : RegFile) : Nat := f.fld Reg.PAT_MAR_LIM 0 31 16
def PAT_MAR_LIM_STEP (f : RegFile) : Nat := f.fld Reg.PAT_MAR_LIM 0 15 0
def PAT_CUSH_LIM_CUSH_DRIFT (f : RegFile) : Nat := f.fld Reg.PAT_CUSH_LIM 0 31 16
def PAT_CUSH_LIM_CUSH_STEP (f : RegFile) : Nat := f.fld Reg.PAT_CUSH_LIM 0 15 0
def PAT_CUSH_CLR_CUSH_CLR (f : RegFile) : Nat := f.fld Reg.PAT_CUSH_CLR 0 15 0
def PAT_TO_LIM_TO_FACTOR (f : RegFile) : Nat := f.fld Reg.PAT_TO_LIM 0 31 24
def PAT_TO_LIM_TO_DRIFT (f : RegFile) : Nat := f.fld Reg.PAT_TO_LIM 0 23 16
def PAT_TO_LIM_TO_STEP (f : RegFile) : Nat := f.fld Reg.PAT_TO_LIM 0 15 8
def PAT_TO_LIM_ALARM_PCT (f : RegFile) : Nat := f.fld Reg.PAT_TO_LIM 0 7 0
def PAT_INR_LIM_INR_FACTOR (f : RegFile) : Nat := f.fld Reg.PAT_INR_LIM 0 31 24
def PAT_INR_LIM_INR_DRIFT (f : RegFile) : Nat := f.fld Reg.PAT_INR_LIM 0 23 16
def PAT_INR_LIM_INR_STEP (f : RegFile) : Nat := f.fld Reg.PAT_INR_LIM 0 15 8
def LSW_DIM_CFG_DIM_REARM (f : RegFile) : Nat := f.fld Reg.LSW_DIM_CFG 0 23 16
def LSW_DIM_CFG_POL (f : RegFile) : Nat := f.fld Reg.LSW_DIM_CFG 0 7 0
def LSW_G_RAIL_CFG_DIP_DROP (f : RegFile) (i : Nat) : Nat := f.fld Reg.LSW_G_RAIL_CFG i 31 16
def LSW_G_RAIL_CFG_UV_TH (f : RegFile) (i : Nat) : Nat := f.fld Reg.LSW_G_RAIL_CFG i 15 0
def LSW_G_RAIL_TIME_UV_HYS (f : RegFile) (i : Nat) : Nat := f.fld Reg.LSW_G_RAIL_TIME i 31 16
def LSW_G_RAIL_TIME_UV_REC (f : RegFile) (i : Nat) : Nat := f.fld Reg.LSW_G_RAIL_TIME i 15 8
def LSW_G_RAIL_TIME_UV_QUAL (f : RegFile) (i : Nat) : Nat := f.fld Reg.LSW_G_RAIL_TIME i 7 0
def LSW_G_SENSE_SEL (f : RegFile) (i : Nat) : Nat := f.fld Reg.LSW_G_SENSE i 6 4
def LSW_G_SENSE_GAIN (f : RegFile) (i : Nat) : Nat := f.fld Reg.LSW_G_SENSE i 2 2
def LSW_G_SENSE_MODE (f : RegFile) (i : Nat) : Nat := f.fld Reg.LSW_G_SENSE i 1 0
def LSW_C_CFG_RETRY_MAX (f : RegFile) (i : Nat) : Nat := f.fld Reg.LSW_C_CFG i 31 28
def LSW_C_CFG_DIM_SEL (f : RegFile) (i : Nat) : Nat := f.fld Reg.LSW_C_CFG i 27 24
def LSW_C_CFG_BASE (f : RegFile) (i : Nat) : Nat := f.fld Reg.LSW_C_CFG i 23 16
def LSW_C_CFG_OL_EN (f : RegFile) (i : Nat) : Nat := f.fld Reg.LSW_C_CFG i 8 8
def LSW_C_CFG_PORTAL (f : RegFile) (i : Nat) : Nat := f.fld Reg.LSW_C_CFG i 2 0
def LSW_C_LIMIT_INR_LIM (f : RegFile) (i : Nat) : Nat := f.fld Reg.LSW_C_LIMIT i 31 16
def LSW_C_LIMIT_I_LIM (f : RegFile) (i : Nat) : Nat := f.fld Reg.LSW_C_LIMIT i 15 0
def LSW_C_TIME_SETTLE (f : RegFile) (i : Nat) : Nat := f.fld Reg.LSW_C_TIME i 31 16
def LSW_C_TIME_OL_QUAL (f : RegFile) (i : Nat) : Nat := f.fld Reg.LSW_C_TIME i 15 8
def LSW_C_TIME_INR_MS (f : RegFile) (i : Nat) : Nat := f.fld Reg.LSW_C_TIME i 7 0
def LSW_C_OL_OL_TH (f : RegFile) (i : Nat) : Nat := f.fld Reg.LSW_C_OL i 15 0
def FIO_SUPPLY_CFG_FS_REC (f : RegFile) : Nat := f.fld Reg.FIO_SUPPLY_CFG 0 31 16
def FIO_TL_CFG_TL_NOM (f : RegFile) : Nat := f.fld Reg.FIO_TL_CFG 0 31 16
def FIO_TL_CFG_ON_PCT (f : RegFile) : Nat := f.fld Reg.FIO_TL_CFG 0 15 8
def FIO_TL_CFG_OFF_PCT (f : RegFile) : Nat := f.fld Reg.FIO_TL_CFG 0 7 0
def FIO_TL_TIME_BAND_MS (f : RegFile) : Nat := f.fld Reg.FIO_TL_TIME 0 31 16
def FIO_TL_FILT0_TL_FILT (f : RegFile) : Nat := f.fld Reg.FIO_TL_FILT0 0 31 0
def FIO_TL_FILT1_TL_FILT (f : RegFile) : Nat := f.fld Reg.FIO_TL_FILT1 0 15 0
def FIO_F_CFG_WB_QUAL (f : RegFile) (i : Nat) : Nat := f.fld Reg.FIO_F_CFG i 23 16
def FIO_F_CFG_FILT (f : RegFile) (i : Nat) : Nat := f.fld Reg.FIO_F_CFG i 15 8
def FIO_F_CFG_WB_EN (f : RegFile) (i : Nat) : Nat := f.fld Reg.FIO_F_CFG i 1 1
def FIO_F_CFG_TYPE (f : RegFile) (i : Nat) : Nat := f.fld Reg.FIO_F_CFG i 0 0
def FIO_O_CFG_BLANK (f : RegFile) (i : Nat) : Nat := f.fld Reg.FIO_O_CFG i 15 8
def FIO_O_CFG_PORTAL (f : RegFile) (i : Nat) : Nat := f.fld Reg.FIO_O_CFG i 2 0
def CAN_C_MODE_MODE (f : RegFile) (i : Nat) : Nat := f.fld Reg.CAN_C_MODE i 1 0
def CAN_C_CFG_FD_EN (f : RegFile) (i : Nat) : Nat := f.fld Reg.CAN_C_CFG i 0 0
def CAN_C_NBT_NBRP (f : RegFile) (i : Nat) : Nat := f.fld Reg.CAN_C_NBT i 28 24
def CAN_C_NBT_NTSEG1 (f : RegFile) (i : Nat) : Nat := f.fld Reg.CAN_C_NBT i 23 16
def CAN_C_NBT_NTSEG2 (f : RegFile) (i : Nat) : Nat := f.fld Reg.CAN_C_NBT i 14 8
def CAN_C_NBT_NSJW (f : RegFile) (i : Nat) : Nat := f.fld Reg.CAN_C_NBT i 6 0
def CAN_C_DBT_DBRP (f : RegFile) (i : Nat) : Nat := f.fld Reg.CAN_C_DBT i 20 16
def CAN_C_DBT_DTSEG1 (f : RegFile) (i : Nat) : Nat := f.fld Reg.CAN_C_DBT i 12 8
def CAN_C_DBT_DTSEG2 (f : RegFile) (i : Nat) : Nat := f.fld Reg.CAN_C_DBT i 7 4
def CAN_C_DBT_DSJW (f : RegFile) (i : Nat) : Nat := f.fld Reg.CAN_C_DBT i 3 0
def CAN_C_TDC_TDC_EN (f : RegFile) (i : Nat) : Nat := f.fld Reg.CAN_C_TDC i 31 31
def CAN_C_TDC_TDCF (f : RegFile) (i : Nat) : Nat := f.fld Reg.CAN_C_TDC i 22 16
def CAN_C_TDC_TDCO (f : RegFile) (i : Nat) : Nat := f.fld Reg.CAN_C_TDC i 6 0
def CAN_C_OBJ_EN_EN (f : RegFile) (i : Nat) : Nat := f.fld Reg.CAN_C_OBJ_EN i 31 0
def CAN_O_ID_IDE (f : RegFile) (i : Nat) : Nat := f.fld Reg.CAN_O_ID i 29 29
def CAN_O_ID_ID (f : RegFile) (i : Nat) : Nat := f.fld Reg.CAN_O_ID i 28 0
def CAN_O_CFG_RETRY (f : RegFile) (i : Nat) : Nat := f.fld Reg.CAN_O_CFG i 11 8
def CAN_O_CFG_EVT (f : RegFile) (i : Nat) : Nat := f.fld Reg.CAN_O_CFG i 3 3
def CAN_O_CFG_BRS (f : RegFile) (i : Nat) : Nat := f.fld Reg.CAN_O_CFG i 2 2
def CAN_O_CFG_FDF (f : RegFile) (i : Nat) : Nat := f.fld Reg.CAN_O_CFG i 1 1
def CAN_O_CFG_DIR (f : RegFile) (i : Nat) : Nat := f.fld Reg.CAN_O_CFG i 0 0
def CAN_C_AUTH_PORT_B (f : RegFile) (i : Nat) : Nat := f.fld Reg.CAN_C_AUTH i 1 1
def CAN_C_AUTH_PORT_A (f : RegFile) (i : Nat) : Nat := f.fld Reg.CAN_C_AUTH i 0 0
def HIF_CFG_SAFETY_PORT (f : RegFile) : Nat := f.fld Reg.HIF_CFG 0 0 0
def HIF_SUBSYS_SSID (f : RegFile) : Nat := f.fld Reg.HIF_SUBSYS 0 31 16
def HIF_SUBSYS_SSVID (f : RegFile) : Nat := f.fld Reg.HIF_SUBSYS 0 15 0
def HIF_R_CFG_VECTOR (f : RegFile) (i : Nat) : Nat := f.fld Reg.HIF_R_CFG i 20 16
def HIF_R_CFG_SIZE (f : RegFile) (i : Nat) : Nat := f.fld Reg.HIF_R_CFG i 15 12
def HIF_R_CFG_CLASS (f : RegFile) (i : Nat) : Nat := f.fld Reg.HIF_R_CFG i 3 2
def HIF_R_CFG_KIND (f : RegFile) (i : Nat) : Nat := f.fld Reg.HIF_R_CFG i 0 0
def HIF_R_BASE_LO_ADDR (f : RegFile) (i : Nat) : Nat := f.fld Reg.HIF_R_BASE_LO i 31 0
def HIF_R_BASE_HI_ADDR (f : RegFile) (i : Nat) : Nat := f.fld Reg.HIF_R_BASE_HI i 31 0
def HIF_R_CQ_LO_ADDR (f : RegFile) (i : Nat) : Nat := f.fld Reg.HIF_R_CQ_LO i 31 0
def HIF_R_CQ_HI_ADDR (f : RegFile) (i : Nat) : Nat := f.fld Reg.HIF_R_CQ_HI i 31 0
def HIF_R_EVMASK_BLOCKS (f : RegFile) (i : Nat) : Nat := f.fld Reg.HIF_R_EVMASK i 16 0
def HIF_R_MOD_MOD_US (f : RegFile) (i : Nat) : Nat := f.fld Reg.HIF_R_MOD i 31 16
def HIF_R_MOD_MOD_COUNT (f : RegFile) (i : Nat) : Nat := f.fld Reg.HIF_R_MOD i 15 0
def MEM_CFG_INIT_EXP (f : RegFile) : Nat := f.fld Reg.MEM_CFG 0 1 0
def MEM_AUTH_PORT_B (f : RegFile) : Nat := f.fld Reg.MEM_AUTH 0 1 1
def MEM_AUTH_PORT_A (f : RegFile) : Nat := f.fld Reg.MEM_AUTH 0 0 0
def MEM_M_RANGE_LO_ADDR (f : RegFile) (i : Nat) : Nat := f.fld Reg.MEM_M_RANGE_LO i 31 0
def MEM_M_RANGE_HI_ADDR (f : RegFile) (i : Nat) : Nat := f.fld Reg.MEM_M_RANGE_HI i 31 0
def MEM_M_PATROL_PERIOD (f : RegFile) (i : Nat) : Nat := f.fld Reg.MEM_M_PATROL i 15 0
def MEM_M_WEIR_THRESH (f : RegFile) (i : Nat) : Nat := f.fld Reg.MEM_M_WEIR i 31 16
def MEM_M_WEIR_LEAK_MS (f : RegFile) (i : Nat) : Nat := f.fld Reg.MEM_M_WEIR i 15 0
def MEM_M_FLIP0_MASK (f : RegFile) (i : Nat) : Nat := f.fld Reg.MEM_M_FLIP0 i 31 0
def MEM_M_FLIP1_MASK (f : RegFile) (i : Nat) : Nat := f.fld Reg.MEM_M_FLIP1 i 31 0
def MEM_M_FLIP2_MASK (f : RegFile) (i : Nat) : Nat := f.fld Reg.MEM_M_FLIP2 i 31 0
def MEM_M_INJ_ADDR_ADDR (f : RegFile) (i : Nat) : Nat := f.fld Reg.MEM_M_INJ_ADDR i 31 0
def MEM_M_INJ_CFG_ANY (f : RegFile) (i : Nat) : Nat := f.fld Reg.MEM_M_INJ_CFG i 0 0
def REC_CFG_CUT_S (f : RegFile) : Nat := f.fld Reg.REC_CFG 0 31 16
def REC_CFG_LAG_WARN (f : RegFile) : Nat := f.fld Reg.REC_CFG 0 15 8
def REC_CFG_EVT_EACH (f : RegFile) : Nat := f.fld Reg.REC_CFG 0 0 0
def REC_AUTH_PORT_B (f : RegFile) : Nat := f.fld Reg.REC_AUTH 0 1 1
def REC_AUTH_PORT_A (f : RegFile) : Nat := f.fld Reg.REC_AUTH 0 0 0
def REC_P_FROM_LO_SEQ (f : RegFile) (i : Nat) : Nat := f.fld Reg.REC_P_FROM_LO i 31 0
def REC_P_FROM_HI_SEQ (f : RegFile) (i : Nat) : Nat := f.fld Reg.REC_P_FROM_HI i 7 0
def REC_U_CFG_TRIG_STATE (f : RegFile) (i : Nat) : Nat := f.fld Reg.REC_U_CFG i 27 24
def REC_U_CFG_TRIG_SRC (f : RegFile) (i : Nat) : Nat := f.fld Reg.REC_U_CFG i 19 16
def REC_U_CFG_DECIM (f : RegFile) (i : Nat) : Nat := f.fld Reg.REC_U_CFG i 15 8
def REC_U_PRE_PRE (f : RegFile) (i : Nat) : Nat := f.fld Reg.REC_U_PRE i 15 0
def CFG_AUTH_INSTALL_B (f : RegFile) : Nat := f.fld Reg.CFG_AUTH 0 3 3
def CFG_AUTH_RELIEF_B (f : RegFile) : Nat := f.fld Reg.CFG_AUTH 0 2 2
def CFG_AUTH_INSTALL_A (f : RegFile) : Nat := f.fld Reg.CFG_AUTH 0 1 1
def CFG_AUTH_RELIEF_A (f : RegFile) : Nat := f.fld Reg.CFG_AUTH 0 0 0
def CFG_RELIEF_WAIT_WAIT_MS (f : RegFile) : Nat := f.fld Reg.CFG_RELIEF_WAIT 0 15 0
def GEN_WDT_AUTO_RESYNC (f : RegFile) : Nat := f.fld Reg.GEN_WDT 0 8 8
def GEN_WDT_WD_TIMEOUT (f : RegFile) : Nat := f.fld Reg.GEN_WDT 0 7 0

end Sys2Proof.Machine.RegFile
end

