-- ==== Sys2Proof/Machine/TypesMotion.lean ====
section
/-! DEFINITION. The state of feedback (chapter 09), leaf drives and bridge dies (06), motion profiles (07) and step drives (08). -/

namespace Sys2Proof.Machine

/-- Three sampled lines with their filter (R234): the raw code, the sample each raw line took its level in, the filtered code. -/
structure Lines where
  raw   : Nat
  since : Vector Nat 3
  filt  : Nat
  /-- raw changes (sample, code) of windows that no stage 2 has taken yet (R235) -/
  late  : List (Nat × Nat)
  deriving DecidableEq, Repr, Inhabited

/-- An error window (R237, R239): ticks left, errors in it. -/
structure ErrWin where
  left : Nat
  n    : Nat
  deriving DecidableEq, Repr, Inhabited

/-- Feedback of one leaf. Stamps are sample numbers (20 ns). -/
structure LeafFbk where
  lines    : Lines
  /-- Hall code in force -/
  code     : Nat
  /-- last valid code; 0 none yet -/
  lastValid : Nat
  invalid  : Bool
  invTicks : Nat
  hallCnt  : Int
  zeroHall : Int
  zeroEnc  : Int
  seqErr   : Bool
  seqErrors : Nat
  win      : ErrWin
  hallMm   : Bool
  cause    : Nat
  /-- tick in which the fault was last declared, plus one -/
  causeAt  : Nat
  /-- position, µm with 16 fractional bits (R240) -/
  pos      : Int
  speed    : Int
  haveRef  : Bool
  refStamp : Nat
  refCnt   : Int
  lastStamp : Nat
  /-- sign of the last counted edge, 0 none yet -/
  lastSign : Int
  zero     : Bool
  dirChg   : Bool
  dirChanges : Nat
  /-- tick of the last FBK_DIR_CHANGE, plus one -/
  dirEvtAt : Nat
  /-- stamp of the last Hall edge, the time of the last complete sector (0 none), and the angle set at the edge (R167) -/
  edgeStamp : Nat
  sectorT  : Nat
  edgeAngle : Nat
  /-- the Hall edges of this tick: the boundary's angle, and the serving encoder's count at the edge (R168) -/
  edgeEnc  : List (Nat × Int)
  /-- position as FBK_L_POS reads it, µm: as stage 2 left it (R241) -/
  posReg   : Int
  deriving DecidableEq, Repr, Inhabited

/-- One encoder port. -/
structure EncFbk where
  lines   : Lines
  cnt     : Int
  /-- change of the count over the last window (R169) -/
  delta   : Int
  lastSign : Int
  phaseErr : Bool
  phaseErrors : Nat
  win     : ErrWin
  idxSeen : Bool
  /-- an index event is there to check the next one against -/
  haveIdx : Bool
  idxPos  : Int
  dirSinceIdx : Bool
  /-- Hall count of every leaf at the last index event (R246) -/
  hallAtIdx : Vector Int 16
  span    : Int
  hallEdges : Int
  indexMm : Bool
  mismatches : Nat
  idxRun  : Nat
  hallRun : Nat
  cause   : Nat
  causeAt : Nat
  deriving DecidableEq, Repr, Inhabited

/-- No line has changed yet. -/
def Lines.reset : Lines := ⟨0, Vector.replicate 3 0, 0, []⟩

/-- Leaf feedback after reset. -/
def LeafFbk.reset : LeafFbk :=
  ⟨.reset, 0, 0, false, 0, 0, 0, 0, false, 0, ⟨0, 0⟩, false, 0, 0, 0, 0, false, 0, 0, 0, 0, true, false, 0, 0, 0, 0, 0, [], 0⟩

/-- Encoder port after reset. -/
def EncFbk.reset : EncFbk :=
  ⟨.reset, 0, 0, 0, false, 0, ⟨0, 0⟩, false, false, 0, false, Vector.replicate 16 0, 0, 0, false, 0, 0, 0, 0, 0⟩

/-- What a half-bridge does in a carrier period (R161): PWM with the on-time of its high-side switch in 5 ns, all off, or
low-side on. -/
inductive Leg where
  | off
  | low
  | pwm (on : Nat)
  deriving DecidableEq, Repr, Inhabited

/-- A gate timing word (R161). -/
structure GateWord where
  legs : Vector Leg 20
  arm  : Bool
  /-- ARM and ACK bits of the die's four leaves (R145) -/
  edgeArm : Nat
  edgeAck : Nat
  /-- measurement request (R182): 0 none, else 1 + 6 × leaf of the die + switch -/
  meas : Nat
  deriving DecidableEq, Repr, Inhabited

/-- A word that switches nothing. -/
def GateWord.idle : GateWord := ⟨Vector.replicate 20 .off, false, 0, 0, 0⟩

/-- A bridge die, and what the core die holds about its rail and temperature. -/
structure BridgeDie where
  armed   : Bool
  /-- armed once since the last reset of the core die (R196) -/
  armedOnce : Bool
  good    : Nat
  missed  : Nat
  safe    : Bool
  vdrvOk  : Bool
  loaded  : GateWord
  now     : Vector GateWord 2
  next    : Vector GateWord 2
  /-- class of each sensitive edge as the die reads it (R144): 0 normal, 1 actuated, 2 wire break, 3 out of band -/
  edge    : Vector Nat 4
  /-- classes reported to the core die that stage 1 has not taken yet, oldest first (R147) -/
  seen    : Vector (List Nat) 4
  /-- sensitive-edge override of each leaf (R146) -/
  override : Vector Bool 4
  /-- comparator trip in the present carrier period: leaves; step phases A and B of the two steppers -/
  leafTrip : Vector Bool 4
  stepTrip : Vector Bool 4
  /-- trips not yet reported to the core die, in the first and second period of the tick: digits as tripDigit gives them -/
  leafTrips : Vector Nat 4
  stepTrips : Vector Nat 2
  /-- carrier period of the tick that runs: 0 or 1 -/
  half    : Nat
  /-- decimated phase currents of the last window, mA (R46) -/
  phases  : Vector Int 16
  /-- the measurement request of the last window, 0 none (R182) -/
  measWin : Nat
  rail    : Nat
  temp    : Int
  uvRun   : Nat
  uvHold  : Bool
  uvSince : Nat
  uvGood  : Nat
  ovTrip  : Bool
  ovGood  : Nat
  ovClamp : Bool
  tempWarn : Bool
  tempShut : Bool
  deriving DecidableEq, Repr, Inhabited

/-- A bridge die after a device reset. -/
def BridgeDie.reset : BridgeDie :=
  ⟨false, false, 0, 0, false, true, .idle, Vector.replicate 2 .idle, Vector.replicate 2 .idle, Vector.replicate 4 0,
   Vector.replicate 4 [], Vector.replicate 4 false, Vector.replicate 4 false, Vector.replicate 4 false, Vector.replicate 4 0,
   Vector.replicate 2 0, 0, Vector.replicate 16 0, 0, 0, 0, 0, false, 0, 0, false, 0, false, false, false⟩

/-- A running winding injection (R183). -/
structure Injection where
  /-- ticks run so far -/
  run   : Nat
  sumVd : Int
  n     : Nat
  /-- switches whose measurement has been requested (R182) -/
  asked : Nat
  deriving DecidableEq, Repr, Inhabited

/-- One leaf drive as the core die holds it. -/
structure LeafDrive where
  mode   : Nat
  rank   : Nat
  /-- row of R163 of the words now in force (those built in the last tick but one, once stage 8 has run) -/
  rankMid : Nat
  /-- speed integrator, 1/100000 mA -/
  sV     : Int
  /-- current integrators, 1/1000 mV -/
  sD     : Int
  sQ     : Int
  id     : Int
  iq     : Int
  vd     : Int
  vq     : Int
  /-- voltages of the words now in force, and of the words built last -/
  vdMid  : Int
  vqMid  : Int
  vdNext : Int
  vqNext : Int
  angle  : Nat
  /-- mean square current × 20 × I2T_TAU scale: mA² with 16 fractional bits -/
  msq    : Nat
  i2tOn  : Bool
  limit  : Nat
  relax  : Bool
  ocLatched : Bool
  ocRun  : Nat
  ocPhase : Nat
  ocCount : Nat
  inj    : Option Injection
  rds    : Vector Nat 6
  rwind  : Nat
  rwindTemp : Int
  pwrLimited : Bool
  tempDerate : Bool
  uvHold : Bool
  /-- power of the last window, mW -/
  power  : Int
  /-- encoder angle offset, once captured; fallen back to the Halls (R168) -/
  encOff : Option Nat
  encBad : Bool
  deriving DecidableEq, Repr, Inhabited

/-- A leaf drive after reset. -/
def LeafDrive.reset : LeafDrive :=
  ⟨0, 1, 1, 0, 0, 0, 0, 0, 0, 0, 0, 0, 0, 0, 0, 0, false, 0, false, false, 0, 0, 0, none, Vector.replicate 6 0, 0, 0, false, false,
   false, 0, none, false⟩

/-- Kind of a move (R186). -/
inductive MoveKind where
  | none | open | close | reopen | reclose | refclose | reaction | deploy | stow | redeploy | home
  deriving DecidableEq, Repr, Inhabited

/-- The code of a kind in MPG_A_STATUS. -/
def MoveKind.code : MoveKind → Nat
  | .none => 0 | .open => 1 | .close => 2 | .reopen => 3 | .reclose => 4 | .refclose => 5 | .reaction => 6
  | .deploy => 7 | .stow => 8 | .redeploy => 9 | .home => 10

/-- Phase of a move (MPG_A_STATUS.PHASE). -/
inductive MovePhase where
  | idle | accel | cruise | decel | creep | stopping | follow | geared | speed | hold
  deriving DecidableEq, Repr, Inhabited

/-- The code of a phase in MPG_A_STATUS. -/
def MovePhase.code : MovePhase → Nat
  | .idle => 0 | .accel => 1 | .cruise => 2 | .decel => 3 | .creep => 4 | .stopping => 5 | .follow => 6 | .geared => 7
  | .speed => 8 | .hold => 9

/-- The parameters of a profile set as the generator uses them (R188). -/
structure Profile where
  scurve : Bool
  vStart : Nat
  vStop  : Nat
  vBreak : Nat
  vMax   : Nat
  a1     : Nat
  a2     : Nat
  d1     : Nat
  d2     : Nat
  jerk   : Nat
  cushion : Nat
  deriving DecidableEq, Repr, Inhabited

/-- A move order. A speed move has no target and runs toward the side its sign gives. -/
structure Order where
  kind   : MoveKind
  set    : Nat
  /-- target, units; none for a speed move -/
  target : Option Int
  /-- direction of a speed move -/
  dir    : Int
  deriving DecidableEq, Repr, Inhabited

/-- The compare unit of an axis (R200). -/
structure Compare where
  armed  : Bool
  fired  : Bool
  behind : Bool
  count  : Nat
  dtc    : Nat
  /-- measured position of the last tick, units -/
  last   : Int
  /-- disarm asked for: taken at the next tick boundary -/
  disarmDue : Nat
  deriving DecidableEq, Repr, Inhabited

/-- The move descriptor of an axis (R186). Positions and speeds carry 16 fractional bits. -/
structure Move where
  kind    : MoveKind
  set     : Nat
  /-- target, units -/
  target  : Int
  /-- target of the stroke that a reaction has replaced, kept for when the axis stands (R196) -/
  stroke  : Option Int
  /-- a speed move: direction; 0 for a move with a target -/
  speedDir : Int
  phase   : MovePhase
  kept    : Bool
  pSet    : Int
  vSet    : Int
  /-- acceleration set-point, with 16 fractional bits too: the acceleration an S-curve carries from tick to tick (R191) -/
  aSet    : Int
  par     : Profile
  /-- profile fields whose written value is held (R193): 0x40 × set + register offset in the set -/
  held    : List Nat
  /-- order that waits for the stop ramp to end (R195) -/
  after   : Option Order
  /-- the stop ramp keeps the target and ends with outcome 1 -/
  stopKeeps : Bool
  /-- stop deceleration in place of the set's (R178); 0 none -/
  uvDecel : Nat
  /-- under-voltage, over-voltage or temperature stopped it: it resumes by R179; portal state (or step sub-state) it stopped in -/
  heldBy  : Option Nat
  gearSkip : Bool
  geared  : Bool
  e0      : Int
  d0      : Nat
  limitHit : Bool
  limitClamped : Bool
  /-- S-curve: the acceleration, or the braking, has begun to fall -/
  falling : Bool
  /-- outcome of the move that ended in this tick, plus one; 0 none -/
  ended   : Nat
  endKind : MoveKind
  /-- the move has started in this tick; set-point at its start -/
  began   : Bool
  p0      : Int
  cmp     : Compare
  deriving DecidableEq, Repr, Inhabited

/-- A move descriptor after reset. -/
def Move.reset : Move :=
  ⟨.none, 0, 0, none, 0, .idle, false, 0, 0, 0, ⟨false, 0, 0, 0, 0, 0, 0, 0, 0, 0, 0⟩, [], none, false, 0, none, false, false, 0, 0,
   false, false, false, 0, .none, false, 0, ⟨false, false, false, 0, 0, 0, 0⟩⟩

/-- Where a homing run stands (R228). -/
inductive Homing where
  | none | backoff | approach | final | failed
  deriving DecidableEq, Repr, Inhabited

/-- One step drive. -/
structure StepDrive where
  mode   : Nat
  rank   : Nat
  /-- mode of the words now in force (those built in the last tick but one, once stage 8 has run) -/
  modeMid : Nat
  iRun   : Nat
  load   : Nat
  /-- fraction of LOAD the filter carries, 1/256 of 0.1 ° -/
  loadFrac : Nat
  loadValid : Bool
  upN    : Nat
  downN  : Nat
  stallN : Nat
  stall  : Bool
  /-- a stall flagged in the last tick that the sequencer takes in this one (R219) -/
  stallNew : Bool
  slip   : Bool
  homed  : Bool
  homing : Homing
  /-- position at which the present homing phase began -/
  homeStart : Int
  homeCnt : Nat
  homeLast : Bool
  ignored : Nat
  tripPos : Int
  still  : Nat
  reduced : Bool
  /-- TRIM with 8 fractional bits -/
  trim   : Int
  vclamp : Bool
  ocLatched : Bool
  ocRun  : Nat
  ocPhase : Nat
  ocCount : Nat
  stalls : Nat
  /-- measured currents of the last window -/
  iA     : Int
  iB     : Int
  /-- commanded mean voltages and current references: of the window measured, of the words now in force (2), of the words built
  last (1) -/
  vA     : Int
  vB     : Int
  refA   : Int
  refB   : Int
  vA2    : Int
  vB2    : Int
  refA2  : Int
  refB2  : Int
  vA1    : Int
  vB1    : Int
  refA1  : Int
  refB1  : Int
  /-- amplitudes of the last microstep whose table entry was good -/
  goodA  : Int
  goodB  : Int
  /-- poisoned words of the table that hold the axis (R212, R382): memory 0 word numbers -/
  badWords : List Nat
  /-- a stall holds the step at the ceiling current (R219) -/
  stallHold : Bool
  /-- microstep table that TBL_LOAD has put ready for the next tick boundary (R211); none where the list is empty -/
  tblNext : List Nat
  deriving DecidableEq, Repr, Inhabited

/-- A step drive after reset. -/
def StepDrive.reset : StepDrive :=
  ⟨0, 1, 0, 0, 0, 0, false, 0, 0, 0, false, false, false, false, .none, 0, 0, false, 0, 0, 0, false, 1024 * 256, false, false, 0, 0,
   0, 0, 0, 0, 0, 0, 0, 0, 0, 0, 0, 0, 0, 0, 0, 0, 65535, 0, [], false, []⟩

end Sys2Proof.Machine
end

