-- ==== Sys2Proof/Machine/Feedback.lean ====
section
/-! DEFINITION. Feedback (chapter 09): the input filter, Hall and encoder counting, index checks, position and speed, and the
rotor angle of R166 and R167. -/

namespace Sys2Proof.Machine

/-- A decided event before it is stamped: code and payload (R355). -/
abbrev Ev := Nat × List Byte

/-- The sample in which filtered line i takes its raw level (R234). -/
def Lines.dueAt (f : Nat) (l : Lines) (i : Nat) : Option Nat :=
  if l.raw.testBit i = l.filt.testBit i then none else some (l.since.nth i + (f - 1))

/-- The earlier of two times that may be absent. -/
def earlier : Option Nat → Option Nat → Option Nat
  | none, b => b
  | a, none => a
  | some a, some b => some (min a b)

/-- The filtered changes that fall before sample tEnd, oldest first: (sample, code). Lines that change in one sample change
together. -/
def Lines.settle (f : Nat) (l : Lines) (tEnd : Nat) : Nat → Lines × List (Nat × Nat)
  | 0 => (l, [])
  | fuel + 1 =>
    match earlier (l.dueAt f 0) (earlier (l.dueAt f 1) (l.dueAt f 2)) with
    | none => (l, [])
    | some t =>
      if tEnd ≤ t then (l, []) else
      let flip := fun c i => if l.dueAt f i = some t then setBit c i (l.raw.testBit i) else c
      let l' := { l with filt := flip (flip (flip l.filt 0) 1) 2 }
      let r := l'.settle f tEnd fuel
      (r.1, (t, l'.filt) :: r.2)

/-- A raw change at a sample. -/
def Lines.change (l : Lines) (t code : Nat) : Lines :=
  { l with raw := code, since := l.since.mapIdx (fun i x => if l.raw.testBit i = code.testBit i then x else t) }

/-- The raw changes of the window that ends with clock 0 of tick n, by sample number. -/
def windowChanges (n : Nat) (cs : List LineChange) : List (Nat × Nat) := cs.map (fun c => (2500 * n - 2500 + c.sample, c.code))

/-- A window that no stage 2 takes in its tick: the next that runs takes it (R234, R235). -/
def Lines.defer (n : Nat) (cs : List LineChange) (l : Lines) : Lines := { l with late := l.late ++ windowChanges n cs }

/-- The filter over the windows taken in one tick (R234, R235): the raw changes up to clock 0 of tick n. -/
def Lines.window (f n : Nat) (l : Lines) (cs : List LineChange) : Lines × List (Nat × Nat) :=
  let r := (l.late ++ windowChanges n cs).foldl (fun (acc : Lines × List (Nat × Nat)) c =>
    let s := acc.1.settle f c.1 3
    (s.1.change c.1 c.2, acc.2 ++ s.2)) ({ l with late := [] }, [])
  let e := r.1.settle f (2500 * n) 3
  (e.1, r.2 ++ e.2)

/-- Place of a valid Hall code in the order of R166. -/
def hallIndex : Nat → Option Nat
  | 1 => some 0 | 3 => some 1 | 2 => some 2 | 6 => some 3 | 4 => some 4 | 5 => some 5 | _ => none

/-- Sector start of a Hall code (R166). -/
def sectorStart : Nat → Nat
  | 1 => 0x0000 | 3 => 0x2AAB | 2 => 0x5555 | 6 => 0x8000 | 4 => 0xAAAB | 5 => 0xD555 | _ => 0

/-- Declare a Hall fault (R248): the first cause stands. -/
def LeafFbk.declare (leaf n cause : Nat) (b : LeafFbk) : LeafFbk × List Ev :=
  if b.cause = 0 then ({ b with cause := cause, causeAt := n + 1 }, [(0x0806, p1 leaf ++ p1 cause)])
  else ({ b with causeAt := n + 1 }, [])

/-- Declare an encoder fault (R248). -/
def EncFbk.declare (port n cause : Nat) (e : EncFbk) : EncFbk × List Ev :=
  if e.cause = 0 then ({ e with cause := cause, causeAt := n + 1 }, [(0x0806, p1 port ++ p1 cause)])
  else ({ e with causeAt := n + 1 }, [])

/-- An error in an error window that opens with its first error (R237, R239): the window, and whether this is the first. -/
def ErrWin.error (w : ErrWin) (len : Nat) : ErrWin × Bool :=
  if w.left = 0 then (⟨max len 1, 1⟩, true) else (⟨w.left, w.n + 1⟩, false)

/-- A tick of an error window. -/
def ErrWin.tick (w : ErrWin) : ErrWin := if w.left ≤ 1 then ⟨0, 0⟩ else ⟨w.left - 1, w.n⟩

/-- A Hall sequence error (R236, R237). -/
def LeafFbk.seqError (rf : RegFile) (leaf n new : Nat) (b : LeafFbk) : LeafFbk × List Ev :=
  let w := b.win.error (rf.FBK_L_WIN_HALL_ERRWIN leaf)
  let b := { b with seqErr := true, seqErrors := satInc 16 b.seqErrors, win := w.1 }
  let e1 : List Ev := if w.2 then [(0x0805, p1 leaf ++ p1 b.lastValid ++ p1 new)] else []
  if w.1.n = 16 then
    let r := b.declare leaf n 2
    (r.1, e1 ++ r.2)
  else (b, e1)

/-- What a window's filtered Hall changes give: the leaf, its counted edges (sample, sign), events. -/
structure HallOut where
  b     : LeafFbk
  edges : List (Nat × Int)
  /-- the counted edges: sample, angle of the boundary crossed -/
  angles : List (Nat × Nat)
  evs   : List Ev

/-- The time of the last complete sector after an edge at a sample (R167): a sector entered and left over the same boundary is not
complete and leaves it as it was; one that held a standstill leaves none. up: the edge runs in the table's order. -/
def LeafFbk.sectorTime (up : Bool) (off t : Nat) (first : Bool) (b : LeafFbk) : Nat :=
  let wasUp := decide (b.edgeAngle = (sectorStart b.lastValid + off) % 65536)
  if b.edgeStamp = 0 ∨ (b.zero ∧ first) then 0
  else if wasUp = up then t - b.edgeStamp
  else b.sectorT

/-- One filtered Hall change (R236). -/
def hallChange (rf : RegFile) (leaf n : Nat) (o : HallOut) (c : Nat × Nat) : HallOut :=
  let b := o.b
  match hallIndex c.2 with
  | none =>
    if b.invalid then o else
    let r := ({ b with invalid := true, invTicks := 0 } : LeafFbk).seqError rf leaf n c.2
    { o with b := r.1, evs := o.evs ++ r.2 }
  | some k =>
    let b := { b with invalid := false, invTicks := 0 }
    match hallIndex b.lastValid with
    | none => { o with b := { b with lastValid := c.2, code := c.2, sectorT := 0 } }
    | some j =>
      let d := (k + 6 - j) % 6
      if d = 0 then { o with b := { b with code := c.2 } }
      else if d = 1 ∨ d = 5 then
        let s : Int := if (d = 1) = (rf.LDR_L_CFG_DIR_INV leaf = 0) then 1 else -1
        let off := rf.LDR_L_HALL_HALL_OFFSET leaf
        let ang := ((if d = 1 then sectorStart c.2 else sectorStart b.lastValid) + off) % 65536
        let b := { b with
          hallCnt := b.hallCnt + s, code := c.2, lastValid := c.2, edgeStamp := c.1, edgeAngle := ang,
          sectorT := b.sectorTime (decide (d = 1)) off c.1 o.edges.isEmpty }
        { o with b := b, edges := o.edges ++ [(c.1, s)], angles := o.angles ++ [(c.1, ang)] }
      else
        let r := b.seqError rf leaf n c.2
        { o with b := { r.1 with code := c.2, lastValid := c.2, sectorT := 0, edgeStamp := 0 }, evs := o.evs ++ r.2 }

/-- Stage 2 of one leaf's Halls (R234 to R237). -/
def LeafFbk.halls (rf : RegFile) (leaf n : Nat) (cs : List LineChange) (b : LeafFbk) : HallOut :=
  let b := { b with win := b.win.tick }
  let w := b.lines.window (rf.FBK_FILT_HALL_F) n cs
  let o := w.2.foldl (hallChange rf leaf n) ⟨{ b with lines := w.1 }, [], [], []⟩
  if o.b.invalid then
    let b := { o.b with invTicks := o.b.invTicks + 1 }
    if b.invTicks = 3 then
      let r := b.declare leaf n 1
      { o with b := r.1, evs := o.evs ++ r.2 }
    else { o with b := b }
  else o

/-- Place of (A, B) in the count-up sequence 00, 10, 11, 01 (R238). -/
def quadIndex (code : Nat) : Nat :=
  match code.testBit 0, code.testBit 1 with
  | false, false => 0
  | true, false => 1
  | true, true => 2
  | false, true => 3

/-- What a window gives an encoder port: the port, the code last seen, its counted edges, events, Hall mismatches of the served
leaf that it found (the run reached). -/
structure EncOut where
  e     : EncFbk
  code  : Nat
  edges : List (Nat × Int)
  evs   : List Ev
  hallMm : Bool
  hallFault : Bool

/-- An index mismatch, missed or measured (R245, R247). -/
def EncOut.indexMismatch (rf : RegFile) (port n : Nat) (span : Int) (o : EncOut) : EncOut :=
  let e := { o.e with indexMm := true, mismatches := satInc 16 o.e.mismatches, idxRun := o.e.idxRun + 1 }
  let evs := o.evs ++ [(0x0803, p1 port ++ p4 span)]
  let lim := rf.FBK_E_WIN_IDX_FAULT port
  if lim ≠ 0 ∧ lim ≤ e.idxRun then
    let r := e.declare port n 5
    { o with e := r.1, evs := evs ++ r.2 }
  else { o with e := e, evs := evs }

/-- The Hall count of the served leaf at a sample: the count before the window and the edges up to it. -/
def hallAt (before : Int) (edges : List (Nat × Int)) (t : Nat) : Int :=
  edges.foldl (fun c x => if x.1 ≤ t then c + x.2 else c) before

/-- Counting of one change (R238, R239), with the missed index of R245. -/
def EncOut.count (rf : RegFile) (port n t d : Nat) (o : EncOut) : EncOut :=
  if d = 2 then
    let w := o.e.win.error (rf.FBK_E_WIN_PHERR_WIN port)
    let e := { o.e with phaseErr := true, phaseErrors := satInc 16 o.e.phaseErrors, win := w.1 }
    let evs := o.evs ++ (if w.2 then [(0x0802, p1 port ++ p4 (e.phaseErrors : Nat))] else [])
    if w.1.n = 16 then
      let r := e.declare port n 4
      { o with e := r.1, evs := evs ++ r.2 }
    else { o with e := e, evs := evs }
  else if d = 1 ∨ d = 3 then
    let s : Int := if (d = 1) = (rf.FBK_E_CFG_INV port = 0) then 1 else -1
    let turned := o.e.lastSign ≠ 0 ∧ s ≠ o.e.lastSign
    let e : EncFbk := { o.e with cnt := o.e.cnt + s, lastSign := s, dirSinceIdx := o.e.dirSinceIdx || decide turned }
    let o := { o with e := e, edges := o.edges ++ [(t, s)] }
    let lim : Int := (4 * rf.FBK_E_GEOM_LINES port + rf.FBK_E_GEOM_IDX_TOL port : Nat)
    if e.haveIdx ∧ ¬e.dirSinceIdx ∧ lim < ((e.cnt - e.idxPos).natAbs : Int) then
      ({ o with e := { e with haveIdx := false } } : EncOut).indexMismatch rf port n 0
    else o
  else o

/-- An index event (R245 to R247). served: the leaf the port serves; halls: every leaf's Hall count at the event. -/
def EncOut.index (rf : RegFile) (port n : Nat) (served : Option Nat) (halls : Vector Int 16) (o : EncOut) : EncOut :=
  let e := o.e
  let span := e.cnt - e.idxPos
  let mark := fun (x : EncFbk) =>
    { x with idxSeen := true, haveIdx := true, idxPos := x.cnt, dirSinceIdx := false, hallAtIdx := halls }
  let turned := fun (l : Nat) => halls.nth l - e.hallAtIdx.nth l
  if ¬e.haveIdx ∨ e.dirSinceIdx then { o with e := mark e } else
  let lines : Int := (4 * rf.FBK_E_GEOM_LINES port : Nat)
  let tol : Int := (rf.FBK_E_GEOM_IDX_TOL port : Nat)
  let e := { e with span := span, hallEdges := (served.map turned).getD 0 }
  if (span.natAbs : Int) < lines - tol ∨ lines + tol < (span.natAbs : Int) then
    ({ o with e := mark e } : EncOut).indexMismatch rf port n span
  else
    let e := { e with idxRun := 0 }
    match served with
    | none => { o with e := mark e }
    | some leaf =>
      let dh := turned leaf
      let want : Int := (6 * rf.LDR_L_CFG_POLE_PAIRS leaf : Nat)
      let ht : Int := (rf.FBK_E_GEOM_HALL_TOL port : Nat)
      if (dh.natAbs : Int) < want - ht ∨ want + ht < (dh.natAbs : Int) then
        let e := { e with mismatches := satInc 16 e.mismatches, hallRun := e.hallRun + 1 }
        let lim := rf.FBK_E_WIN_IDX_FAULT port
        { o with e := mark e, hallMm := true, hallFault := o.hallFault || (decide (lim ≠ 0) && decide (lim ≤ e.hallRun)),
                 evs := o.evs ++ [(0x0804, p1 port ++ p1 leaf ++ p4 dh)] }
      else { o with e := mark { e with hallRun := 0 } }

/-- One filtered change of a port (R238, R245). -/
def encChange (rf : RegFile) (port n : Nat) (served : Option Nat) (halls : Nat → Vector Int 16) (o : EncOut) (c : Nat × Nat) :
    EncOut :=
  let d := (quadIndex c.2 + 4 - quadIndex o.code) % 4
  let rise := !o.code.testBit 2 && c.2.testBit 2
  let fall := o.code.testBit 2 && !c.2.testBit 2
  let o := ({ o with code := c.2 } : EncOut).count rf port n c.1 d
  if rf.FBK_E_CFG_IDX_EN port = 1 ∧ (if rf.FBK_E_CFG_IDX_POL port = 0 then rise else fall) then
    o.index rf port n served (halls c.1)
  else o

/-- Stage 2 of one encoder port. served: its leaf; halls: every leaf's Hall count at a sample. -/
def EncFbk.stage (rf : RegFile) (port n : Nat) (cs : List LineChange) (served : Option Nat) (halls : Nat → Vector Int 16)
    (e : EncFbk) : EncOut :=
  let e := { e with win := e.win.tick }
  let code := e.lines.filt
  let w := e.lines.window (rf.FBK_FILT_ENC_F) n cs
  let o := w.2.foldl (encChange rf port n served halls) ⟨{ e with lines := w.1 }, code, [], [], false, false⟩
  { o with e := { o.e with delta := o.e.cnt - e.cnt } }

/-- The port that serves a leaf (R233). -/
def servingPort (rf : RegFile) (leaf : Nat) : Option Nat := (List.range 8).find? (fun e => rf.FBK_E_CFG_LEAF e == leaf)

/-- The position source of a leaf is its encoder (R240). -/
def encoderSource (rf : RegFile) (leaf : Nat) : Bool :=
  decide (rf.FBK_L_CFG_POS_SRC leaf = 1) && (servingPort rf leaf).isSome

/-- NO_ENC (R240). -/
def noEncoder (rf : RegFile) (leaf : Nat) : Bool :=
  (decide (rf.FBK_L_CFG_POS_SRC leaf = 1) || decide (rf.LDR_L_CFG_ANGLE_SRC leaf = 1)) && (servingPort rf leaf).isNone

/-- Counts per motor revolution of the source in use (R240). -/
def countsPerRev (rf : RegFile) (leaf : Nat) : Nat :=
  if rf.FBK_L_CFG_POS_SRC leaf = 1 then
    match servingPort rf leaf with
    | some e => 4 * rf.FBK_E_GEOM_LINES e
    | none => 6 * rf.LDR_L_CFG_POLE_PAIRS leaf
  else 6 * rf.LDR_L_CFG_POLE_PAIRS leaf

/-- The walk over the counted edges of one tick: count after the edge, sign and stamp of the last, the last reversing edge, the
number of reversals. -/
structure EdgeWalk where
  cnt   : Int
  sign  : Int
  stamp : Nat
  rev   : Option (Nat × Int)
  turns : Nat

/-- One counted edge. -/
def EdgeWalk.edge (w : EdgeWalk) (x : Nat × Int) : EdgeWalk :=
  let c := w.cnt + x.2
  if w.sign ≠ 0 ∧ x.2 ≠ w.sign then ⟨c, x.2, x.1, some (x.1, c), w.turns + 1⟩ else ⟨c, x.2, x.1, w.rev, w.turns⟩

/-- Force the speed to zero (R243, R244). -/
def LeafFbk.forceZero (b : LeafFbk) : LeafFbk := { b with speed := 0, zero := true }

/-- Speed of R243 and flags of R242, for the edges of one tick. before: the source's count before them. -/
def LeafFbk.speedStep (rf : RegFile) (leaf n : Nat) (before : Int) (edges : List (Nat × Int)) (b : LeafFbk) :
    LeafFbk × Bool :=
  let um : Int := (rf.LDR_L_UMREV_UMREV leaf : Nat)
  let den : Int := (countsPerRev rf leaf : Nat)
  let now := 2500 * n
  let w := edges.foldl EdgeWalk.edge ⟨before, b.lastSign, b.lastStamp, none, 0⟩
  let b' := { b with lastSign := w.sign, lastStamp := w.stamp, dirChg := b.dirChg || decide (0 < w.turns),
                     dirChanges := satAdd 16 b.dirChanges w.turns }
  let b' :=
    if edges.isEmpty then
      let dt : Int := ((now - b.lastStamp : Nat) : Int)
      if b.speed = 0 ∨ dt ≤ 0 ∨ den = 0 then b' else
      let lim := um * 50000000 / (den * dt)
      let m : Int := if (b.speed.natAbs : Int) < lim then b.speed.natAbs else lim
      { b' with speed := b.speed.sign * m }
    else if ¬b.haveRef ∨ b.zero then
      { b' with haveRef := true, zero := false, speed := 0, refStamp := w.stamp, refCnt := w.cnt }
    else match w.rev with
      | some (t, c) => { b' with speed := 0, refStamp := t, refCnt := c }
      | none =>
        let dt : Int := ((w.stamp - b.refStamp : Nat) : Int)
        let v := if dt = 0 ∨ den = 0 then b.speed else divZ ((w.cnt - b.refCnt) * um * 50000000) (den * dt)
        { b' with speed := sat32 v, refStamp := w.stamp, refCnt := w.cnt }
  let zs := max (rf.FBK_L_WIN_ZS_TIMEOUT leaf) 1
  let b' := if b'.haveRef && decide (zs * 2500 ≤ now - b'.lastStamp) && !b'.zero then b'.forceZero else b'
  (b', decide (0 < w.turns))

/-- Position of R240 with 16 fractional bits; cnt: the count of the source. -/
def leafPosition (rf : RegFile) (leaf n : Nat) (cnt : Int) (b : LeafFbk) : Int :=
  let um : Int := (rf.LDR_L_UMREV_UMREV leaf : Nat)
  let den : Int := (countsPerRev rf leaf : Nat)
  if den = 0 then b.pos else
  let zeroCnt := if encoderSource rf leaf then b.zeroEnc else b.zeroHall
  let base := (cnt - zeroCnt) * um * 65536 / den
  if encoderSource rf leaf ∨ b.speed = 0 ∨ b.zero then base else
  let dt : Int := ((2500 * n - b.lastStamp : Nat) : Int)
  let run := (b.speed.natAbs : Int) * dt * 65536 / 50000000
  let cap := um * 65536 / den - 65536
  let f := if run < cap then run else cap
  base + f * b.lastSign

/-- Reported position in µm, rounded toward zero (R240). -/
def LeafFbk.posUm (b : LeafFbk) : Int := divZ b.pos 65536

/-- Stage 2 of one leaf after its source's edges are known (R240 to R244). -/
def LeafFbk.motion (rf : RegFile) (leaf n : Nat) (cnt : Int) (edges : List (Nat × Int)) (b : LeafFbk) : LeafFbk × List Ev :=
  let before := cnt - edges.foldl (fun c x => c + x.2) 0
  let r := b.speedStep rf leaf n before edges
  let pos := leafPosition rf leaf n cnt r.1
  let b : LeafFbk := { r.1 with pos := pos, posReg := divZ pos 65536 }
  if r.2 ∧ rf.FBK_L_CFG_DIR_EVT leaf = 1 ∧ (b.dirEvtAt = 0 ∨ b.dirEvtAt + 200 ≤ n + 1) then
    ({ b with dirEvtAt := n + 1 }, [(0x0801, p1 leaf ++ p1 (if b.lastSign = (1 : Int) then 1 else 0) ++ p4 b.posUm)])
  else (b, [])

/-- Stage 2 of the leaves and encoder ports below units (16 leaves before 8 ports; a leaf on its encoder ends with its port); the
windows of the others wait. -/
def feedbackStage (rf : RegFile) (units n : Nat) (hall : List (List LineChange)) (enc : List (List LineChange))
    (leaves : Vector LeafFbk 16) (ports : Vector EncFbk 8) : Vector LeafFbk 16 × Vector EncFbk 8 × List Ev :=
  let portDone := fun (e : Nat) => decide (16 + e < units)
  let leafDone := fun (l : Nat) => decide (l < units) && (!encoderSource rf l || ((servingPort rf l).map portDone).getD true)
  let hs : Vector HallOut 16 := leaves.mapIdx (fun l b => b.halls rf l n (hall.nth l))
  let servedBy := fun (e : Nat) => let l := rf.FBK_E_CFG_LEAF e; if l < 16 then some l else none
  let halls := fun (t : Nat) => Vector.ofFn (fun (l : Fin 16) => hallAt leaves[l].hallCnt hs[l].edges t)
  let es : Vector EncOut 8 := ports.mapIdx (fun e p => p.stage rf e n (enc.nth e) (servedBy e) halls)
  let fromEnc := fun (l : Nat) (angles : List (Nat × Nat)) (b : LeafFbk) =>
    match servingPort rf l with
    | none => ({ b with edgeEnc := [] }, ([] : List Ev))
    | some e =>
      if h : e < 8 then
        let b := { b with edgeEnc := angles.map (fun (a : Nat × Nat) => (a.2, hallAt ports[e].cnt es[e].edges a.1)) }
        let b := if es[e].hallMm ∧ portDone e then { b with hallMm := true } else b
        if es[e].hallFault ∧ portDone e then b.declare l n 3 else (b, [])
      else (b, [])
  let src := fun (l : Nat) (o : HallOut) =>
    if encoderSource rf l then
      match servingPort rf l with
      | some e => if h : e < 8 then (es[e].e.cnt, es[e].edges) else (o.b.hallCnt, o.edges)
      | none => (o.b.hallCnt, o.edges)
    else (o.b.hallCnt, o.edges)
  let out := hs.mapIdx (fun l o =>
    let f := fromEnc l o.angles o.b
    let m := f.1.motion rf l n (src l o).1 (src l o).2
    (m.1, o.evs ++ f.2 ++ m.2))
  (leaves.mapIdx (fun l b => if h : leafDone l ∧ l < 16 then out[l].1 else { b with lines := b.lines.defer n (hall.nth l) }),
   ports.mapIdx (fun e p => if h : portDone e ∧ e < 8 then es[e].e else { p with lines := p.lines.defer n (enc.nth e) }),
   (out.mapIdx (fun l x => if leafDone l then x.2 else [])).toList.flatten ++
     (es.mapIdx (fun e x => if portDone e then x.evs else [])).toList.flatten)

/-- The centre of the sector of a Hall code (R167). -/
def sectorCentre (rf : RegFile) (leaf code : Nat) : Nat := (sectorStart code + rf.LDR_L_HALL_HALL_OFFSET leaf + 5461) % 65536

/-- Electrical angle from the Halls at a sample (R167). -/
def hallAngle (rf : RegFile) (leaf : Nat) (b : LeafFbk) (t : Nat) : Nat :=
  if b.sectorT = 0 ∨ 1000000 < b.sectorT ∨ b.edgeStamp = 0 ∨ 1000000 < t - b.edgeStamp then sectorCentre rf leaf b.code else
  let start := (sectorStart b.code + rf.LDR_L_HALL_HALL_OFFSET leaf) % 65536
  let adv := (t - b.edgeStamp) * 10923 / b.sectorT
  let adv := if adv < 10922 then adv else 10922
  if b.edgeAngle = start then (start + adv) % 65536 else (start + 10922 - adv) % 65536

/-- Set the counts of both sources as the zero of the position (R241). -/
def LeafFbk.reference (encCnt : Int) (b : LeafFbk) : LeafFbk := { b with zeroHall := b.hallCnt, zeroEnc := encCnt }

/-- Empty the error window and the mismatch state of a Hall source (R250). -/
def LeafFbk.clearFault (b : LeafFbk) : LeafFbk := { b with cause := 0, win := ⟨0, 0⟩ }

/-- Empty the error window and the mismatch counts of a port (R250). -/
def EncFbk.clearFault (e : EncFbk) : EncFbk := { e with cause := 0, win := ⟨0, 0⟩, idxRun := 0 }

end Sys2Proof.Machine
end

