-- ==== Sys2Proof/Machine/TypesMem.lean ====
section
/-! DEFINITION. The state of the two protected memories (chapter 15): words, maintenance activities, weir, counters. -/

namespace Sys2Proof.Machine

/-- One protected word (R371). In place of the 15 check bits it holds the error the word carries: `eData` are the data bits that
stand flipped in `data`, `eCheck` the check bits that stand flipped. A word as encoded has both zero. -/
structure MemWord where
  valid  : Bool
  /-- the data bits as stored -/
  data   : DWord
  eData  : DWord
  eCheck : BitVec 15
  deriving DecidableEq, Repr, Inhabited

/-- POISON_SYN (R372). -/
def poisonSyn : BitVec 15 := 0x4E35

/-- A word nobody has written (R372, R374). -/
def MemWord.unwritten : MemWord := ⟨false, 0, 0, 0⟩

/-- A word as a full-word write encodes it (R376). -/
def MemWord.encode (d : DWord) : MemWord := ⟨true, d, 0, 0⟩

/-- A word with the poison pattern (R377). -/
def MemWord.poison (d : DWord) : MemWord := ⟨true, d, 0, poisonSyn⟩

/-- The contents of one memory: the words that differ from what an unlisted address holds, addresses strictly rising. -/
structure Memory where
  /-- every unlisted word is a valid zero word (R373); otherwise it is unwritten -/
  filled : Bool
  /-- the loader wrote the default armatures of R412 -/
  armDefault : Bool
  /-- the loader wrote the default microstep tables of R210 -/
  tblDefault : Bool
  cells : List (Nat × MemWord)
  deriving DecidableEq, Repr, Inhabited

/-- What holds a memory for maintenance (R388). -/
inductive MemActivity where
  | none | hostPass | patrol | injection
  deriving DecidableEq, Repr, Inhabited

/-- A command that waits for its completion: which it is, and the tick it was fetched in. Id 0: it came without a tracker
entry. -/
structure Job where
  id   : Nat
  born : Nat
  cmd  : Cmd
  deriving DecidableEq, Repr, Inhabited

/-- A command that has been judged or carried out: the completion it gets (R352), status by R15. -/
structure Finish where
  job    : Job
  status : Nat
  result : Nat
  deriving DecidableEq, Repr, Inhabited

/-- The summary and the place of a sluice pass (R383, R384). -/
structure Sluice where
  running  : Bool
  source   : Nat
  outcome  : Nat
  pos      : Nat
  hi       : Nat
  words    : Nat
  ce       : Nat
  unwritten : Nat
  poisoned : Nat
  ue       : Nat
  firstUe  : Nat
  lastUe   : Nat
  /-- the last word has been read: the pass completes in the next tick -/
  ended    : Bool
  job      : Option Job
  deriving DecidableEq, Repr, Inhabited

/-- Poison consumed by one agent in this tick (R381). -/
structure Consumed where
  agent : Nat
  first : Nat
  count : Nat
  deriving DecidableEq, Repr, Inhabited

/-- One memory with its integrity engine. -/
structure MemUnit where
  store    : Memory
  activity : MemActivity
  sl       : Sluice
  /-- injection mask taken at arming, 80 bits -/
  injMask  : Nat
  injAddr  : Nat
  injAny   : Bool
  injFired : Bool
  weirLevel : Nat
  weirSince : Nat
  weirAge   : Nat
  overflows : Nat
  ceCount  : Nat
  ueCount  : Nat
  consumed : Nat
  ceAddr   : Nat
  ueAddr   : Nat
  /-- ticks since the last patrol pass started (R385) -/
  patrolAge : Nat
  patrolDue : Bool
  used     : List Consumed
  /-- events of the engine (code, payload) that have not been handed to the posting order yet (R359) -/
  evs      : List (Nat × List Byte)
  /-- correctable errors, and uncorrectable words and consumptions, since the record writer last looked (R394) -/
  newCe    : Nat
  newUe    : Nat
  deriving DecidableEq, Repr, Inhabited

/-- A sluice summary as reset leaves it. -/
def Sluice.reset : Sluice := ⟨false, 0, 0, 0, 0, 0, 0, 0, 0, 0, 0xFFFFFFFF, 0xFFFFFFFF, false, none⟩

/-- A memory unit as reset leaves it, with its contents. -/
def MemUnit.reset (m : Memory) : MemUnit :=
  ⟨m, .none, .reset, 0, 0, false, false, 0, 0, 0, 0, 0, 0, 0, 0, 0, 0, false, [], [], 0, 0⟩

end Sys2Proof.Machine
end

