-- ==== Sys2Proof/Machine/TypesHif.lean ====
section
/-! DEFINITION. The state of the host interface (chapter 14): ports, rings, tracker, posting buffer, pages; and what leaves the
block. -/

namespace Sys2Proof.Machine

/-- An event: code (R14), DTC stamp (R54), payload bytes (R355). -/
structure Event where
  code    : Nat
  stamp   : Nat
  payload : List Byte
  deriving DecidableEq, Repr, Inhabited

/-- An event in a port's queue (R358). -/
structure QEvent where
  ev       : Event
  seq      : Nat
  ring     : Nat
  arose    : Nat
  directed : Bool
  deriving DecidableEq, Repr, Inhabited

/-- A completion in the posting buffer (R352). -/
structure Compl where
  port   : Nat
  ring   : Nat
  tag    : Word
  result : Nat
  status : Nat
  arose  : Nat
  /-- tracker entry held until the completion is written; 0 none -/
  id     : Nat
  deriving DecidableEq, Repr, Inhabited

/-- What leaves the block towards the hosts. The model's own record (log 5); no step reads it. -/
inductive OutMsg where
  | completion (port ring slot : Nat) (tag : Word) (result tick status : Nat) (phase : Bool)
  | event (port ring slot : Nat) (code : Nat) (flags : Nat) (stamp seq : Nat) (payload : List Byte) (phase : Bool)
  | msix (port vector : Nat)
  | data (port : Nat) (addr : Nat) (bytes : List Byte)
  | readData (port : Nat) (bytes : List Byte) (ep : Bool)
  | regData (port : Nat) (value : Word)
  | fetchRead (port ring first count : Nat)
  | config (port : Nat) (value : Nat) (crs : Bool)
  | canFrame (ctl : Nat) (f : CanFrame)
  deriving DecidableEq, Repr

/-- State of a ring (R342). -/
inductive RingState where
  | disabled | running | draining | error
  deriving DecidableEq, Repr, Inhabited

/-- The code of a ring state in HIF_R_STATUS. -/
def RingState.code : RingState → Nat
  | .disabled => 0 | .running => 1 | .draining => 2 | .error => 3

/-- One ring (R340 to R344). -/
structure Ring where
  st       : RingState
  errCause : Nat
  /-- submission tail, or event head (consumer) -/
  host     : Nat
  /-- next descriptor to fetch, or next event slot -/
  dev      : Nat
  cqHost   : Nat
  cqDev    : Nat
  phase    : Bool
  written  : Nat
  /-- descriptors asked for by a fetch read that has not been answered -/
  asked    : Nat
  /-- how many of them hold a reserved tracker entry ready (R349) -/
  askedRes : Nat
  /-- entries since the last MSI-X message (R361) -/
  sinceMsg : Nat
  /-- tick of the first entry after that message -/
  firstAt  : Nat
  lostN    : Nat
  lostFirst : Nat
  /-- tick of the last HIF_LATE_FETCH of this ring, plus one; 0 none -/
  lateAt   : Nat
  deriving DecidableEq, Repr, Inhabited

/-- A disabled ring. -/
def Ring.reset : Ring := ⟨.disabled, 0, 0, 0, 0, 0, true, 0, 0, 0, 0, 0, 0, 0, 0⟩

/-- One PCIe port. -/
structure Port where
  linkUp  : Bool
  width   : Nat
  speed   : Nat
  bme     : Bool
  extTag  : Bool
  mps     : Nat
  mrrs    : Nat
  inReset : Bool
  /-- HIF_PORT_UP is still owed to the other port -/
  upOwed  : Bool
  rings   : Vector Ring 64
  queue   : List QEvent
  seq     : Nat
  jetsIgnored : Nat
  pageViol : Nat
  lost    : Nat
  unrouted : Nat
  lateFetch : Nat
  deferred : Nat
  masked  : Nat
  msixPend : Nat
  /-- ring served last in each class (R350) -/
  served  : Vector Nat 3
  violPage : Nat
  violCount : Nat
  deriving DecidableEq, Repr, Inhabited

/-- A port with its function reset. -/
def Port.reset : Port :=
  ⟨false, 0, 0, false, false, 128, 512, false, false, Vector.replicate 64 .reset, [], 0, 0, 0, 0, 0, 0, 0, 0xFFFFFFFF, 0,
   Vector.replicate 3 0, 0, 0⟩

/-- A fetched command in the tracker (R349). -/
structure Tracked where
  job   : Job
  block : Nat
  code  : Nat
  /-- holds one of the 32 reserved entries -/
  reserved : Bool
  /-- failed a check of R346 -/
  bad   : Bool
  /-- its words in the tracker are poisoned (R380 code 10) -/
  poisoned : Bool
  /-- judged, waiting to be carried out or to be written -/
  judged : Bool
  /-- its ring entered ERROR after the fetch: its completion is discarded (R342) -/
  orphan : Bool
  deriving DecidableEq, Repr, Inhabited

/-- A running PAGE_IN or PAGE_OUT (R368). -/
structure PageRun where
  job    : Job
  isIn   : Bool
  first  : Nat
  count  : Nat
  moved  : Nat
  /-- bytes of the present page that have arrived (PAGE_IN) -/
  got    : Nat
  poison : Bool
  /-- tick in which the last page was moved, plus one; 0 while it runs -/
  doneAt : Nat
  deriving DecidableEq, Repr, Inhabited

/-- A guarantee of the host interface (R362 to R364). -/
structure Guarantee where
  suspended : Bool
  since     : Nat
  met       : Nat
  deriving DecidableEq, Repr, Inhabited

/-- The host interface. -/
structure Hif where
  ports   : Vector Port 2
  tracker : List Tracked
  nextId  : Nat
  hwm     : Nat
  compl   : List Compl
  /-- entries placed in this tick (R359) -/
  placed  : Nat
  ownA    : Nat
  ownB    : Nat
  busy    : Nat
  pages   : List PageRun
  g3      : Guarantee
  g5      : Vector Guarantee 2
  g6      : Vector Guarantee 2
  /-- bytes and ticks of the present BULK window of each port, and whether higher traffic held it up (R363) -/
  bulkBytes : Vector Nat 2
  bulkTicks : Vector Nat 2
  bulkHeld  : Vector Bool 2
  /-- stage 11 overran in this tick (R363) -/
  slotOver : Bool
  deriving DecidableEq, Repr, Inhabited

/-- The host interface after a core or device reset. -/
def Hif.reset : Hif :=
  ⟨Vector.replicate 2 .reset, [], 1, 0, [], 0, 0, 0, 0, [], ⟨false, 0, 0⟩, Vector.replicate 2 ⟨false, 0, 0⟩,
   Vector.replicate 2 ⟨false, 0, 0⟩, Vector.replicate 2 0, Vector.replicate 2 0, Vector.replicate 2 false, false⟩

end Sys2Proof.Machine
end

