-- ==== Sys2Proof/Machine/TypesCore.lean ====
section
/-! DEFINITION. The state of reset and start-up (chapter 18), of time (chapter 02), of the links (chapter 01) and of the
configuration loader (chapter 17). -/

namespace Sys2Proof.Machine

/-- Where the block stands in reset and start-up (R431, R437, R439, R440). -/
inductive Phase where
  /-- device reset holds every die -/
  | deviceReset
  /-- core reset holds the core die and the record die -/
  | coreReset
  /-- link-up: n of the 16 ticks have run (R439) -/
  | linkUp (n : Nat)
  /-- the first complete tick has not run yet (R440) -/
  | first
  | running
  /-- test mode chosen by a strap: the chip does not start (R456) -/
  | testMode
  deriving DecidableEq, Repr, Inhabited

/-- Reset and start-up. -/
structure Boot where
  phase  : Phase
  straps : Nat
  /-- one bit set: the source of the last reset (R431) -/
  cause  : Nat
  coreResets : Nat
  storm  : Bool
  /-- ticks that have passed since each watchdog or clock core reset of the last 600 s (R436) -/
  stormTimes : List Nat
  switchHeld : Bool
  vdrvLow : Nat
  vdrvV  : Nat
  bootUs : Nat
  /-- a core reset has been asked for by GEN_RESET (R435) -/
  resetAsked : Bool
  fillClocks : Nat
  /-- the last device reset came from a pulse of RST_N of less than 10 µs (R432) -/
  shortPulse : Bool
  deriving DecidableEq, Repr, Inhabited

/-- The tick engine and network time (chapter 02). -/
structure Time where
  tick    : Nat
  armed   : Bool
  overrun : Bool
  ovrCount : Nat
  lastSlot : Nat
  /-- ticks since the last overrun -/
  sinceOvr : Nat
  holdStart : Nat
  clrAsked : Bool
  hwm     : Vector Nat 11
  snapHi  : Vector Nat 2
  ntValid : Bool
  /-- anchors taken since NT was started: 0, 1, 2 or more -/
  anchors : Nat
  anchorNt : Nat
  anchorDtc : Nat
  rate    : Nat
  /-- DTC at the start of frame of the previous reference message, plus one; 0 none (R55, R56) -/
  lastRefDtc : Nat
  /-- NT at the start of frame of the last reference message sent (R59) -/
  lastSentNt : Nat
  /-- ticks since the last reference message (R58) -/
  refAge  : Nat
  /-- ticks since the last reference message was sent (R59) -/
  masterAge : Nat
  deriving DecidableEq, Repr, Inhabited

/-- A pending write of a T-class register (R41, R42, R418). -/
structure Shadow where
  port : Nat
  off  : Nat
  word : Word
  /-- first tick whose clock 0 may take it -/
  due  : Nat
  deriving DecidableEq, Repr, Inhabited

/-- One entry of a plinth or relief section (R410). -/
structure CfgEntry where
  off   : Nat
  lsb   : Nat
  width : Nat
  value : Nat
  deriving DecidableEq, Repr, Inhabited

/-- What a bank of the configuration store showed at the last load or IMG_COMMIT. -/
structure BankState where
  cause : Nat
  valid : Bool
  committed : Bool
  gen   : Nat
  id    : Nat
  deriving DecidableEq, Repr, Inhabited

/-- A pending RELIEF_SET (R423); relief 0x1F none. -/
structure ReliefReq where
  relief : Nat
  job    : Job
  /-- first tick of which the boundary guard may check it (R42) -/
  due    : Nat
  /-- ticks left of the limit -/
  left   : Nat
  /-- the check passed: it is applied at the next clock 0 -/
  go     : Bool
  /-- it has been applied in this tick; the relief before it; a word of it was poisoned and it stays unapplied -/
  applied : Bool
  was    : Nat
  poison : Bool
  deriving DecidableEq, Repr, Inhabited

/-- A running image command (R424). -/
structure Install where
  job    : Job
  /-- 2 IMG_WRITE, 3 IMG_COMMIT, 4 IMG_READ -/
  code   : Nat
  bank   : Nat
  page   : Nat
  count  : Nat
  off4k  : Nat
  moved  : Nat
  poison : Bool
  deriving DecidableEq, Repr, Inhabited

/-- The configuration loader and the write rules' state (chapter 17). -/
structure Cfg where
  committed : Bool
  noImage : Bool
  bank    : Nat
  id      : Nat
  gen     : Nat
  shadows : List Shadow
  groupOpen : Vector Bool 2
  groups  : Vector (List (Nat × Word)) 2
  /-- relief in force; 0x1F none -/
  relief  : Nat
  saved   : List CfgEntry
  reliefs : List (List CfgEntry)
  request : Option ReliefReq
  install : Option Install
  reject  : Bool
  rejCause : Nat
  rejPort : Nat
  rejOff  : Nat
  rejCount : Nat
  banks   : Vector BankState 2
  loadUs  : Nat
  deriving DecidableEq, Repr, Inhabited

/-- A link as the core die sees it (R18 to R21). -/
structure Link where
  up    : Bool
  fault : Bool
  /-- FAULT bit of GEN_LINK_STATUS, sticky -/
  sticky : Bool
  errors : Nat
  bad   : Nat
  good  : Nat
  /-- streams replaced in the last tick and, per stream, for how many ticks in a row (links 0 to 3) -/
  stale : Vector Nat 18
  deriving DecidableEq, Repr, Inhabited

/-- The link 4 downlink frame (R18, R27, R28). -/
structure Frame4 where
  sent   : Bool
  /-- CMD of the 48 channels -/
  cmd    : Nat
  /-- a RESTART is carried for these channels (R271) -/
  restart : Nat
  arm    : Bool
  resync : Bool
  slice  : Nat
  /-- settings written since the last frame: (offset, word) -/
  changes : List (Nat × Word)
  /-- the words of the slice: (offset, word) -/
  sliceWords : List (Nat × Word)
  /-- channel A status: DEC_A, drive, latch and clear flags (R107, R114, R116) -/
  decA   : Bool
  latchA : Bool
  clrB   : Bool
  /-- the start-up check has passed (R124) -/
  passed : Bool
  /-- number of the tick the frame belongs to, and whether the interlock is CLOSED (R115) -/
  tick   : Nat
  closed : Bool
  deriving DecidableEq, Repr, Inhabited

/-- The link 5 downlink frame. -/
structure Frame5 where
  sent   : Bool
  cmd    : Nat
  arm    : Bool
  slice  : Nat
  changes : List (Nat × Word)
  sliceWords : List (Nat × Word)
  deriving DecidableEq, Repr, Inhabited

/-- No frame sent yet. -/
def Frame4.idle : Frame4 := ⟨false, 0, 0, false, false, 0, [], [], false, false, false, false, 0, false⟩

/-- No frame sent yet. -/
def Frame5.idle : Frame5 := ⟨false, 0, false, 0, [], []⟩

/-- Links and frames. -/
structure Links where
  l       : Vector Link 8
  /-- bridge dies 0 to 3 in their safe state, bit 4 switch die autonomous, as last reported -/
  autonomous : Nat
  now4    : Frame4
  next4   : Frame4
  now5    : Frame5
  next5   : Frame5
  slice4  : Nat
  slice5  : Nat
  /-- settings that the next frame carries whole -/
  changes4 : List (Nat × Word)
  changes5 : List (Nat × Word)
  resyncAsked : Bool
  deriving DecidableEq, Repr, Inhabited

/-- A link not up. -/
def Link.reset : Link := ⟨false, false, false, 0, 0, 0, Vector.replicate 18 0⟩

/-- Links after a reset of the core die. -/
def Links.reset : Links :=
  ⟨Vector.replicate 8 .reset, 0, .idle, .idle, .idle, .idle, 0, 0, [], [], false⟩

/-- Time after a reset of the core die (R52). -/
def Time.reset : Time :=
  ⟨0, false, false, 0, 0, 0, 0, false, Vector.replicate 11 0, Vector.replicate 2 0, false, 0, 0, 0, 0, 0, 0, 0, 0⟩

/-- The configuration state after a reset of the core die. -/
def Cfg.reset : Cfg :=
  ⟨false, false, 0, 0, 0, [], Vector.replicate 2 false, Vector.replicate 2 [], 0x1F, [], [], none, none, false, 0, 0, 0, 0,
   Vector.replicate 2 ⟨0, false, false, 0, 0⟩, 0⟩

/-- The reset state's start-up part: held in device reset, first rise of the supplies (log 3). -/
def Boot.reset : Boot := ⟨.deviceReset, 0, 1, 0, false, [], false, 0, 0, 0, false, 0, false⟩

end Sys2Proof.Machine
end

