-- ==== Sys2Proof/Machine/TypesDies.lean ====
section
/-! DEFINITION. The state of the interlock (chapter 04), of the switch die (chapters 04, 11, 12) and of the field die (chapter 12),
and what the core die holds about them. -/

namespace Sys2Proof.Machine

/-- State of the interlock (R119). -/
inductive IlkState where
  | off | opened | closed | latched
  deriving DecidableEq, Repr, Inhabited

/-- The code of ILK_STATUS.STATE. -/
def IlkState.code : IlkState → Nat
  | .off => 0 | .opened => 1 | .closed => 2 | .latched => 3

/-- The interlock as the core die holds it: channel A, and what channel B has reported. -/
structure Ilk where
  st      : IlkState
  cause   : Nat
  decA    : Bool
  aOk     : Nat
  /-- channel A's switch conducts; it is driven dynamically; level of the drive pin; edges: ticks since the first of the dynamic
  drive; OFF gate asserted -/
  outA    : Bool
  drive   : Bool
  pin     : Bool
  edges   : Nat
  offGate : Bool
  decB    : Bool
  bOk     : Nat
  outB    : Bool
  latchB  : Bool
  force   : Nat
  /-- the start-up check has been made, and it has passed -/
  checked : Bool
  passed  : Bool
  supTicks : Nat
  danger  : Nat
  safe    : Nat
  safeSent : Bool
  /-- ticks in a row of a wrong reading: STUCK_A, STUCK_B, DCL_HS and DCL_LS with both conducting -/
  wrong   : Vector Nat 4
  fbTicks : Nat
  fb      : Bool
  /-- channel A's test pulse runs in this tick; channel B's runs -/
  pulseA  : Bool
  pulseB  : Bool
  clrAsked : Bool
  /-- latch clear, and latch, to be sent to channel B in the next frame -/
  sendClr : Bool
  crcBad  : Nat
  crcB    : Nat
  hs      : Nat
  ls      : Nat
  sup     : Nat
  openings : Nat
  discSafe : Nat
  deriving DecidableEq, Repr, Inhabited

/-- The interlock after reset. -/
def Ilk.reset : Ilk :=
  ⟨.off, 0, false, 0, false, false, false, 0, true, false, 0, false, false, 1, false, false, 0, 0, 0, false, Vector.replicate 4 0, 0, false,
   false, false, false, false, 0, 0, 0, 0, 0, 0, 0⟩

/-- State of a load switch channel (R275). -/
inductive ChState where
  | off | inrush | on | pause | cool | latched | uvOff
  deriving DecidableEq, Repr, Inhabited

/-- Code of a channel state. -/
def ChState.code : ChState → Nat
  | .off => 0 | .inrush => 1 | .on => 2 | .pause => 3 | .cool => 4 | .latched => 5 | .uvOff => 6

/-- One channel on the switch die. Times in µs. -/
structure Chan where
  st      : ChState
  cmd     : Bool
  restart : Bool
  tries   : Nat
  cause   : Nat
  window  : Nat
  pause   : Nat
  settle  : Nat
  olN     : Nat
  openLoad : Bool
  cond    : Bool
  condUs  : Nat
  /-- a comparator trip has gated the channel off and is not booked yet (R276) -/
  trip    : Bool
  uvWait  : Nat
  /-- samples of the present tick, and what the last tick gave -/
  sum     : Int
  n       : Nat
  top     : Int
  mean    : Int
  peak    : Int
  last10  : List Int
  temp    : Int
  ocTrips : Nat
  thTrips : Nat
  turnOns : Nat
  inrUse  : Nat
  deriving DecidableEq, Repr, Inhabited

/-- A channel after reset of the switch die (R291). -/
def Chan.reset : Chan :=
  ⟨.off, false, false, 0, 0, 0, 0, 0, 0, false, false, 0, false, 0, 0, 0, 0, 0, 0, [], 0, 0, 0, 0, 20⟩

/-- One group on the switch die. -/
structure Group where
  uv      : Bool
  lowUs   : Nat
  goodUs  : Nat
  /-- under-voltage stood or began in the present tick -/
  uvTick  : Bool
  sum     : Nat
  n       : Nat
  low     : Nat
  /-- mean and minimum of the last tick -/
  mean    : Nat
  min     : Nat
  dipUs   : Nat
  dipLow  : Nat
  bestUs  : Nat
  bestLow : Nat
  /-- sense output, mV (R289) -/
  snsOut  : Nat
  snsFault : Bool
  deriving DecidableEq, Repr, Inhabited

/-- A group after reset. -/
def Group.reset : Group := ⟨false, 0, 0, false, 0, 0, 0, 0, 0, 0, 0, 0, 0, 0, false⟩

/-- One trainline input on the switch die (R306, R307). -/
structure TrainLine where
  raw   : Bool
  c     : Nat
  filt  : Bool
  /-- samples in a row between the thresholds -/
  band  : Nat
  indet : Bool
  sum   : Nat
  n     : Nat
  mean  : Nat
  deriving DecidableEq, Repr, Inhabited

/-- A trainline input after reset. -/
def TrainLine.reset : TrainLine := ⟨false, 0, false, 0, false, 0, 0, 0⟩

/-- Channel B (R105 to R118). -/
structure ChanB where
  decB  : Bool
  bOk   : Nat
  /-- the low-side switch conducts -/
  cond  : Bool
  latch : Bool
  /-- frames of dangerous disagreement, and of feedback disagreement -/
  danger : Nat
  fbRun : Nat
  pulse : Bool
  /-- latch causes to report: bit 0 test pulse failed, bit 1 feedback, bit 2 discrepancy -/
  report : Nat
  deriving DecidableEq, Repr, Inhabited

/-- The switch die. -/
structure SwitchDie where
  settings : RegFile
  chans  : Vector Chan 48
  groups : Vector Group 6
  dim    : Nat
  /-- µs for which each DIM pin has been inactive -/
  dimUs  : Vector Nat 8
  tl     : Vector TrainLine 6
  chB    : ChanB
  seen   : Bool
  armed  : Bool
  auto   : Bool
  good   : Nat
  bad    : Nat
  resynced : Bool
  wasReset : Bool
  /-- channel A's status of the last valid frame -/
  decA   : Bool
  latchA : Bool
  passA  : Bool
  tickNo : Nat
  closed : Bool
  /-- link 6 as this die sees it -/
  in6    : Nat
  unk6   : Nat
  bad6   : Nat
  good6  : Nat
  fault6 : Bool
  discards6 : Nat
  /-- link 4 frames discarded since the last report (R20) -/
  discards4 : Nat
  /-- decisions to be reported in the next uplink frame -/
  reports : List (Nat × List Byte)
  deriving DecidableEq, Repr, Inhabited

/-- The switch die after its reset (R291, R124). -/
def SwitchDie.reset : SwitchDie :=
  ⟨.reset, Vector.replicate 48 .reset, Vector.replicate 6 .reset, 0, Vector.replicate 8 0, Vector.replicate 6 .reset,
   ⟨false, 0, false, false, 0, 0, false, 0⟩, false, false, false, 0, 0, false, false, false, false, false, 0, false, 0,
   0xFFFFFFFFFFFFFFFF, 0, 0, false, 0, 0, []⟩

/-- One field input on the field die. -/
structure FieldIn where
  raw   : Bool
  c     : Nat
  filt  : Bool
  wb    : Bool
  /-- samples in a row below, or at and above, 0.5 mA -/
  wbRun : Nat
  /-- the filter changed in the present tick -/
  chg   : Bool
  changes : Nat
  wbEvents : Nat
  sum   : Nat
  n     : Nat
  mean  : Nat
  deriving DecidableEq, Repr, Inhabited

/-- A field input after reset of the field die. -/
def FieldIn.reset : FieldIn := ⟨false, 0, false, false, 0, false, 0, 0, 0, 0, 0⟩

/-- One field output on the field die. -/
structure FieldOut where
  cmd   : Bool
  high  : Bool
  hot   : Bool
  /-- a thermal shutdown was in force in the present tick -/
  hotTick : Bool
  sum   : Nat
  n     : Nat
  mean  : Nat
  deriving DecidableEq, Repr, Inhabited

/-- The field die. supply: 0 good, 1 low or in recovery, 2 missing (R299). -/
structure FieldDie where
  settings : RegFile
  up     : Bool
  ins    : Vector FieldIn 64
  outs   : Vector FieldOut 16
  supply : Nat
  /-- samples in a row: below 18.0 V, below 9.0 V, at or above 9.0 V, at or above 19.0 V; samples since reset release, to 3 -/
  lowRun : Nat
  missRun : Nat
  upRun  : Nat
  recRun : Nat
  samples : Nat
  sum    : Nat
  n      : Nat
  mean   : Nat
  armed  : Bool
  seen   : Bool
  outsOff : Bool
  good   : Nat
  bad    : Nat
  /-- link 5 frames discarded since the last report (R20) -/
  discards5 : Nat
  resynced : Bool
  reports : List (Nat × List Byte)
  deriving DecidableEq, Repr, Inhabited

/-- The field die after its reset. -/
def FieldDie.reset : FieldDie :=
  ⟨.reset, true, Vector.replicate 64 .reset, Vector.replicate 16 ⟨false, false, false, false, 0, 0, 0⟩, 1, 0, 0, 0, 0, 0, 0, 0, 0,
   false, false, false, 0, 0, 0, false, []⟩

/-- A channel as the last link 4 frame reported it (R287). -/
structure ChanView where
  st      : ChState
  cmd     : Bool
  tries   : Nat
  cause   : Nat
  openLoad : Bool
  cond    : Bool
  mean    : Int
  peak    : Int
  temp    : Int
  pauseMs : Nat
  inrUse  : Nat
  ocTrips : Nat
  thTrips : Nat
  turnOns : Nat
  deriving DecidableEq, Repr, Inhabited

/-- What the core die holds of the load switches: commanded states, the last report. -/
structure Lsw where
  cmd    : Nat
  restart : Nat
  view   : Vector ChanView 48
  rail   : Vector Nat 6
  railMin : Vector Nat 6
  uv     : Nat
  dip    : Nat
  snsFault : Nat
  dim    : Nat
  swTemp : Int
  armed  : Bool
  /-- the channel report of a resynchronisation has been taken in this tick -/
  resynced : Bool
  deriving DecidableEq, Repr, Inhabited

/-- The load switch view after reset. -/
def Lsw.reset : Lsw :=
  ⟨0, 0, Vector.replicate 48 ⟨.off, false, 0, 0, false, false, 0, 0, 0, 0, 20, 0, 0, 0⟩, Vector.replicate 6 0, Vector.replicate 6 0, 0, 0, 0,
   0, 0, false, false⟩

/-- Readback check of one field output (R302). -/
structure OutView where
  blank  : Nat
  forced : Bool
  forcedN : Nat
  low    : Bool
  lowN   : Nat
  thermal : Bool
  thermalN : Nat
  volt   : Nat
  forcedEvents : Nat
  lowEvents : Nat
  deriving DecidableEq, Repr, Inhabited

/-- What the core die holds of a field input as the last link 5 frame reported it (R295, R296). -/
structure InView where
  c       : Nat
  mean    : Nat
  changes : Nat
  wbEvents : Nat
  deriving DecidableEq, Repr, Inhabited

/-- What the core die holds of field and trainline I/O. Masks by input. -/
structure Fio where
  act   : Nat
  /-- quality unknown by the field die's own causes 2 and 3, as last reported -/
  dieUnk : Nat
  wb    : Nat
  chg   : Nat
  ins   : Vector InView 64
  /-- a valid link 5 frame has arrived since reset -/
  seen5 : Bool
  supply : Nat
  fsV   : Nat
  outCmd : Nat
  outHigh : Nat
  outs  : Vector OutView 16
  tlAct : Nat
  tlIndet : Nat
  tlUnk : Nat
  tlV   : Vector Nat 6
  tlC   : Vector Nat 6
  seen4 : Bool
  /-- field inputs that were of quality unknown in the last tick, and trainline inputs -/
  unkWas : Nat
  tlWas : Nat
  deriving DecidableEq, Repr, Inhabited

/-- The field I/O view after reset. -/
def Fio.reset : Fio :=
  ⟨0, 0xFFFFFFFFFFFFFFFF, 0, 0, Vector.replicate 64 ⟨0, 0, 0, 0⟩, false, 1, 0, 0, 0, Vector.replicate 16 ⟨0, false, 0, false, 0, false, 0, 0, 0, 0⟩, 0, 0, 0x3F,
   Vector.replicate 6 0, Vector.replicate 6 0, false, 0xFFFFFFFFFFFFFFFF, 0x3F⟩

end Sys2Proof.Machine
end

