-- ==== Sys2Proof/Machine/SwitchDie.lean ====
section
/-! DEFINITION. The switch die (chapter 11; R306, R307 of chapter 12; channel B of chapter 04): channel evaluation, groups, DIM pins,
sense outputs, trainlines, link 4 and link 6 reception. -/

namespace Sys2Proof.Machine

/-- The register at an offset set to a word; nothing where no register lies there. -/
def RegFile.setOff (off : Nat) (w : Word) (f : RegFile) : RegFile :=
  match findReg off with
  | some (r, i) => f.setWord r i w
  | none => f

/-- The word of the register at an offset. -/
def RegFile.wordOff (off : Nat) (f : RegFile) : Word :=
  match findReg off with
  | some (r, i) => f.word r i
  | none => 0

/-- The integrating filter of R296: counter and filtered state after a sample. -/
def integrate (filt c : Nat) (state raw : Bool) : Nat × Bool :=
  if filt = 0 then (0, raw) else
  let c' := if raw then (if c < filt then c + 1 else filt) else c - 1
  (c', if c' = filt then true else if c' = 0 then false else state)

/-- The settings of a channel that its evaluation uses (R277 to R285). -/
structure ChSet where
  retryMax : Nat
  dimSel : Nat
  base   : Nat
  olEn   : Bool
  inrLim : Nat
  iLim   : Nat
  settle : Nat
  olQual : Nat
  inrMs  : Nat
  olTh   : Nat

/-- The settings of a channel; a zero in SETTLE or OL_QUAL reads as 1. -/
def chSet (f : RegFile) (k : Nat) : ChSet :=
  ⟨f.LSW_C_CFG_RETRY_MAX k, f.LSW_C_CFG_DIM_SEL k, f.LSW_C_CFG_BASE k, decide (f.LSW_C_CFG_OL_EN k = 1), f.LSW_C_LIMIT_INR_LIM k,
   f.LSW_C_LIMIT_I_LIM k, max (f.LSW_C_TIME_SETTLE k) 1, max (f.LSW_C_TIME_OL_QUAL k) 1, f.LSW_C_TIME_INR_MS k, f.LSW_C_OL_OL_TH k⟩

/-- A channel whose state lets it conduct (R275). -/
def ChState.isOn : ChState → Bool
  | .inrush => true | .on => true
  | .off => false | .pause => false | .cool => false | .latched => false | .uvOff => false

/-- The temperature below which a channel may restart, 0.1 °C (R268, R277). -/
def coolBelow : Int := 1550

/-- The thermal shutdown, 0.1 °C (R268). -/
def hotFrom : Int := 1750

/-- Entry to INRUSH with a new window (R278). turnOn: it counts as a turn-on (R277). -/
def Chan.toInrush (x : ChSet) (turnOn : Bool) (c : Chan) : Chan :=
  { c with st := .inrush, window := 1000 * x.inrMs, inrUse := x.inrMs, settle := 0, olN := 0,
           turnOns := if turnOn then satInc 32 c.turnOns else c.turnOns }

/-- Open load is cleared by leaving ON (R285). -/
def Chan.dropOpenLoad (k : Nat) (c : Chan) : Chan × List Ev :=
  if c.openLoad then ({ c with openLoad := false, olN := 0 }, [(0x0A05, p1 k ++ p1 0 ++ p2 c.mean)]) else ({ c with olN := 0 }, [])

/-- A channel leaves its conducting states for another. -/
def Chan.leave (k : Nat) (st : ChState) (c : Chan) : Chan × List Ev :=
  ({ c with st := st, window := 0, settle := 0 } : Chan).dropOpenLoad k

/-- The OFF rows of R277 with CMD on. retry: reported as a retry on entry to INRUSH. -/
def Chan.offRows (k : Nat) (x : ChSet) (uv retry : Bool) (c : Chan) : Chan × List Ev :=
  if c.pause ≠ 0 then ({ c with st := .pause }, [])
  else if coolBelow ≤ c.temp then ({ c with st := .cool }, [])
  else if uv then ({ c with st := .uvOff }, [])
  else (c.toInrush x true, if retry then [(0x0A02, p1 k ++ p4 (c.tries : Nat))] else [])

/-- A try is booked (R277, R280, R281): cause 1 or 2 comparator, 3 thermal; oc: the comparator tripped. -/
def Chan.bookTry (k : Nat) (x : ChSet) (hot oc : Bool) (c : Chan) : Chan × List Ev :=
  let cause := if hot then 3 else if c.st = .inrush then 1 else 2
  let tries := c.tries + 1
  let latch := decide (x.retryMax ≤ tries)
  let r := ({ c with tries := tries, cause := cause, trip := false,
                     ocTrips := if oc then satInc 16 c.ocTrips else c.ocTrips,
                     thTrips := if hot then satInc 16 c.thTrips else c.thTrips,
                     pause := if latch then 0 else 1000 * min (x.base * 2 ^ (tries - 1)) 2000 } : Chan).leave k
    (if latch then .latched else if hot then .cool else .pause)
  (r.1, (0x0A01, p1 k ++ p1 cause ++ p4 (tries : Nat) ++ p2 c.top) ::
    (if latch then [(0x0A03, p1 k ++ p1 cause ++ p4 (tries : Nat))] else []) ++ r.2)

/-- RESTART of a latched channel (R277). -/
def Chan.unlatch (k : Nat) (c : Chan) : Chan × List Ev :=
  if c.st = .latched then ({ c with st := .off, tries := 0, pause := 0 }, [(0x0A04, p1 k)]) else (c, [])

/-- The inrush window has ended (R277). -/
def Chan.windowEnd (x : ChSet) (c : Chan) : Chan :=
  if c.st = .inrush then { c with st := .on, window := 0, settle := 1000 * x.settle, olN := 0 } else c

/-- SETTLE has passed (R277). -/
def Chan.settled (c : Chan) : Chan := if c.st = .on then { c with tries := 0, settle := 0 } else c

/-- The pause has ended (R277, R280). -/
def Chan.pauseEnded (k : Nat) (x : ChSet) (uv : Bool) (c : Chan) : Chan × List Ev :=
  let c := { c with pause := 0 }
  if (c.st = .pause ∨ (c.st = .cool ∧ c.temp < coolBelow)) ∧ c.cmd then c.offRows k x uv true else (c, [])

/-- Restart after under-voltage (R277, R283). -/
def Chan.uvRestart (x : ChSet) (uv : Bool) (c : Chan) : Chan :=
  if c.st = .uvOff ∧ ¬uv ∧ c.pause = 0 ∧ c.temp < coolBelow then { c.toInrush x true with uvWait := 0 } else c

/-- Open load qualified (R285): set where the current stayed below the threshold, cleared where it stood at or above it. -/
def Chan.openLoadSet (k : Nat) (isOpen : Bool) (c : Chan) : Chan × List Ev :=
  if c.st = .on ∧ c.openLoad ≠ isOpen then
    ({ c with openLoad := isOpen, olN := 0 }, [(0x0A05, p1 k ++ p1 (b2n isOpen) ++ p2 c.mean)])
  else (c, [])

/-- A DIM pin is active (R273). -/
def dimActive (f : RegFile) (dim d : Nat) : Bool := dim.testBit d != f.LSW_DIM_CFG_POL.testBit d

/-- Whether the DIM selection lets a channel conduct (R273). -/
def dimAllows (f : RegFile) (x : ChSet) (dim : Nat) : Bool := decide (7 < x.dimSel) || dimActive f dim x.dimSel

/-- The switch of a channel follows its state, its DIM pin and an unbooked trip. -/
def Chan.gate (allows : Bool) (c : Chan) : Chan := { c with cond := c.st.isOn && allows && !c.trip }

/-- One evaluation of a channel after its samples are taken (R276, R277): the highest-ranked transition, then timers. cmdNow: the
command changed since the last evaluation is acted on through the state itself. -/
def Chan.judge (k : Nat) (x : ChSet) (uv : Bool) (oc : Bool) (c : Chan) : Chan × List Ev :=
  let hot := decide (hotFrom ≤ c.temp)
  if c.st.isOn ∧ (oc ∨ hot) then c.bookTry k x hot oc
  else if c.st.isOn ∧ uv then c.leave k .uvOff
  else if c.restart ∧ c.st = .latched then
    let r := c.unlatch k
    ({ r.1 with restart := false }, r.2)
  else
    let c := { c with restart := false }
    match c.st with
    | .off => if c.cmd then c.offRows k x uv false else (c, [])
    | .inrush => if ¬c.cmd then c.leave k .off else if c.window = 0 then (c.windowEnd x, []) else (c, [])
    | .on => if ¬c.cmd then c.leave k .off else (c, [])
    | .pause => if ¬c.cmd then ({ c with st := .off }, []) else if c.pause = 0 then c.offRows k x uv true else (c, [])
    | .cool =>
      if ¬c.cmd then ({ c with st := .off }, [])
      else if c.pause = 0 ∧ c.temp < coolBelow then c.offRows k x uv true
      else (c, [])
    | .uvOff =>
      if ¬c.cmd then ({ c with st := .off, uvWait := 0 }, [])
      else if c.uvWait = 0 then (c.uvRestart x uv, [])
      else (c, [])
    | .latched => (c, [])

/-- The sample of one microsecond (R287). -/
def Chan.sample (amp temp : Int) (c : Chan) : Chan :=
  { c with sum := c.sum + amp, n := c.n + 1, top := if c.top.natAbs < amp.natAbs then amp else c.top, temp := temp,
           last10 := (amp :: c.last10).take 10 }

/-- The timers of one microsecond, and open load (R277, R280, R285). -/
def Chan.timers (k : Nat) (x : ChSet) (amp : Int) (c : Chan) : Chan × List Ev :=
  let c := { c with window := c.window - 1, pause := c.pause - 1, uvWait := c.uvWait - 1,
                    condUs := if c.cond then min (c.condUs + 1) 100 else 0 }
  let c := if c.st = .on ∧ c.settle = 0 then c.settled else { c with settle := c.settle - 1 }
  if c.st = .on ∧ x.olEn ∧ c.condUs = 100 then
    let low := decide (amp < (x.olTh : Int))
    let n := if low = c.openLoad then 0 else c.olN + 1
    let c := { c with olN := n }
    if 1000 * x.olQual ≤ n then c.openLoadSet k low else (c, [])
  else (c, [])

/-- The comparator level of a channel (R279). -/
def Chan.level (x : ChSet) (c : Chan) : Nat := if c.st = .inrush then x.inrLim else x.iLim

/-- One evaluation of one channel. -/
def Chan.evaluate (f : RegFile) (k : Nat) (uv : Bool) (dim : Nat) (amp temp : Int) (c : Chan) : Chan × List Ev :=
  let x := chSet f k
  let allows := dimAllows f x dim
  let c := c.sample amp temp
  let oc := c.trip || (c.cond && decide ((c.level x : Int) ≤ amp))
  let d := c.judge k x uv oc
  let c := d.1.gate allows
  let t := c.timers k x amp
  (t.1.gate allows, d.2 ++ t.2)

/-- Reports added to the next uplink frame. -/
def SwitchDie.say (es : List Ev) (d : SwitchDie) : SwitchDie := { d with reports := d.reports ++ es }

/-- Change of one channel, its switch following. -/
def SwitchDie.chan (k : Nat) (f : Chan → Chan × List Ev) (d : SwitchDie) : SwitchDie :=
  let c := d.chans.nth k
  let r := f c
  let g := r.1.gate (dimAllows d.settings (chSet d.settings k) d.dim)
  { d with chans := d.chans.put k g, reports := d.reports ++ r.2 }

/-- UV_QUAL in µs, UV_REC in µs; zero reads as 1. -/
def uvQual (f : RegFile) (g : Nat) : Nat := max (f.LSW_G_RAIL_TIME_UV_QUAL g) 1
/-- UV_REC in µs. -/
def uvRec (f : RegFile) (g : Nat) : Nat := 1000 * max (f.LSW_G_RAIL_TIME_UV_REC g) 1

/-- The rail of a group is declared in under-voltage (R282); its channels follow in their own evaluation (R276). -/
def SwitchDie.declareUv (g v : Nat) (d : SwitchDie) : SwitchDie :=
  let d := { d with groups := d.groups.upd g (fun x => { x with uv := true, uvTick := true, lowUs := 0, goodUs := 0, dipUs := 0 }) }
  d.say [(0x0A06, p1 g ++ p1 1 ++ p2 (v : Nat))]

/-- A conducting channel of a group that enters under-voltage: a trip not yet booked, or a hot channel, goes before it (R276, R277). -/
def Chan.railLost (k : Nat) (x : ChSet) (c : Chan) : Chan × List Ev :=
  if !c.st.isOn then (c, [])
  else if c.trip ∨ hotFrom ≤ c.temp then c.bookTry k x (decide (hotFrom ≤ c.temp)) c.trip
  else c.leave k .uvOff

/-- A group enters under-voltage (R282). -/
def SwitchDie.enterUv (g v : Nat) (d : SwitchDie) : SwitchDie :=
  if (d.groups.nth g).uv ∨ 6 ≤ g then d else
  (List.range 8).foldl (fun (d : SwitchDie) i =>
    d.chan (8 * g + i) (Chan.railLost (8 * g + i) (chSet d.settings (8 * g + i)))) (d.declareUv g v)

/-- A group leaves under-voltage; its channels restart spread by 100 µs (R283). -/
def SwitchDie.leaveUv (g v : Nat) (d : SwitchDie) : SwitchDie :=
  if ¬(d.groups.nth g).uv then d else
  let d := { d with groups := d.groups.upd g (fun x => { x with uv := false, lowUs := 0, goodUs := 0 }) }
  let d := d.say [(0x0A06, p1 g ++ p1 0 ++ p2 (v : Nat))]
  (List.range 8).foldl (fun (d : SwitchDie) i =>
    d.chan (8 * g + i) (fun c => (if c.st = .uvOff then { c with uvWait := 100 * i } else c, []))) d

/-- A dip of the present tick: the longest is kept (R284). -/
def Group.dip (low us : Nat) (x : Group) : Group :=
  if x.bestUs < us then { x with bestUs := us, bestLow := low } else x

/-- The rail sample of one microsecond (R282 to R284, R287). -/
def SwitchDie.railSample (g v : Nat) (d : SwitchDie) : SwitchDie :=
  let f := d.settings
  let th := f.LSW_G_RAIL_CFG_UV_TH g
  let drop := f.LSW_G_RAIL_CFG_DIP_DROP g
  let d := { d with groups := d.groups.upd g (fun x =>
    let dipping := decide (drop ≠ 0) && decide (v + drop < x.mean)
    let y : Group := { x with
      sum := x.sum + v, n := x.n + 1, low := if x.n = 0 ∨ v < x.low then v else x.low,
      lowUs := if v < th then x.lowUs + 1 else 0,
      goodUs := if th + f.LSW_G_RAIL_TIME_UV_HYS g ≤ v then x.goodUs + 1 else 0,
      dipUs := if dipping then x.dipUs + 1 else 0,
      dipLow := if dipping then (if x.dipUs = 0 ∨ v < x.dipLow then v else x.dipLow) else x.dipLow }
    if dipping then y.dip y.dipLow y.dipUs else y) }
  let x := d.groups.nth g
  if ¬x.uv ∧ uvQual f g ≤ x.lowUs then d.declareUv g v
  else if x.uv ∧ uvRec f g ≤ x.goodUs then d.leaveUv g v
  else d

/-- The evaluation of one microsecond (R276): rails, then every channel, then the DIM idle times. -/
def SwitchDie.evaluate (amps temps : List Int) (rails : List Nat) (d : SwitchDie) : SwitchDie :=
  let d := (List.range 6).foldl (fun (d : SwitchDie) g => d.railSample g (rails.nth g)) d
  let f := d.settings
  let cs := (List.range 48).map (fun k =>
    (d.chans.nth k).evaluate f k (d.groups.nth (k / 8)).uv d.dim (amps.nth k) (temps.nth k))
  { d with chans := Vector.ofFn (fun k : Fin 48 => (cs.nth k.val).1),
           dimUs := d.dimUs.mapIdx (fun i t => if dimActive f d.dim i then 0 else min (t + 1) 255000),
           reports := d.reports ++ cs.flatMap (fun r => r.2) }

/-- A comparator trip gates its channel off at once; the next evaluation books it (R276, R279). -/
def Chan.comparator (x : ChSet) (ma : Int) (c : Chan) : Chan :=
  if c.cond ∧ (c.level x : Int) ≤ ma then
    { c with trip := true, top := if c.top.natAbs < ma.natAbs then ma else c.top }
  else c

/-- A DIM pin edge (R273, R274). -/
def SwitchDie.dimEdge (pin : Nat) (high : Bool) (d : SwitchDie) : SwitchDie :=
  if 8 ≤ pin then d else
  let f := d.settings
  let was := dimActive f d.dim pin
  let dim := setBit d.dim pin high
  let now := dimActive f dim pin
  let idle := d.dimUs.nth pin
  let rearm := f.LSW_DIM_CFG_DIM_REARM
  let again := !was && now && decide (rearm ≠ 0) && decide (1000 * rearm ≤ idle)
  let d := { d with dim := dim, dimUs := if was = now then d.dimUs else d.dimUs.put pin 0 }
  (List.range 48).foldl (fun (d : SwitchDie) k =>
    let x := chSet f k
    if x.dimSel = pin then
      d.chan k (fun c => if again ∧ c.st = .on then
        (let r := c.dropOpenLoad k
         (r.1.toInrush x false, r.2)) else (c, []))
    else d) d

/-- Whether a channel meets a fault condition of R289. -/
def Chan.snsFault (c : Chan) : Bool :=
  decide (c.st = .pause) || decide (c.st = .cool) || decide (c.st = .latched) || c.openLoad

/-- The mean of the last ten samples (R289). -/
def Chan.mean10 (c : Chan) : Int :=
  if c.last10.isEmpty then 0 else divZ (c.last10.foldl (· + ·) 0) (c.last10.length : Int)

/-- A sense output is updated (R288, R289). -/
def SwitchDie.sense (g : Nat) (d : SwitchDie) : SwitchDie :=
  let f := d.settings
  let mode := f.LSW_G_SENSE_MODE g
  let c := d.chans.nth (8 * g + f.LSW_G_SENSE_SEL g)
  let any := (List.range 8).any (fun i => (d.chans.nth (8 * g + i)).snsFault)
  let ma := c.mean10
  let mv : Int := if ma < 0 then 0 else if f.LSW_G_SENSE_GAIN g = 0 then ma / 2 else ma / 4
  let out : Nat × Bool :=
    if mode = 1 then (if c.snsFault then (4500, true) else ((if 3750 < mv then 3750 else mv).toNat, false))
    else if mode = 2 then (if any then (4500, true) else (0, false))
    else (0, false)
  { d with groups := d.groups.upd g (fun x => { x with snsOut := out.1, snsFault := out.2 }) }

/-- TL_FILT of a trainline input. -/
def tlFilt (f : RegFile) (i : Nat) : Nat :=
  if i < 4 then bitsOf f.FIO_TL_FILT0_TL_FILT (8 * i + 7) (8 * i) else bitsOf f.FIO_TL_FILT1_TL_FILT (8 * (i - 4) + 7) (8 * (i - 4))

/-- A 10 µs sample of a trainline input, 10 mV (R306, R307). -/
def TrainLine.sample (f : RegFile) (i v : Nat) (t : TrainLine) : TrainLine :=
  let nom := f.FIO_TL_CFG_TL_NOM
  let hi := decide (nom * f.FIO_TL_CFG_ON_PCT ≤ 100 * v)
  let lo := decide (100 * v ≤ nom * f.FIO_TL_CFG_OFF_PCT)
  let raw := if hi then true else if lo then false else t.raw
  let r := integrate (tlFilt f i) t.c t.filt raw
  let band := if hi || lo then 0 else t.band + 1
  { t with raw := raw, c := r.1, filt := r.2, band := band,
           indet := if hi || lo then false else t.indet || decide (100 * max f.FIO_TL_TIME_BAND_MS 1 ≤ band),
           sum := t.sum + v, n := t.n + 1 }

/-- A sample of the six trainline inputs; every filtered change is reported (R307). -/
def SwitchDie.trainSample (volts : List Nat) (d : SwitchDie) : SwitchDie :=
  let tl := d.tl.mapIdx (fun i t => t.sample d.settings i (volts.nth i))
  { d with
    tl := tl
    reports := d.reports ++ ((List.range 6).filter (fun i => (tl.nth i).filt != (d.tl.nth i).filt)).map (fun i =>
      (0x0B06, p1 i ++ p1 (b2n (tl.nth i).filt))) }

/-- A trainline input becomes indeterminate (R307). -/
def TrainLine.setIndet (t : TrainLine) : TrainLine := if t.band = 0 then t else { t with indet := true }

/-- A lock input of channel B's map reads locked with good quality in the link 6 frame (R106). -/
def SwitchDie.locked6 (d : SwitchDie) (i : Nat) : Bool :=
  decide (i < 64) && d.in6.testBit i && !d.unk6.testBit i && !d.fault6

/-- The two inputs that ILK_B_MAP names for a portal. -/
def bMap (f : RegFile) (p : Nat) : Nat × Nat :=
  if p % 2 = 0 then (f.ILK_B_MAP_LOCK_A_EVEN (p / 2), f.ILK_B_MAP_LOCK_B_EVEN (p / 2))
  else (f.ILK_B_MAP_LOCK_A_ODD (p / 2), f.ILK_B_MAP_LOCK_B_ODD (p / 2))

/-- Channel B's switch follows its decision, its latch, its test pulse, the mode of the die and the start-up check (R105, R109, R124). -/
def SwitchDie.driveB (d : SwitchDie) : SwitchDie :=
  let b := d.chB
  { d with chB := { b with cond := b.decB && !b.latch && !b.pulse && !d.auto && d.seen && d.passA } }

/-- Channel B's decision from its view of link 6 (R106, R109). -/
def SwitchDie.decideB (d : SwitchDie) : SwitchDie :=
  let ok := maskOf 8 (fun p => let m := bMap d.settings p; d.locked6 m.1 && d.locked6 m.2)
  let scope := d.settings.ILK_CFG_SCOPE
  let b := d.chB
  ({ d with chB := { b with bOk := ok, decB := decide (andNot scope ok = 0) } } : SwitchDie).driveB

/-- A link 6 frame at its tick slot (R20, R21, R106): act and unk, the field die's filtered states and qualities. -/
def SwitchDie.frame6 (valid : Bool) (act unk : Nat) (d : SwitchDie) : SwitchDie :=
  if valid then
    ({ d with in6 := act, unk6 := unk, bad6 := 0, good6 := min (d.good6 + 1) 2,
              fault6 := d.fault6 && decide (d.good6 < 1) } : SwitchDie).decideB
  else
    let bad := min (d.bad6 + 1) 2
    ({ d with bad6 := bad, good6 := 0, fault6 := d.fault6 || decide (2 ≤ bad), discards6 := d.discards6 + 1 } :
      SwitchDie).decideB

/-- The switch die sets its own latch (R114), once the start-up check has passed (R120). -/
def SwitchDie.latchOwn (d : SwitchDie) : SwitchDie :=
  if d.passA ∧ d.decA ∧ ¬d.chB.decB ∧ ¬d.fault6 ∧ ¬d.chB.latch then
    let b := d.chB
    ({ d with chB := { b with latch := true, report := b.report ||| 4 } } : SwitchDie).driveB
  else d

/-- Autonomous mode is entered (R25). -/
def SwitchDie.enterAuto (d : SwitchDie) : SwitchDie :=
  if 2 ≤ d.bad then ({ d with auto := true } : SwitchDie).driveB else d

/-- The settings of a frame: changes, then the compared slice; whether the slice differed (R27, R28). -/
def adoptSettings (f : RegFile) (changes slice : List (Nat × Word)) : RegFile × Bool :=
  let f := changes.foldl (fun (f : RegFile) c => f.setOff c.1 c.2) f
  let bad := slice.any (fun c => f.wordOff c.1 != c.2)
  (slice.foldl (fun (f : RegFile) c => f.setOff c.1 c.2) f, bad)

/-- The feedback input as channel B sees it (R118): none while unknown or not named. -/
def SwitchDie.feedback (d : SwitchDie) : Option Bool :=
  let i := d.settings.ILK_FB_FB_IN
  if 64 ≤ i ∨ d.unk6.testBit i ∨ d.fault6 then none
  else some (d.in6.testBit i == decide (d.settings.ILK_CFG_FB_POL = 1))

/-- Channel B's comparisons, once per valid link 4 frame (R114, R118), from the start-up check on (R120). -/
def SwitchDie.compareB (d : SwitchDie) : SwitchDie :=
  let b := d.chB
  if !d.passA then { d with chB := { b with danger := 0, fbRun := 0 } } else
  let danger := if d.decA ∧ ¬b.decB ∧ ¬d.fault6 then b.danger + 1 else 0
  let loop := b.cond && d.closed
  let fbRun := match d.feedback with
    | none => b.fbRun
    | some e => if e = loop then 0 else b.fbRun + 1
  let fbBad := decide (20 * d.settings.ILK_FB_T_FB < fbRun)
  let d := { d with chB := { b with danger := danger, fbRun := fbRun, report := if fbBad then b.report ||| 2 else b.report } }
  if 20 * d.settings.ILK_WIN_WIN_DANGER < danger then d.latchOwn else d

/-- A link 4 frame at its tick slot (R20, R25, R26, R28, R114, R291). A resynchronisation command in an earlier frame than the eighth
valid one is forgotten: DESIGN CHOICE (log 11). -/
def SwitchDie.frame4 (valid : Bool) (fr : Frame4) (d : SwitchDie) : SwitchDie :=
  if valid && fr.sent then
    let good := min (d.good + 1) 8
    let set := adoptSettings d.settings fr.changes fr.sliceWords
    let resync := d.auto && fr.resync && decide (8 ≤ good)
    let d := { d with seen := true, good := good, bad := 0, settings := set.1, decA := fr.decA, latchA := fr.latchA, passA := fr.passed, tickNo := fr.tick,
                      closed := fr.closed, auto := d.auto && !resync, resynced := d.resynced || resync,
                      reports := d.reports ++ (if set.2 then [(0x0003, p1 4 ++ p1 fr.slice)] else []) }
    let d := if d.auto then d else
      { d with armed := d.armed || fr.arm,
               chans := d.chans.mapIdx (fun k c =>
                 if d.armed || fr.arm then
                   { c with cmd := if resync then c.cmd else fr.cmd.testBit k, restart := c.restart || fr.restart.testBit k }
                 else c) }
    let b := d.chB
    let latch := (b.latch || fr.latchA) && !(fr.clrB && b.decB == fr.decA)
    let d := { d with chB := { b with latch := latch, pulse := false, report := if b.latch && !latch then 0 else b.report } }
    d.decideB.compareB
  else
    let d := { d with bad := min (d.bad + 1) 2, good := 0, discards4 := d.discards4 + 1 }
    if 2 ≤ d.bad then d.enterAuto else d

/-- Channel B's test pulse and its check (R115, R116): in the tick whose frame number modulo 400 is 300, with the interlock CLOSED. -/
def SwitchDie.testPulse (lsAbove70 : Bool) (d : SwitchDie) : SwitchDie :=
  let b := d.chB
  if d.tickNo % 400 = 300 ∧ d.closed ∧ b.cond then
    ({ d with chB := { b with pulse := true, report := if lsAbove70 then b.report else b.report ||| 1 } } : SwitchDie).driveB
  else d

/-- The supervisor resets the switch die's logic (R291). -/
def SwitchDie.supervisorReset (d : SwitchDie) : SwitchDie :=
  { SwitchDie.reset with wasReset := true, dim := d.dim, good := 0 }

/-- Channel B's test pulse ends with its tick (R115). -/
def SwitchDie.endPulse (d : SwitchDie) : SwitchDie :=
  if d.chB.pulse then ({ d with chB := { d.chB with pulse := false } } : SwitchDie).driveB else d

/-- The end of a tick on the switch die: means and peaks close, dips are reported, a test pulse ends (R115, R284, R287). -/
def SwitchDie.endTick (d : SwitchDie) : SwitchDie :=
  let d := d.endPulse
  let dips := (List.range 6).flatMap (fun g =>
    let x := d.groups.nth g
    if x.bestUs ≠ 0 ∧ ¬x.uvTick ∧ ¬x.uv then [((0x0A07 : Nat), p1 g ++ p2 (x.bestLow : Nat) ++ p4 (x.bestUs : Nat))] else [])
  { d with
    chans := d.chans.map (fun c =>
      if c.n = 0 then c else { c with mean := divZ c.sum (c.n : Int), peak := c.top, sum := 0, n := 0, top := 0 })
    groups := d.groups.map (fun x =>
      { x with mean := if x.n = 0 then x.mean else x.sum / x.n, min := if x.n = 0 then x.min else x.low, sum := 0, n := 0, low := 0,
               uvTick := x.uv, bestUs := 0, bestLow := 0 })
    tl := d.tl.map (fun t => if t.n = 0 then t else { t with mean := t.sum / t.n, sum := 0, n := 0 })
    reports := d.reports ++ dips }

end Sys2Proof.Machine
end

