-- ==== Sys2Proof/Machine/FieldDie.lean ====
section
/-! DEFINITION. The field die (chapter 12): sampling and filters, wire breaks, supply monitor, outputs, link 5 reception; and the
core die's readback checks of the field outputs (R302). -/

namespace Sys2Proof.Machine

/-- Reports added to the next uplink frame. -/
def FieldDie.say (es : List Ev) (d : FieldDie) : FieldDie := { d with reports := d.reports ++ es }

/-- The raw level of an input: its voltage (10 mV) against the thresholds of its type (R294). -/
def rawLevel (f : RegFile) (i v : Nat) (old : Bool) : Bool :=
  let on := if f.FIO_F_CFG_TYPE i = 0 then 1500 else 1100
  if on ≤ v then true else if v ≤ 500 then false else old

/-- A wire break set or cleared (R297). -/
def FieldIn.wire (i : Nat) (broken : Bool) (ua : Nat) (x : FieldIn) : FieldIn × List Ev :=
  if x.wb = broken then (x, [])
  else ({ x with wb := broken, wbRun := 0, wbEvents := if broken then satInc 16 x.wbEvents else x.wbEvents },
        [(0x0B02, p1 i ++ p1 (b2n broken) ++ p2 (ua : Nat))])

/-- One sample of an input: filter, mean, wire break (R296, R297). good: the supply is good. -/
def FieldIn.sample (f : RegFile) (i v ua : Nat) (good : Bool) (x : FieldIn) : FieldIn × List Ev :=
  let raw := rawLevel f i v x.raw
  let r := integrate (f.FIO_F_CFG_FILT i) x.c x.filt raw
  let chg := r.2 != x.filt
  let below := decide (ua < 500)
  let run := if !good then 0 else if below != x.wb then x.wbRun + 1 else 0
  let x := { x with raw := raw, c := r.1, filt := r.2, chg := x.chg || chg,
                    changes := if chg then satInc 16 x.changes else x.changes,
                    sum := x.sum + ua, n := x.n + 1, wbRun := run }
  if f.FIO_F_CFG_WB_EN i = 0 then ({ x with wbRun := 0 } : FieldIn).wire i false ua
  else if 100 * max (f.FIO_F_CFG_WB_QUAL i) 1 ≤ run then x.wire i below ua
  else (x, [])

/-- A declared change of the supply state (R299). -/
def FieldDie.supplyTo (st v : Nat) (d : FieldDie) : FieldDie :=
  if d.supply = st then d
  else ({ d with supply := st, ins := if st = 0 then d.ins.map (fun x => { x with wbRun := 0 }) else d.ins } : FieldDie).say
    [(0x0B01, p1 st ++ p2 (v : Nat))]

/-- The recovery time has passed (R299). -/
def FieldDie.recovered (v : Nat) (d : FieldDie) : FieldDie := if d.supply = 1 then d.supplyTo 0 v else d

/-- A supply state declared: missing, low, or missing ended (R299). -/
def FieldDie.declareSupply (missing low : Bool) (v : Nat) (d : FieldDie) : FieldDie :=
  if missing then d.supplyTo 2 v
  else if low ∧ d.supply ≠ 1 then d.supplyTo 1 v
  else d

/-- The supply sample (R299), 10 mV. -/
def FieldDie.supplySample (v : Nat) (d : FieldDie) : FieldDie :=
  let d := { d with
    lowRun := if v < 1800 then d.lowRun + 1 else 0, missRun := if v < 900 then d.missRun + 1 else 0,
    upRun := if 900 ≤ v then d.upRun + 1 else 0, recRun := if 1900 ≤ v then d.recRun + 1 else 0,
    samples := min (d.samples + 1) 3, sum := d.sum + v, n := d.n + 1 }
  if d.supply = 2 then (if 3 ≤ d.upRun then d.supplyTo 1 v else d)
  else if 3 ≤ d.missRun then d.supplyTo 2 v
  else if d.supply = 0 then (if 3 ≤ d.lowRun then d.supplyTo 1 v else d)
  else if 100 * max d.settings.FIO_SUPPLY_CFG_FS_REC 1 ≤ d.recRun then d.recovered v
  else d

/-- The outputs may drive (R301, R305). -/
def FieldDie.outputsLive (d : FieldDie) : Bool := d.up && d.armed && !d.outsOff && decide (d.supply ≠ 2)

/-- Output j is switched on. -/
def FieldDie.outOn (d : FieldDie) (j : Nat) : Bool := d.outputsLive && (d.outs.nth j).cmd && !(d.outs.nth j).hot

/-- A field output reaches its thermal shutdown, or restarts (R301). -/
def FieldDie.thermal (j : Nat) (hot : Bool) (d : FieldDie) : FieldDie :=
  { d with outs := d.outs.upd j (fun x => { x with hot := hot, hotTick := x.hotTick || hot }) }

/-- Readback of one output (R302). -/
def FieldOut.sample (v fsup : Nat) (x : FieldOut) : FieldOut :=
  { x with high := decide (fsup < 2 * v), hotTick := x.hotTick || x.hot, sum := x.sum + v, n := x.n + 1 }

/-- One 10 µs sample of the field die (R295 to R302). -/
def FieldDie.sample (volts microamps : List Nat) (fsup : Nat) (outVolts : List Nat) (d : FieldDie) : FieldDie :=
  if !d.up then d else
  let d := d.supplySample fsup
  let f := d.settings
  let good := decide (d.supply = 0)
  let xs := (List.range 64).map (fun i => (d.ins.nth i).sample f i (volts.nth i) (microamps.nth i) good)
  { d with ins := Vector.ofFn (fun i : Fin 64 => (xs.nth i.val).1),
           outs := d.outs.mapIdx (fun j x => x.sample (outVolts.nth j) fsup),
           reports := d.reports ++ xs.flatMap (fun r => r.2) }

/-- All field outputs off for a silent core die (R25). -/
def FieldDie.allOff (d : FieldDie) : FieldDie := if 4 ≤ d.bad then { d with outsOff := true } else d

/-- A link 5 frame at its tick slot (R20, R25, R28, R305). -/
def FieldDie.frame5 (valid : Bool) (fr : Frame5) (d : FieldDie) : FieldDie :=
  if !d.up then d else
  if valid && fr.sent then
    let good := min (d.good + 1) 8
    let set := adoptSettings d.settings fr.changes fr.sliceWords
    let back := d.outsOff && decide (8 ≤ good)
    let d := { d with seen := true, good := good, bad := 0, settings := set.1, armed := d.armed || fr.arm,
                      outsOff := d.outsOff && !back, resynced := d.resynced || back || (fr.arm && !d.armed),
                      reports := d.reports ++ (if set.2 then [(0x0003, p1 5 ++ p1 fr.slice)] else []) }
    { d with outs := d.outs.mapIdx (fun j x => { x with cmd := fr.cmd.testBit j }) }
  else
    let d := { d with bad := min (d.bad + 1) 4, good := 0, discards5 := d.discards5 + 1 }
    if 4 ≤ d.bad then d.allOff else d

/-- The field die's own supervisor (R299): held in reset below 8.0 V, started as after a reset above it. -/
def FieldDie.supervisor (above8V : Bool) (d : FieldDie) : FieldDie :=
  if above8V then (if d.up then d else FieldDie.reset) else { FieldDie.reset with up := false }

/-- Inputs of quality unknown by the field die's own causes (R298). -/
def FieldDie.unknown (d : FieldDie) : Nat :=
  if d.supply ≠ 0 then 0xFFFFFFFFFFFFFFFF else maskOf 64 (fun i => (d.ins.nth i).wb)

/-- Filtered states of the inputs. -/
def FieldDie.active (d : FieldDie) : Nat := maskOf 64 (fun i => (d.ins.nth i).filt)

/-- The end of a tick on the field die: means close; changes wait for the next frame (R296). -/
def FieldDie.endTick (d : FieldDie) : FieldDie :=
  { d with
    ins := d.ins.map (fun x => { x with mean := if x.n = 0 then x.mean else x.sum / x.n, sum := 0, n := 0 })
    outs := d.outs.map (fun x => { x with hotTick := x.hot, mean := if x.n = 0 then x.mean else x.sum / x.n, sum := 0, n := 0 })
    mean := if d.n = 0 then d.mean else d.sum / d.n
    sum := 0
    n := 0 }

/-- A change of CMD of an output on the core die: its readback flags clear and BLANK starts (R302). -/
def OutView.changed (f : RegFile) (j : Nat) (o : OutView) : OutView × List Ev :=
  let v : List Byte := p1 j ++ p1 0 ++ p2 (o.volt : Nat)
  ({ o with blank := max (f.FIO_O_CFG_BLANK j) 1, forced := false, forcedN := 0, low := false, lowN := 0 },
   (if o.forced then [(0x0B03, v)] else []) ++ (if o.low then [(0x0B04, v)] else []))

/-- A flag that follows a condition after two consecutive ticks of it: flag and run. -/
def twoTicks (flag cond : Bool) (n : Nat) : Bool × Nat :=
  if cond = flag then (flag, 0) else if 1 ≤ n then (cond, 0) else (flag, n + 1)

/-- The readback check of one output in a tick (R302). cmd, high: commanded state and reading; live: the supply is good. A pause drops
ticks already counted; BLANK runs on through it (DESIGN CHOICE, log 45). -/
def OutView.check (j : Nat) (cmd high hot live : Bool) (volt : Nat) (o : OutView) : OutView × List Ev :=
  let t := twoTicks o.thermal hot o.thermalN
  let e1 : List Ev := if t.1 ≠ o.thermal then [(0x0B05, p1 j ++ p1 (b2n t.1))] else []
  let o : OutView := { o with volt := volt, thermal := t.1, thermalN := t.2 }
  if o.blank ≠ 0 then ({ o with blank := o.blank - 1 }, e1)
  else if !live then ({ o with forcedN := 0, lowN := 0 }, e1)
  else
    let v : List Byte := p2 (volt : Nat)
    if cmd then
      let l := twoTicks o.low (!high) o.lowN
      ({ o with low := l.1, lowN := l.2, lowEvents := if l.1 && !o.low then satInc 16 o.lowEvents else o.lowEvents },
       e1 ++ (if l.1 ≠ o.low then [(0x0B04, p1 j ++ p1 (b2n l.1) ++ v)] else []))
    else
      let g := twoTicks o.forced high o.forcedN
      ({ o with forced := g.1, forcedN := g.2, forcedEvents := if g.1 && !o.forced then satInc 16 o.forcedEvents else o.forcedEvents },
       e1 ++ (if g.1 ≠ o.forced then [(0x0B03, p1 j ++ p1 (b2n g.1) ++ v)] else []))

end Sys2Proof.Machine
end

