-- ==== Sys2Proof/Machine/Interlock.lean ====
section
/-! DEFINITION. Interlock channel A on the core die (chapter 04): decision, forcing reasons, comparisons, test pulse, readback,
feedback, states. -/

namespace Sys2Proof.Machine

/-- What stage 5 sees beside the interlock's own state. -/
structure IlkIn where
  rf      : RegFile
  tick    : Nat
  /-- the tick is the first complete tick or a later one -/
  started : Bool
  /-- the state condition of R107 for a portal, at the end of stage 6 of the last tick -/
  portalOk : Nat → Bool
  /-- a field input reads active with good quality -/
  active  : Nat → Bool
  /-- the feedback reads energised; none while unknown or not named -/
  feedback : Option Bool
  overrun : Bool
  fault4  : Bool
  fault6  : Bool
  hs      : Nat
  ls      : Nat
  sup     : Nat
  /-- channel B as reported -/
  decB    : Bool
  bOk     : Nat
  outB    : Bool
  reportB : Nat

/-- Portals whose lock inputs read locked in the core die's view (R107, R111). -/
def IlkIn.locks (x : IlkIn) : Nat :=
  maskOf 8 (fun p => x.active (x.rf.SEQ_P_INMAP_LOCK_A p) && x.active (x.rf.SEQ_P_INMAP_LOCK_B p))

/-- A_OK of R107. -/
def IlkIn.aOk (x : IlkIn) : Nat := maskOf 8 (fun p => x.locks.testBit p && x.portalOk p)

/-- The loop supply is at or above 13.5 V (R108, R117). -/
def IlkIn.supOk (x : IlkIn) : Bool := decide (1350 ≤ x.sup)

/-- A voltage below a share of the loop supply. -/
def IlkIn.below (x : IlkIn) (v pct : Nat) : Bool := decide (100 * v < pct * x.sup)

/-- A voltage above a share of the loop supply. -/
def IlkIn.above (x : IlkIn) (v pct : Nat) : Bool := decide (pct * x.sup < 100 * v)

/-- The start-up check passes (R119). A feedback of unknown quality does not read released: DESIGN CHOICE (log 41). -/
def IlkIn.startOk (x : IlkIn) : Bool :=
  x.below x.hs 10 && x.below x.ls 10 && (decide (x.feedback = some false) || decide (x.rf.ILK_FB_FB_IN = 0xFF))

/-- The forcing reasons of R108. -/
def Ilk.forcing (x : IlkIn) (k : Ilk) : Nat :=
  b2n (decide (x.rf.ILK_CFG_ENABLE = 0) || !k.passed) +
  2 * b2n x.overrun + 4 * b2n x.fault4 + 8 * b2n (decide (k.st = .latched)) + 16 * b2n (!x.supOk)

/-- Channel A static: the OFF gate asserted, the drive pin held (R104, R108). -/
def Ilk.static (k : Ilk) : Ilk := { k with offGate := true, drive := false, edges := 0, outA := false, pulseA := false }

/-- The interlock latches (R119, R121); the first cause is kept. -/
def Ilk.latch (cause : Nat) (k : Ilk) : Ilk × List Ev :=
  if k.st = .latched then (k, []) else
  let open5 := decide (k.st = .closed)
  ({ k.static with st := .latched, cause := cause, openings := if open5 then satInc 16 k.openings else k.openings },
   [(0x0305, p1 cause)] ++ (if open5 then [(0x0302, p1 5)] else []))

/-- The reason of ILK_OPENED (R130) where the interlock does not latch; which is given where several stand is a DESIGN CHOICE (log 41). -/
def openedReason (force : Nat) (decA : Bool) : Nat :=
  if force.testBit 1 then 3 else if force.testBit 2 then 4 else if force.testBit 4 then 6 else if decA then 2 else 1

/-- The dangerous disagreement is latched (R111): by 0 core die, 1 switch die. -/
def Ilk.discrepancy (x : IlkIn) (by' : Nat) (k : Ilk) : Ilk × List Ev :=
  if k.st = .opened ∨ k.st = .closed then
    let r := k.latch 1
    (r.1, (0x0303, p1 by' ++ p1 (x.locks ^^^ x.bOk)) :: r.2)
  else (k, [])

/-- The safe disagreement is reported (R112). -/
def Ilk.discSafeReport (k : Ilk) : Ilk × List Ev :=
  if k.safeSent then (k, []) else
  ({ k with safeSent := true, discSafe := satInc 16 k.discSafe }, [(0x0304, p1 (andNot k.bOk k.aOk))])

/-- Comparisons of R111 and R112 with the suspension of R113. That a suspension starts the counted times anew is a DESIGN CHOICE
(log 41). -/
def Ilk.compare (x : IlkIn) (k : Ilk) : Ilk × List Ev :=
  if x.fault4 ∨ x.fault6 then ({ k with danger := 0, safe := 0 }, []) else
  let danger := if k.decA && !k.decB then k.danger + 1 else 0
  let safe := if !k.decA && k.decB then k.safe + 1 else 0
  let k := { k with danger := danger, safe := safe, safeSent := k.safeSent && decide (safe ≠ 0) }
  if 20 * x.rf.ILK_WIN_WIN_DANGER < danger then k.discrepancy x 0
  else if 20 * x.rf.ILK_WIN_WIN_SAFE < safe then k.discSafeReport
  else (k, [])

/-- The wrong readings of R117 in this tick: STUCK_A, STUCK_B, DCL_HS and DCL_LS with both channels conducting. -/
def Ilk.wrongNow (x : IlkIn) (k : Ilk) : List Bool :=
  if !x.supOk ∨ !k.checked then [false, false, false, false] else
  [!k.outA && !k.pulseA && !x.below x.hs 30,
   k.outA && !k.outB && !k.pulseA && !k.pulseB && !x.above x.ls 70,
   k.outA && k.outB && !k.pulseA && !k.pulseB && !x.above x.hs 70,
   k.outA && k.outB && !k.pulseA && !k.pulseB && !x.below x.ls 30]

/-- The latch cause of this tick (R115 to R118, R121); 0 none. -/
def Ilk.latchCause (x : IlkIn) (k : Ilk) : Nat :=
  if k.pulseA && !x.below x.hs 30 then 2
  else if x.reportB.testBit 0 then 3
  else if 2 ≤ k.wrong.nth 0 then 4
  else if 2 ≤ k.wrong.nth 1 then 5
  else if 2 ≤ k.wrong.nth 2 then 2
  else if 2 ≤ k.wrong.nth 3 then 3
  else if 20 * x.rf.ILK_FB_T_FB < k.fbTicks ∨ x.reportB.testBit 1 then 6
  else 0

/-- Whether the cause of the latch still stands (R119): for a pulse or readback cause, whether its node reads wrongly on the open loop
(DEDUCED, log 24). -/
def Ilk.stands (x : IlkIn) (k : Ilk) : Bool :=
  match k.cause with
  | 1 => k.decA && !k.decB
  | 2 | 4 => !x.below x.hs 30
  | 3 | 5 => !x.below x.ls 30
  | 6 => decide (x.feedback = some true)
  | 7 => true
  | 8 => !x.startOk
  | _ => false

/-- CLR_LATCH is judged (R119). That a cleared START_CHECK latch counts as the check passed is a DESIGN CHOICE (log 41). -/
def Ilk.clear (x : IlkIn) (k : Ilk) : Ilk × List Ev :=
  let k := { k with clrAsked := false }
  if k.st ≠ .latched then (k, [])
  else if !k.stands x && k.decA == k.decB then
    ({ k with st := .opened, cause := 0, sendClr := true, checked := true, passed := true, danger := 0, safe := 0, fbTicks := 0,
              wrong := Vector.replicate 4 0 }, [(0x0306, p1 0 ++ p1 k.cause)])
  else (k, [(0x0306, p1 1 ++ p1 k.cause)])

/-- The start-up check (R119, R120). -/
def Ilk.startCheck (x : IlkIn) (k : Ilk) : Ilk × List Ev :=
  if k.st = .off ∧ x.started ∧ x.rf.ILK_CFG_ENABLE = 1 ∧ 16 ≤ k.supTicks then
    if x.startOk then ({ k with st := .opened, checked := true, passed := true }, []) else ({ k with checked := true } : Ilk).latch 8
  else (k, [])

/-- Channel A's drive of the tick (R104, R108, R115): an edge of its pin every 10 ticks, counted from the first of the dynamic drive. -/
def Ilk.driveA (x : IlkIn) (k : Ilk) : Ilk :=
  let go := k.decA && decide (k.force = 0)
  let pulse := go && decide (k.st = .closed) && decide (x.tick % 400 = 100)
  { k with drive := go, pin := k.pin != (go && decide (k.edges % 10 = 0)), edges := if go then k.edges + 1 else 0, outA := go
           offGate := !go || pulse, pulseA := pulse, pulseB := decide (k.st = .closed) && decide (x.tick % 400 = 300) }

/-- Stage 5 (R107 to R122). -/
def Ilk.stage (x : IlkIn) (k : Ilk) : Ilk × List Ev :=
  let aOk := x.aOk
  let c := k.startCheck x
  let k := { c.1 with
    aOk := aOk, decA := decide (andNot x.rf.ILK_CFG_SCOPE aOk = 0), decB := x.decB, bOk := x.bOk, outB := x.outB,
    hs := x.hs, ls := x.ls, sup := x.sup, supTicks := if x.supOk then min (k.supTicks + 1) 16 else 0,
    fb := decide (x.feedback = some true) }
  let w := k.wrongNow x
  let loop := k.outA && k.outB
  let k := { k with wrong := k.wrong.mapIdx (fun i n => if w.nth i then n + 1 else 0),
                    fbTicks := match x.feedback with
                      | none => k.fbTicks
                      | some e => if e = loop || !k.checked then 0 else k.fbTicks + 1 }
  let d := k.compare x
  let k := d.1
  let e : Ilk × List Ev := if x.reportB.testBit 2 then k.discrepancy x 1 else (k, [])
  let k := e.1
  let cause := k.latchCause x
  let g : Ilk × List Ev := if cause ≠ 0 ∧ (k.st = .opened ∨ k.st = .closed) then k.latch cause else (k, [])
  let k := g.1
  let h : Ilk × List Ev := if k.clrAsked then k.clear x else (k, [])
  let k := h.1
  let k := { k with force := k.forcing x }
  let t : Ilk × List Ev :=
    if k.st = .opened ∧ k.outA ∧ k.outB then ({ k with st := .closed }, [(0x0301, [])])
    else if k.st = .closed ∧ (!k.outA ∨ !k.outB ∨ !k.decA ∨ k.force ≠ 0) then
      ({ k with st := .opened, openings := satInc 16 k.openings }, [(0x0302, p1 (openedReason k.force k.decA))])
    else (k, [])
  (t.1.driveA x, c.2 ++ d.2 ++ e.2 ++ g.2 ++ h.2 ++ t.2)

/-- Channel A's test pulse is judged (R115). -/
def Ilk.judgePulse (hsBelow30 : Bool) (k : Ilk) : Ilk × List Ev :=
  if k.pulseA then
    let k := { k with pulseA := false }
    if hsBelow30 then (k, []) else k.latch 2
  else (k, [])

/-- The maps of the two channels agree for every portal in scope (R110). -/
def mapsAgree (rf : RegFile) : Bool :=
  (indices 8 (fun p => rf.ILK_CFG_SCOPE.testBit p)).all (fun p =>
    let m := bMap rf p
    decide (m.1 = rf.SEQ_P_INMAP_LOCK_A p) && decide (m.2 = rf.SEQ_P_INMAP_LOCK_B p) && decide (m.1 ≠ 0xFF) && decide (m.2 ≠ 0xFF))

/-- The check at configuration commit (R110). It latches before the start-up check too: DESIGN CHOICE (log 41). -/
def Ilk.commitCheck (rf : RegFile) (k : Ilk) : Ilk × List Ev :=
  if mapsAgree rf then (k, []) else ({ k with checked := true } : Ilk).latch 7

/-- CRC-16 of a lock map (R110). -/
def mapCrc (rf : RegFile) : Nat :=
  (Config.crc16 ((List.range 4).flatMap (fun i => leBytes 4 (rf.word Reg.ILK_B_MAP i).toNat))).toNat

/-- A report of channel B's map once per settings rotation (R110). -/
def Ilk.mapReport (rf : RegFile) (crc : Nat) (k : Ilk) : Ilk × List Ev :=
  let bad := if crc = mapCrc rf then 0 else k.crcBad + 1
  let k := { k with crcB := crc, crcBad := bad }
  if 2 ≤ bad ∧ (k.st = .opened ∨ k.st = .closed) then k.latch 7 else (k, [])

/-- FIO_ILK_WIRING flags of a portal at a configuration commit (R300). -/
def wiringFlags (rf : RegFile) (p : Nat) : Nat :=
  let a := rf.SEQ_P_INMAP_LOCK_A p
  let b := rf.SEQ_P_INMAP_LOCK_B p
  let fb := rf.ILK_FB_FB_IN
  let wbOff := fun i => decide (i < 64) && decide (rf.FIO_F_CFG_WB_EN i = 0)
  let short := fun i => decide (i < 64) && decide (rf.FIO_F_CFG_FILT i < 10)
  b2n (decide (a < 64) && decide (b < 64) && decide (a / 8 = b / 8)) + 2 * b2n (wbOff a || wbOff b) +
    4 * b2n (short a || short b || short fb)

end Sys2Proof.Machine
end

