-- ==== Sys2Proof/Machine/StepTable.lean ====
section
/-! DEFINITION. The default microstep table of R210: round(65535 sin(90° i / 256)), from which every default entry follows. -/

namespace Sys2Proof.Machine

/-- round(65535 sin(90° i / 256)), part 0. -/
def tableSine0 : List Nat := [0, 402, 804, 1206, 1608, 2010, 2412, 2814, 3216, 3617, 4019, 4420, 4821, 5222, 5623, 6023, 6424, 6824, 7223, 7623, 8022, 8421, 8820, 9218, 9616, 10014, 10411, 10808, 11204, 11600, 11996, 12391]

/-- round(65535 sin(90° i / 256)), part 1. -/
def tableSine1 : List Nat := [12785, 13179, 13573, 13966, 14359, 14751, 15142, 15533, 15924, 16313, 16703, 17091, 17479, 17866, 18253, 18639, 19024, 19408, 19792, 20175, 20557, 20939, 21319, 21699, 22078, 22456, 22834, 23210, 23586, 23960, 24334, 24707]

/-- round(65535 sin(90° i / 256)), part 2. -/
def tableSine2 : List Nat := [25079, 25450, 25820, 26189, 26557, 26925, 27291, 27656, 28020, 28383, 28745, 29106, 29465, 29824, 30181, 30538, 30893, 31247, 31600, 31952, 32302, 32651, 32999, 33346, 33692, 34036, 34379, 34721, 35061, 35400, 35738, 36074]

/-- round(65535 sin(90° i / 256)), part 3. -/
def tableSine3 : List Nat := [36409, 36743, 37075, 37406, 37736, 38064, 38390, 38715, 39039, 39361, 39682, 40001, 40319, 40635, 40950, 41263, 41575, 41885, 42194, 42500, 42806, 43109, 43411, 43712, 44011, 44308, 44603, 44897, 45189, 45479, 45768, 46055]

/-- round(65535 sin(90° i / 256)), part 4. -/
def tableSine4 : List Nat := [46340, 46624, 46905, 47185, 47464, 47740, 48014, 48287, 48558, 48827, 49095, 49360, 49624, 49885, 50145, 50403, 50659, 50913, 51166, 51416, 51664, 51911, 52155, 52398, 52638, 52877, 53113, 53348, 53580, 53811, 54039, 54266]

/-- round(65535 sin(90° i / 256)), part 5. -/
def tableSine5 : List Nat := [54490, 54713, 54933, 55151, 55367, 55582, 55794, 56003, 56211, 56417, 56620, 56822, 57021, 57218, 57413, 57606, 57797, 57985, 58171, 58356, 58537, 58717, 58895, 59070, 59243, 59414, 59582, 59749, 59913, 60075, 60234, 60391]

/-- round(65535 sin(90° i / 256)), part 6. -/
def tableSine6 : List Nat := [60546, 60699, 60850, 60998, 61144, 61287, 61429, 61567, 61704, 61838, 61970, 62100, 62227, 62352, 62475, 62595, 62713, 62829, 62942, 63053, 63161, 63267, 63371, 63472, 63571, 63668, 63762, 63853, 63943, 64030, 64114, 64196]

/-- round(65535 sin(90° i / 256)), part 7. -/
def tableSine7 : List Nat := [64276, 64353, 64428, 64500, 64570, 64638, 64703, 64765, 64826, 64883, 64939, 64992, 65042, 65090, 65136, 65179, 65219, 65258, 65293, 65327, 65357, 65386, 65412, 65435, 65456, 65475, 65491, 65504, 65515, 65524, 65530, 65534]

/-- round(65535 sin(90° i / 256)), i from 0 to 256. -/
def tableSine (i : Nat) : Nat :=
  if i < 128 then
    (if i < 64 then (if i < 32 then tableSine0.nth i else tableSine1.nth (i - 32))
     else if i < 96 then tableSine2.nth (i - 64) else tableSine3.nth (i - 96))
  else if i < 192 then (if i < 160 then tableSine4.nth (i - 128) else tableSine5.nth (i - 160))
  else if i < 224 then tableSine6.nth (i - 192)
  else if i < 256 then tableSine7.nth (i - 224)
  else 65535

/-- Default entry i of a table (R210): CB in bits 31:16, CA in bits 15:0. -/
def defaultEntry (i : Nat) : Nat := tableSine i * 65536 + tableSine (256 - i)

end Sys2Proof.Machine
end

