-- ==== Sys2Proof/Machine/MemOps.lean ====
section
/-! DEFINITION. The protected memories and their integrity engine (chapter 15): reads, writes, poison, injection, the weir, sluice
passes, maintenance activities. A memory is a canonical list of words; addresses of words are numbered by eight bytes. -/

namespace Sys2Proof.Machine

/-- Class of a word (R372). -/
inductive MemClass where
  | unwritten | clean | ce | poison | ue
  deriving DecidableEq, Repr, Inhabited

/-- Number of set bits of an error vector. -/
def errWeight (d : DWord) (c : BitVec 15) : Nat := popCount 64 d.toNat + popCount 15 c.toNat

/-- Class of a word (R372): from its error vector; Config.eccAlias where the code gives no assurance. -/
def MemWord.cls (x : MemWord) : MemClass :=
  if !x.valid then .unwritten
  else if x.eData = 0 ∧ x.eCheck = 0 then .clean
  else if errWeight x.eData x.eCheck ≤ 2 then .ce
  else if errWeight x.eData (x.eCheck ^^^ poisonSyn) ≤ 1 then .poison
  else if errWeight x.eData x.eCheck = 3 then .ue
  else match Config.eccAlias x.eData x.eCheck with
    | 0 => .clean
    | 1 => .ce
    | 2 => .poison
    | _ => .ue

/-- The data that the engine delivers for a word it classes CE (R372): corrected for one or two bit errors; free bits turned over where
the code gives no assurance. -/
def MemWord.fixed (x : MemWord) : DWord :=
  x.data ^^^ (if errWeight x.eData x.eCheck ≤ 2 then x.eData else Config.eccTurns x.eData x.eCheck)

/-- The armature region of R37, word numbers. -/
def inArmRegion (w : Nat) : Bool := decide (0x80000 ≤ w) && decide (w < 0x82000)

/-- The microstep table region of R37, word numbers. -/
def inTblRegion (w : Nat) : Bool := decide (0x82000 ≤ w) && decide (w < 0x82400)

/-- What an unlisted word holds: default armatures (R412), default tables (R210), the fill (R373), or never written. -/
def Memory.background (m : Memory) (w : Nat) : MemWord :=
  if m.armDefault ∧ inArmRegion w then .encode 0xFFFF0000FFFF0000
  else if m.tblDefault ∧ inTblRegion w then
    let i := 2 * (w - 0x82000) % 256
    .encode (BitVec.ofNat 64 (defaultEntry i + 4294967296 * defaultEntry (i + 1)))
  else if m.filled then .encode 0
  else .unwritten

/-- The word at a word number. -/
def Memory.word (m : Memory) (w : Nat) : MemWord := (lookupKey w m.cells).getD (m.background w)

/-- A word set, the canonical form kept. -/
def Memory.setWord (m : Memory) (w : Nat) (x : MemWord) : Memory :=
  { m with cells := if x = m.background w then eraseKey w m.cells else insertKey w x m.cells }

/-- The canonical form: word numbers rise strictly, and no listed word equals what an unlisted address holds. -/
def Memory.wf (m : Memory) : Bool := keysRise m.cells && m.cells.all (fun c => decide (c.2 ≠ m.background c.1))

/-- Number of words of memory m (R36). -/
def memWords (m : Nat) : Nat := if m = 0 then 0x100000 else 0x800000

/-- An event of the engine. -/
def MemUnit.say (code : Nat) (body : List Byte) (u : MemUnit) : MemUnit := { u with evs := u.evs ++ [(code, body)] }

/-- A correctable error is counted, and the weir rises (R387). -/
def MemUnit.countCe (rf : RegFile) (m w : Nat) (u : MemUnit) : MemUnit :=
  let level := u.weirLevel + 1
  let u : MemUnit := { u with newCe := u.newCe + 1, ceCount := satInc 32 u.ceCount, ceAddr := 8 * w, weirSince := u.weirSince + 1, weirLevel := level }
  if max (rf.MEM_M_WEIR_THRESH m) 1 < level then
    ({ u with weirLevel := 0, weirSince := 0, overflows := satInc 16 u.overflows } : MemUnit).say 0x0E03
      (p1 m ++ p4 (u.weirSince : Nat) ++ p4 ((8 * w : Nat) : Int))
  else u

/-- An uncorrectable word is counted and reported (R372, R390). -/
def MemUnit.countUe (m agent w : Nat) (u : MemUnit) : MemUnit :=
  ({ u with newUe := u.newUe + 1, ueCount := satInc 16 u.ueCount, ueAddr := 8 * w } : MemUnit).say 0x0E01
    (p1 m ++ p4 ((8 * w : Nat) : Int) ++ p1 agent)

/-- A word put into the store without any writer's effects: the write-backs of R372. -/
def MemUnit.putBack (w : Nat) (x : MemWord) (u : MemUnit) : MemUnit := { u with store := u.store.setWord w x }

/-- A word as the flip mask of an injection leaves it (R386). -/
def MemWord.flip (mask : Nat) (x : MemWord) : MemWord :=
  let d := BitVec.ofNat 64 mask
  ⟨x.valid != mask.testBit 79, x.data ^^^ d, x.eData ^^^ d, x.eCheck ^^^ BitVec.ofNat 15 (mask / 18446744073709551616)⟩

/-- A write of an encoded word by any writer, which an armed injection meets (R386). -/
def MemUnit.place (m agent w : Nat) (x : MemWord) (u : MemUnit) : MemUnit :=
  if u.activity = .injection ∧ (u.injAny ∨ u.injAddr = 8 * w) then
    ({ u with store := u.store.setWord w (x.flip u.injMask), activity := .none, injFired := true } : MemUnit).say 0x0E05
      (p1 m ++ p4 ((8 * w : Nat) : Int) ++ p1 agent)
  else { u with store := u.store.setWord w x }

/-- What a read delivers (R372). -/
structure MemRead where
  data : DWord
  cls  : MemClass

/-- The data are marked poisoned. -/
def MemRead.bad (r : MemRead) : Bool := decide (r.cls = .poison) || decide (r.cls = .ue)

/-- A read of one word, with the count, event and write-back of its class (R372). -/
def MemUnit.read (rf : RegFile) (m agent w : Nat) (u : MemUnit) : MemUnit × MemRead :=
  let x := u.store.word w
  match x.cls with
  | .unwritten => (u, ⟨0, .unwritten⟩)
  | .clean => (u, ⟨x.data, .clean⟩)
  | .ce => ((u.putBack w (.encode x.fixed)).countCe rf m w, ⟨x.fixed, .ce⟩)
  | .poison => (u, ⟨x.data, .poison⟩)
  | .ue => ((u.putBack w (.poison x.data)).countUe m agent w, ⟨x.data, .ue⟩)

/-- A full-word write (R376). -/
def MemUnit.writeFull (m agent w : Nat) (d : DWord) (u : MemUnit) : MemUnit := u.place m agent w (.encode d)

/-- A full-word write of a copy: poisoned where its source was (R379). -/
def MemUnit.writeCopy (m agent w : Nat) (d : DWord) (bad : Bool) (u : MemUnit) : MemUnit :=
  u.place m agent w (if bad then .poison d else .encode d)

/-- New bytes merged into a word; none keeps the byte. -/
def mergeBytes (d : DWord) (bs : List (Option Byte)) : DWord :=
  BitVec.ofNat 64 (ofLe ((leBytes 8 d.toNat).zipWith (fun o b => b.getD o) bs))

/-- What a partial write finds in its target (R377): the unit with what is counted, the data, whether the word stays poisoned. -/
def MemUnit.target (rf : RegFile) (m agent w : Nat) (u : MemUnit) : MemUnit × DWord × Bool :=
  let x := u.store.word w
  match x.cls with
  | .unwritten => (u, 0, false)
  | .clean => (u, x.data, false)
  | .ce => (u.countCe rf m w, x.fixed, false)
  | .ue => (u.countUe m agent w, x.data, true)
  | .poison => (u, x.data, true)

/-- A write of fewer than eight bytes: read-modify-write (R377); bad: the new bytes are themselves poisoned (R379). -/
def MemUnit.writePart (rf : RegFile) (m agent w : Nat) (bs : List (Option Byte)) (bad : Bool) (u : MemUnit) : MemUnit :=
  let t := u.target rf m agent w
  t.1.writeCopy m agent w (mergeBytes t.2.1 bs) (bad || t.2.2)

/-- A write of the bytes that fall into one word: full where all eight are new (R376), else partial. -/
def MemUnit.writeWordBytes (rf : RegFile) (m agent w : Nat) (bs : List (Option Byte)) (bad : Bool) (u : MemUnit) : MemUnit :=
  if bs.all Option.isSome then u.writeCopy m agent w (mergeBytes 0 bs) bad else u.writePart rf m agent w bs bad

/-- Bytes written from a byte address on, word by word (R376, R377); bad: they come poisoned (R379). -/
def MemUnit.writeData (rf : RegFile) (m agent addr : Nat) (bytes : List Byte) (bad : Bool) (u : MemUnit) : MemUnit :=
  let w0 := addr / 8
  let n := (addr % 8 + bytes.length + 7) / 8
  (List.range n).foldl (fun (u : MemUnit) k =>
    u.writeWordBytes rf m agent (w0 + k)
      ((List.range 8).map (fun i => if 8 * k + i < addr % 8 then none else bytes[8 * k + i - addr % 8]?)) bad) u

/-- Sound bytes written from a byte address on. -/
def MemUnit.writeBytes (rf : RegFile) (m agent addr : Nat) (bytes : List Byte) (u : MemUnit) : MemUnit :=
  u.writeData rf m agent addr bytes false

/-- A consumption of poison (R380, R381). -/
def MemUnit.consume (agent addr : Nat) (u : MemUnit) : MemUnit :=
  { u with newUe := u.newUe + 1, consumed := satInc 16 u.consumed,
           used := if u.used.any (fun c => c.agent = agent)
             then u.used.map (fun c => if c.agent = agent then { c with count := c.count + 1 } else c)
             else u.used ++ [⟨agent, addr, 1⟩] }

/-- A read by a consumer (R380). -/
def MemUnit.use (rf : RegFile) (m agent w : Nat) (u : MemUnit) : MemUnit × MemRead :=
  let r := u.read rf m agent w
  (if r.2.bad then r.1.consume agent (8 * w) else r.1, r.2)

/-- Words read in turn without consumption: the unit, data with their marks. -/
def MemUnit.readWords (rf : RegFile) (m agent w n : Nat) (u : MemUnit) : MemUnit × List (DWord × Bool) :=
  (List.range n).foldl (fun (a : MemUnit × List (DWord × Bool)) k =>
    let r := a.1.read rf m agent (w + k)
    (r.1, a.2 ++ [(r.2.data, r.2.bad)])) (u, [])

/-- Words read in turn by a consumer. -/
def MemUnit.useWords (rf : RegFile) (m agent w n : Nat) (u : MemUnit) : MemUnit × List (DWord × Bool) :=
  (List.range n).foldl (fun (a : MemUnit × List (DWord × Bool)) k =>
    let r := a.1.use rf m agent (w + k)
    (r.1, a.2 ++ [(r.2.data, r.2.bad)])) (u, [])

/-- Words written in turn as copies. -/
def MemUnit.writeWords (m agent w : Nat) (l : List (DWord × Bool)) (u : MemUnit) : MemUnit :=
  (l.foldl (fun (a : MemUnit × Nat) x => (a.1.writeCopy m agent a.2 x.1 x.2, a.2 + 1)) (u, w)).1

/-- The bytes of words. -/
def wordBytes (l : List (DWord × Bool)) : List Byte := l.flatMap (fun x => leBytes 8 x.1.toNat)

/-- Words of eight bytes from bytes; the last one filled with zeros. -/
def bytesWords : Nat → List Byte → List DWord
  | 0, _ => []
  | n + 1, l => BitVec.ofNat 64 (ofLe (l.take 8)) :: bytesWords n (l.drop 8)

/-- The words of word numbers a (included) to b (excluded) that are listed. -/
def Memory.listed (m : Memory) (a b : Nat) : List (Nat × MemWord) :=
  m.cells.filter (fun c => decide (a ≤ c.1) && decide (c.1 < b))

/-- Size of the overlap of two ranges. -/
def overlap (a b c d : Nat) : Nat := min b d - max a c

/-- Word numbers of a range whose background is never written. -/
def Memory.bareWords (m : Memory) (a b : Nat) : Nat :=
  if m.filled then 0
  else (b - a) - (if m.armDefault then overlap a b 0x80000 0x82000 else 0) - (if m.tblDefault then overlap a b 0x82000 0x82400 else 0)

/-- One word of a sluice pass (R383). -/
def MemUnit.sluiceWord (rf : RegFile) (m w : Nat) (u : MemUnit) : MemUnit :=
  let r := u.read rf m 13 w
  let v := r.1
  let s := v.sl
  match r.2.cls with
  | .unwritten => { v with sl := { s with unwritten := s.unwritten + 1 } }
  | .clean => v
  | .ce => { v with sl := { s with ce := s.ce + 1 } }
  | .poison => { v with sl := { s with poisoned := s.poisoned + 1 } }
  | .ue => { v with sl := { s with ue := s.ue + 1,
                                   firstUe := if s.firstUe = 0xFFFFFFFF ∨ 8 * w < s.firstUe then 8 * w else s.firstUe,
                                   lastUe := if s.lastUe = 0xFFFFFFFF ∨ s.lastUe < 8 * w then 8 * w else s.lastUe } }

/-- Words a pass reads per tick (R384). -/
def sluiceRate (m : Nat) : Nat := if m = 0 then 4096 else 512

/-- The next n words of a pass: listed words one by one, the others by their background (R383, R384). -/
def MemUnit.sluiceSpan (rf : RegFile) (m n : Nat) (u : MemUnit) : MemUnit :=
  let a := u.sl.pos / 8
  let b := min (a + n) (u.sl.hi / 8 + 1)
  let l := u.store.listed a b
  let bare := u.store.bareWords a b - (l.filter (fun c => decide (u.store.background c.1 = .unwritten))).length
  let u := l.foldl (fun (u : MemUnit) c => u.sluiceWord rf m c.1) u
  let s := u.sl
  { u with sl := { s with words := s.words + (b - a), unwritten := s.unwritten + bare, pos := 8 * b,
                          ended := decide (u.sl.hi / 8 < b) } }

/-- The words of one tick of a pass. -/
def MemUnit.sluiceRun (rf : RegFile) (m : Nat) (u : MemUnit) : MemUnit := u.sluiceSpan rf m (sluiceRate m)

/-- A pass starts (R384): source 0 port A, 1 port B, 2 patrol. -/
def MemUnit.startPass (source lo hi : Nat) (job : Option Job) (u : MemUnit) : MemUnit :=
  { u with activity := if source = 2 then .patrol else .hostPass,
           sl := ⟨true, source, 0, lo, hi, 0, 0, 0, 0, 0, 0xFFFFFFFF, 0xFFFFFFFF, false, job⟩,
           patrolAge := if source = 2 then 0 else u.patrolAge, patrolDue := if source = 2 then false else u.patrolDue }

/-- A patrol starts over the whole memory (R385), if no activity holds it; else it stays due. -/
def MemUnit.startPatrol (m : Nat) (u : MemUnit) : MemUnit :=
  if u.activity = .none then u.startPass 2 0 (8 * memWords m - 8) none else { u with patrolDue := true }

/-- RESULT of a SLUICE (R389). -/
def Sluice.result (s : Sluice) : Nat := 65536 * min s.ce 65535 + min s.ue 65535

/-- A pass ends: 0 complete, 1 stopped, 2 timed out (R384, R389). -/
def MemUnit.endPass (m outcome : Nat) (u : MemUnit) : MemUnit × List Finish :=
  let s := u.sl
  (({ u with activity := .none, sl := { s with running := false, outcome := outcome, ended := false, job := none } } : MemUnit).say
      0x0E04 (p1 m ++ p1 s.source ++ p1 outcome ++ p4 (s.ce : Nat) ++ p4 (s.ue : Nat) ++ p4 (s.firstUe : Nat)),
   match s.job with
   | none => []
   | some j => [⟨j, if outcome = 0 then 0 else if outcome = 1 then 5 else 4, s.result⟩])

/-- The pass that has read its last word completes (R384). -/
def MemUnit.passDone (m : Nat) (u : MemUnit) : MemUnit × List Finish :=
  if u.sl.running ∧ u.sl.ended then u.endPass m 0 else (u, [])

/-- A running pass reads its last word and completes (R384). -/
def MemUnit.sluiceDone (rf : RegFile) (m : Nat) (u : MemUnit) : MemUnit × List Finish :=
  if u.sl.running then (u.sluiceSpan rf m (memWords m)).endPass m 0 else (u, [])

/-- The weir leaks (R387). -/
def MemUnit.leak (u : MemUnit) : MemUnit := { u with weirLevel := u.weirLevel - 1, weirAge := 0 }

/-- One tick of a memory's weir, patrol and pass, in stage 11 before its commands are judged (R384, R385, R387). -/
def MemUnit.tick (rf : RegFile) (m : Nat) (u : MemUnit) : MemUnit × List Finish :=
  let age := u.weirAge + 1
  let u := if 20 * max (rf.MEM_M_WEIR_LEAK_MS m) 1 ≤ age then u.leak else { u with weirAge := age }
  let u : MemUnit := { u with patrolAge := u.patrolAge + 1 }
  let per := rf.MEM_M_PATROL_PERIOD m
  let due := decide (per ≠ 0) && (u.patrolDue || decide (20000 * per ≤ u.patrolAge))
  if due ∧ u.activity = .none then (u.startPatrol m, [])
  else if u.sl.running then
    let u : MemUnit := { u with patrolDue := due }
    if u.sl.ended then u.passDone m else (u.sluiceRun rf m, [])
  else ({ u with patrolDue := due }, [])

/-- The flip mask of a memory's registers (R386). -/
def flipMask (rf : RegFile) (m : Nat) : Nat :=
  rf.MEM_M_FLIP0_MASK m + 4294967296 * rf.MEM_M_FLIP1_MASK m + 18446744073709551616 * (rf.MEM_M_FLIP2_MASK m % 65536)

/-- A port may issue MEM commands (R389). -/
def memAuth (rf : RegFile) (port : Nat) : Bool :=
  if port = 0 then decide (rf.MEM_AUTH_PORT_A = 1) else decide (rf.MEM_AUTH_PORT_B = 1)

/-- The form of a MEM command that names a memory (R389): the memory, none where it is REJECTED. -/
def memTarget (rf : RegFile) (c : Cmd) : Option Nat :=
  if c.level = 4 ∧ c.index = 0 ∧ c.param.toNat < 2 ∧ memAuth rf c.port then some c.param.toNat else none

/-- SLUICE on a memory (R389): the unit, and the completion unless the pass starts. -/
def MemUnit.sluiceCmd (rf : RegFile) (m : Nat) (job : Job) (u : MemUnit) : MemUnit × List Finish :=
  let lo := rf.MEM_M_RANGE_LO_ADDR m
  let hi := rf.MEM_M_RANGE_HI_ADDR m
  if hi < lo ∨ 8 * memWords m ≤ hi then (u, [⟨job, 2, 0⟩])
  else if u.activity ≠ .none then (u, [⟨job, 1, 0⟩])
  else (u.startPass job.cmd.port lo hi (some job), [])

/-- INJECT on a memory (R389). -/
def MemUnit.injectCmd (rf : RegFile) (m : Nat) (job : Job) (u : MemUnit) : MemUnit × List Finish :=
  let mask := flipMask rf m
  let any := decide (rf.MEM_M_INJ_CFG_ANY m = 1)
  let addr := rf.MEM_M_INJ_ADDR_ADDR m
  if mask = 0 ∨ (any = false ∧ 8 * memWords m ≤ addr) then (u, [⟨job, 2, 0⟩])
  else if u.activity ≠ .none then (u, [⟨job, 1, 0⟩])
  else ({ u with activity := .injection, injMask := mask, injAny := any, injAddr := addr }, [⟨job, 0, 0⟩])

/-- STOP on a memory (R389). -/
def MemUnit.stopCmd (m : Nat) (job : Job) (u : MemUnit) : MemUnit × List Finish :=
  match u.activity with
  | .none => (u, [⟨job, 2, 0⟩])
  | .injection => ({ u with activity := .none }, [⟨job, 0, 0⟩])
  | .hostPass | .patrol =>
    let r := u.endPass m 1
    (r.1, r.2 ++ [⟨job, 0, 0⟩])

/-- The MEM_POISON_CONSUMED events of a tick (R381), and the list cleared. -/
def MemUnit.consumedEvents (m : Nat) (u : MemUnit) : MemUnit × List (Nat × List Byte) :=
  ({ u with used := [] }, u.used.map (fun c => (0x0E02, p1 c.agent ++ p1 m ++ p4 (c.first : Nat) ++ p4 (c.count : Nat))))

/-- An injection with ANY 1 meets a write to working storage of the pipeline in every tick (R386): at a place and with a word that
the spec leaves open. -/
def MemUnit.workingWrite (place data : Nat) (u : MemUnit) : MemUnit :=
  if u.activity = .injection ∧ u.injAny then u.place 0 14 (0xA6000 + place % 0x5A000) (.encode (BitVec.ofNat 64 data)) else u

/-- The 32-bit half of a word that holds a byte address. -/
def halfWord (d : DWord) (addr : Nat) : Nat := bitsOf d.toNat (if addr % 8 < 4 then 31 else 63) (if addr % 8 < 4 then 0 else 32)

end Sys2Proof.Machine
end

