-- ==== Sys2Proof/Machine/Motion.lean ====
section
/-! DEFINITION. The profile generator of one axis (chapter 07): move start, trapezoid and S-curve ramps, stop ramps, speed moves,
kept distance and resume, gearing, limits, position compare. Speeds and positions carry 16 fractional bits (R185); divisions
round down (log 8). -/

namespace Sys2Proof.Machine

/-- One unit with 16 fractional bits. -/
def q16 : Int := 65536

/-- Ticks per second. -/
def tickRate : Int := 20000

/-- The fields of profile set k of axis a as the registers hold them; cushion: the value in use (R189). -/
def rawProfile (rf : RegFile) (a k : Nat) (cushion : Nat) : Profile :=
  let i := 4 * a + k
  ⟨decide (rf.MPG_A_Sk_RAMP_RAMP i = 1), rf.MPG_A_Sk_V_START_V_START i, rf.MPG_A_Sk_V_STOP_V_STOP i,
   rf.MPG_A_Sk_V_BREAK_V_BREAK i, rf.MPG_A_Sk_V_MAX_V_MAX i, rf.MPG_A_Sk_A1_A1 i, rf.MPG_A_Sk_A2_A2 i, rf.MPG_A_Sk_D1_D1 i,
   rf.MPG_A_Sk_D2_D2 i, rf.MPG_A_Sk_JERK_JERK i, cushion⟩

/-- The effective values of R188. -/
def Profile.eff (p : Profile) : Profile :=
  { p with vStart := min p.vStart p.vMax, vStop := min p.vStop p.vMax, vBreak := min p.vBreak p.vMax,
           a1 := if p.a1 = 0 then p.a2 else p.a1, d1 := if p.d1 = 0 then p.d2 else p.d1 }

/-- dist(v, vs) of R190, speeds and result with 16 fractional bits. -/
def Profile.dist (p : Profile) (v vs : Int) : Int :=
  let b : Int := (p.vBreak : Int) * q16
  let vb := if b < vs then vs else b
  let d1 : Int := (p.d1 : Nat)
  let d2 : Int := (p.d2 : Nat)
  if v ≤ vs ∨ d1 = 0 ∨ d2 = 0 then 0
  else if vb < v then (v * v - vb * vb) / (2 * d2 * q16) + (vb * vb - vs * vs) / (2 * d1 * q16)
  else (v * v - vs * vs) / (2 * d1 * q16)

/-- brake(v) of R190. -/
def Profile.brake (p : Profile) (v : Int) : Int := (p.cushion : Int) * q16 + p.dist v ((p.vStop : Int) * q16)

/-- brk(u) of R191. -/
def Profile.brk (p : Profile) (u : Int) : Int :=
  let vs : Int := (p.vStop : Int) * q16
  let j : Int := (p.jerk : Nat)
  let d2 : Int := (p.d2 : Nat)
  let du := u - vs
  if du ≤ 0 ∨ j = 0 ∨ d2 = 0 then 0
  else if d2 * d2 * q16 ≤ du * j then (u + vs) * (du * j + d2 * d2 * q16) / (2 * d2 * j * q16)
  else (u + vs) * (isqrt (du.toNat * 2 ^ 40 / (p.jerk * 65536)) : Int) / 1048576

/-- Change of speed while an acceleration runs down to zero at JERK (R191): a² / (2 × JERK). a with 16 fractional bits. -/
def Profile.rounding (p : Profile) (a : Int) : Int :=
  let j : Int := (p.jerk : Nat)
  if j = 0 then 0 else a * a / (2 * j * q16)

/-- sdist(v, a) of R191; v and a with 16 fractional bits, a at least zero. -/
def Profile.sdist (p : Profile) (v a : Int) : Int :=
  let j : Int := (p.jerk : Nat)
  if j = 0 then 0 else
  v * a / (j * q16) + a * a * a / (3 * j * j * q16 * q16) + p.brk (v + p.rounding a)

/-- The braking distance that starts deceleration: trapezoid or S-curve. a: the acceleration, with 16 fractional bits. -/
def Profile.braking (p : Profile) (v a : Int) : Int :=
  if p.scurve then (p.cushion : Int) * q16 + p.sdist v (if a < 0 then 0 else a) else p.brake v

/-- dec(v): D2 above V_BREAK, D1 below. -/
def Profile.dec (p : Profile) (v : Int) : Int := if (p.vBreak : Int) * q16 < v then (p.d2 : Nat) else (p.d1 : Nat)

/-- acc(v): A1 below V_BREAK, A2 at or above. -/
def Profile.acc (p : Profile) (v : Int) : Int := if v < (p.vBreak : Int) * q16 then (p.a1 : Nat) else (p.a2 : Nat)

/-- The speed floor of R190: max(V_STOP, 2000). -/
def Profile.floor (p : Profile) : Int := (max p.vStop 2000 : Nat) * q16

/-- Change of speed in one tick at a rate. -/
def perTick (rate : Int) : Int := rate * q16 / tickRate

/-- Travel of one tick at a speed. -/
def travel (v : Int) : Int := v / tickRate

/-- Phases in which the axis moves (MPG_MOVING). -/
def MovePhase.moving : MovePhase → Bool
  | .idle => false | .follow => false | .hold => false
  | .accel => true | .cruise => true | .decel => true | .creep => true | .stopping => true | .geared => true | .speed => true

/-- Phases of a ramp that runs to a target or at a speed. -/
def MovePhase.ramping : MovePhase → Bool
  | .accel => true | .cruise => true | .decel => true | .creep => true | .speed => true
  | .idle => false | .follow => false | .hold => false | .stopping => false | .geared => false

/-- Braking phases. -/
def MovePhase.braking : MovePhase → Bool
  | .decel => true | .creep => true
  | .idle => false | .follow => false | .hold => false | .stopping => false | .geared => false | .accel => false
  | .cruise => false | .speed => false

/-- The position set-point in units, rounded toward zero (R185). -/
def Move.pos (m : Move) : Int := divZ m.pSet q16

/-- The speed set-point in units/s, rounded toward zero (R185). -/
def Move.speed (m : Move) : Int := divZ m.vSet q16

/-- Remaining distance to the present or kept target, units (R197). -/
def Move.remain (m : Move) : Nat :=
  if m.kind = .none ∨ m.speedDir ≠ 0 then 0 else (m.target - m.pos).natAbs

/-- The step a tick takes with speed v0 at its start and v at its end, both in direction dir (R190). -/
def Move.take (m : Move) (dir v0 v : Int) : Move :=
  { m with pSet := m.pSet + dir * ((v0 + v) / 2 / tickRate), vSet := dir * v, aSet := dir * ((v - v0) * tickRate) }

/-- The stroke that a reaction has replaced is kept once the axis stands (R196). -/
def Move.keepStroke (m : Move) : Move :=
  match m.stroke with
  | some t => { m with target := t, kept := true, stroke := none }
  | none => m

/-- The end of a move: outcome 0 target reached, 1 stopped with target kept, 2 replaced (R206). -/
def Move.finish (m : Move) (outcome : Nat) : Move := { m with ended := outcome + 1, endKind := m.kind }

/-- The last step of a move that reaches its target (R190). -/
def Move.arrive (m : Move) (dir v0 : Int) : Move :=
  let m := m.finish 0
  { m with pSet := m.target * q16, vSet := 0, aSet := dir * (-v0 * tickRate), phase := .idle, kept := false,
           falling := false }.keepStroke

/-- Speed at the end of the tick of a trapezoid move, and its phase (R190). -/
def trapSpeed (p : Profile) (ph : MovePhase) (d v0 : Int) : MovePhase × Int :=
  let brake := p.brake v0
  let ph := if ph.braking then ph else if d - travel v0 ≤ brake then .decel else ph
  if ph.braking then
    if brake < d - travel v0 then (.decel, v0) else
    let v1 := v0 - perTick (p.dec v0)
    let v := if v1 < p.floor then p.floor else v1
    (if v = p.floor ∧ d ≤ (p.cushion : Int) * q16 then .creep else .decel, v)
  else
    let vm : Int := (p.vMax : Int) * q16
    if v0 < vm then
      let v1 := v0 + perTick (p.acc v0)
      if v1 < vm then (.accel, v1) else (.cruise, vm)
    else if vm < v0 then
      let v1 := v0 - perTick (p.dec v0)
      (.cruise, if v1 < vm then vm else v1)
    else (.cruise, v0)

/-- The change of an acceleration in one tick at JERK, with 16 fractional bits (R191). -/
def Profile.jerkTick (p : Profile) : Int := (p.jerk : Int) * q16 / tickRate

/-- An acceleration a at most one tick of jerk nearer to zero. -/
def Profile.ease (p : Profile) (a : Int) : Int :=
  if 0 < a then (if a < p.jerkTick then 0 else a - p.jerkTick) else if -a < p.jerkTick then 0 else a + p.jerkTick

/-- A magnitude of acceleration or braking in the next tick of a ramp toward a speed (R191): it rises at JERK to its maximum; once falling
it falls at JERK, and not below one tick of jerk, so that the speed is reached. -/
def Profile.rampTick (p : Profile) (falling : Bool) (top : Nat) (a : Int) : Int :=
  let j := p.jerkTick
  if falling then (if a < 2 * j then j else a - j)
  else if (top : Int) * q16 < a + j then (top : Int) * q16 else a + j

/-- Braking of an S-curve toward a speed in one tick (R191): speed, acceleration, and whether the braking falls. An acceleration that is
still positive runs down to zero first. -/
def Profile.curveBrake (p : Profile) (falling : Bool) (goal v0 a0 : Int) : Int × Int × Bool :=
  if 0 < a0 then (v0 + p.ease a0 / tickRate, p.ease a0, false) else
  let fall := falling || decide (v0 - p.rounding a0 ≤ goal)
  let dn := p.rampTick fall p.d2 (-a0)
  (v0 - dn / tickRate, -dn, fall)

/-- Acceleration of an S-curve toward a speed in one tick (R191): a braking that still runs eases first; the fall is for good from the
first tick in which v + a² / (2 × JERK) reaches the speed. -/
def Profile.curveRise (p : Profile) (falling : Bool) (goal v0 a0 : Int) : Int × Int × Bool :=
  if a0 < 0 then (v0 + p.ease a0 / tickRate, p.ease a0, false) else
  let fall := falling || decide (goal ≤ v0 + p.rounding a0)
  let up := p.rampTick fall p.a2 a0
  (v0 + up / tickRate, up, fall)

/-- Phase, speed and acceleration (with 16 fractional bits) at the end of the tick of an S-curve move (R191); falling: the acceleration, or
the braking, has begun to fall. A speed above a lowered V_MAX is braked to it under the same limits (R193). -/
def curveSpeed (p : Profile) (ph : MovePhase) (falling : Bool) (d v0 a0 : Int) : MovePhase × Int × Int × Bool :=
  let brake := p.braking v0 a0
  let begins := !ph.braking && decide (d - travel v0 ≤ brake)
  let vm : Int := (p.vMax : Int) * q16
  if ph.braking || begins then
    if a0 ≤ 0 ∧ brake < d - travel v0 then
      let a := p.ease a0
      (.decel, v0 + a / tickRate, a, false)
    else
      let r := p.curveBrake (falling && !begins) ((p.vStop : Int) * q16) v0 a0
      if a0 ≤ 0 ∧ r.1 ≤ p.floor then (if d ≤ (p.cushion : Int) * q16 then .creep else .decel, p.floor, 0, r.2.2)
      else (.decel, r)
  else if vm < v0 then
    let r := p.curveBrake falling vm v0 a0
    if a0 ≤ 0 ∧ r.1 ≤ vm then (.cruise, vm, 0, false) else (.cruise, r)
  else if v0 = vm then (.cruise, vm, 0, false)
  else
    let r := p.curveRise falling vm v0 a0
    if 0 ≤ a0 ∧ vm ≤ r.1 then (.cruise, vm, 0, false) else (.accel, r)

/-- One tick of a move with a target (R190, R191). -/
def Move.advance (m : Move) : Move :=
  let p := m.par.eff
  let gap := m.target * q16 - m.pSet
  let dir : Int := if gap < 0 ∨ (gap = 0 ∧ m.vSet < 0) then -1 else 1
  let d : Int := gap.natAbs
  let v0 := dir * m.vSet
  if p.scurve then
    let r := curveSpeed p m.phase m.falling d v0 (dir * m.aSet)
    if d ≤ (v0 + r.2.1) / 2 / tickRate then m.arrive dir v0 else
    let m' := m.take dir v0 r.2.1
    { m' with phase := r.1, aSet := dir * r.2.2.1, falling := r.2.2.2 }
  else
    let r := trapSpeed p m.phase d v0
    if d ≤ (v0 + r.2) / 2 / tickRate then m.arrive dir v0 else
    { m.take dir v0 r.2 with phase := r.1 }

/-- One tick of a speed move at a limit speed (R198, R228): accelerates at A1 and A2, then holds the speed. -/
def Move.advanceSpeed (m : Move) (limit : Nat) : Move :=
  let p := m.par.eff
  let lim : Int := (limit : Int) * q16
  let v0 := m.speedDir * m.vSet
  let v1 := v0 + perTick (p.acc v0)
  let v := if lim ≤ v1 then lim else v1
  { m.take m.speedDir v0 v with phase := if v = lim then .speed else .accel }

/-- One tick of a stop ramp (R196): no floor, no cushion, no target clamp. -/
def Move.advanceStop (m : Move) : Move :=
  let p := m.par.eff
  let dir : Int := if m.vSet < 0 then -1 else 1
  let v0 := dir * m.vSet
  if m.uvDecel ≠ 0 then
    let v1 := v0 - perTick m.uvDecel
    m.take dir v0 (if v1 < 0 then 0 else v1)
  else if p.scurve then
    let r := p.curveBrake m.falling 0 v0 (dir * m.aSet)
    { m.take dir v0 (if r.1 < 0 then 0 else r.1) with aSet := dir * r.2.1, falling := r.2.2 }
  else
    let v1 := v0 - perTick (p.dec v0)
    m.take dir v0 (if v1 < 0 then 0 else v1)

/-- The start speed of a move from standstill (R197). -/
def Profile.startSpeed (p : Profile) : Int := if p.scurve then 0 else (p.eff.vStart : Int) * q16

/-- The flags that a new move clears (MPG_A_STATUS bits 7, 6, 4, 3). -/
def Move.fresh (m : Move) : Move :=
  { m with gearSkip := false, geared := false, e0 := 0, d0 := 0, limitHit := false, limitClamped := false, kept := false,
           falling := false, heldBy := none, uvDecel := 0, stopKeeps := false, after := none, stroke := none, began := true,
           p0 := m.pSet }

/-- Put an order into the descriptor. -/
def Move.label (m : Move) (o : Order) : Move :=
  { m with kind := o.kind, set := o.set, target := o.target.getD 0, speedDir := if o.target.isNone then o.dir else 0 }

/-- Start of an ordered move from standstill at a position (R197). -/
def Move.startFrom (m : Move) (o : Order) (par : Profile) (p0 : Int) : Move :=
  let m := (m.fresh.label o)
  let dir : Int := if o.target.isNone then o.dir else if m.target * q16 < p0 then -1 else 1
  { m with par := par, pSet := p0, p0 := p0, vSet := dir * par.startSpeed, aSet := 0, phase := .accel }

/-- The side a new order lies on, seen from the present set-point. -/
def Order.side (o : Order) (pSet : Int) : Int :=
  match o.target with
  | none => o.dir
  | some t => if t * q16 < pSet then -1 else 1

/-- A new order (R195, R197). par: its profile; p0: where a move from standstill starts. -/
def Move.order (m : Move) (o : Order) (par : Profile) (p0 : Int) : Move :=
  if m.phase.moving ∧ m.vSet ≠ 0 then
    let m := if m.kind = .none ∨ m.after.isSome then m else m.finish 2
    if o.side m.pSet = m.vSet.sign then
      { (m.fresh.label o) with par := par, phase := .accel }
    else
      let old := m.par
      { (m.fresh.label o) with par := old, phase := .stopping, after := some o, began := false }
  else
    let m := if m.phase.moving ∧ m.kind ≠ .none ∧ m.after.isNone then m.finish 2 else m
    m.startFrom o par p0

/-- A stop that keeps the target (R196); uv: deceleration of R178, 0 the set's own. -/
def Move.stop (m : Move) (uv : Nat) : Move :=
  if m.phase = .stopping ∧ m.after.isNone then m
  else if m.phase.moving then { m with phase := .stopping, stopKeeps := true, after := none, uvDecel := uv, falling := false }
  else m

/-- Leaf out of DRIVE (R196): the set-point follows the measured position; a running move keeps its target. -/
def Move.follow (m : Move) (measured : Int) : Move :=
  let keeps := m.stopKeeps || (m.phase.moving && decide (m.kind ≠ .none))
  { m with phase := .follow, pSet := measured, vSet := 0, aSet := 0, stopKeeps := keeps, after := none, falling := false }

/-- The axis stands: a stop that keeps its target is complete (R196). A speed move keeps none (R198). -/
def Move.stand (m : Move) (ph : MovePhase) : Move :=
  let m := { m with phase := ph, vSet := 0, aSet := 0, falling := false, uvDecel := 0 }
  if m.stopKeeps then ({ m.finish 1 with kept := decide (m.speedDir = 0), stopKeeps := false } : Move).keepStroke else m

/-- Resume a stopped move toward its kept target, from standstill (R197). -/
def Move.resume (m : Move) (par : Profile) (p0 : Int) : Move :=
  let o : Order := ⟨m.kind, m.set, if m.speedDir = 0 then some m.target else none, m.speedDir⟩
  m.startFrom o par p0

/-- Limit a target to LIM_LO to LIM_HI (R199): the target, and the limit if it was clamped. -/
def clampTarget (rf : RegFile) (a : Nat) (referenced : Bool) (t : Int) : Int × Option Int :=
  let lo := signed 32 (rf.MPG_A_LIM_LO_LIMIT a)
  let hi := signed 32 (rf.MPG_A_LIM_HI_LIMIT a)
  if referenced ∧ rf.MPG_A_CFG_LIM_EN a = 1 then
    if t < lo then (lo, some lo) else if hi < t then (hi, some hi) else (t, none)
  else (t, none)

/-- Hold a set-point that has no target of its own at a limit (R199). -/
def Move.limitPoint (rf : RegFile) (a : Nat) (referenced : Bool) (m : Move) : Move × List Ev :=
  let c := clampTarget rf a referenced m.pos
  match c.2 with
  | none => (m, [])
  | some l =>
    ({ m with pSet := l * q16, vSet := 0, aSet := 0, limitHit := true },
     if m.limitHit then [] else [(0x0606, p1 a ++ p4 l)])

/-- g(m) of R202: ratios 16.16, positions with 16 fractional bits. -/
def gear (rf : RegFile) (portal : Nat) (m : Int) : Int :=
  let r1 : Int := (rf.MPG_A_RATIO1_RATIO portal : Nat)
  let r2 : Int := (rf.MPG_A_RATIO2_RATIO portal : Nat)
  let mc := signed 32 (rf.MPG_A_M_CHANGE_M_CHANGE portal) * q16
  if m ≤ mc then divZ (r2 * m) q16 else divZ (r2 * mc + r1 * (m - mc)) q16

/-- g of a position in µm, rounded toward zero (R202). -/
def gearUm (rf : RegFile) (portal : Nat) (m : Int) : Int := divZ (gear rf portal (m * q16)) q16

/-- The geared set-point of a slave for its master's (R203, R204). -/
def Move.followMaster (rf : RegFile) (portal : Nat) (m : Move) (master : Move) : Move :=
  let togo : Int := (master.target * q16 - master.pSet).natAbs
  let blend := if m.d0 = 0 then m.e0 else divZ (m.e0 * togo) m.d0
  let p := gear rf portal master.pSet + blend
  let v := (p - m.pSet) * tickRate
  { m with pSet := p, vSet := v, aSet := (v - m.vSet) * tickRate, phase := .geared, geared := true }

/-- Whether gearing engages at the start of a master move (R204): the slave's offset and the master's distance, units × 2^16. -/
def gearEngages (e0 d0 : Int) : Bool := decide (8 * (e0.natAbs : Int) ≤ d0)

/-- A profile field by its offset in the set. -/
def Profile.withField (p : Profile) (off v : Nat) : Profile :=
  match off with
  | 0x04 => { p with vStart := v }
  | 0x08 => { p with vStop := v }
  | 0x0C => { p with vBreak := v }
  | 0x10 => { p with vMax := v }
  | 0x14 => { p with a1 := v }
  | 0x18 => { p with a2 := v }
  | 0x1C => { p with d1 := v }
  | 0x20 => { p with d2 := v }
  | 0x24 => { p with jerk := v }
  | _ => p

/-- The value of a profile field. -/
def Profile.field (p : Profile) (off : Nat) : Nat :=
  match off with
  | 0x04 => p.vStart | 0x08 => p.vStop | 0x0C => p.vBreak | 0x10 => p.vMax | 0x14 => p.a1 | 0x18 => p.a2 | 0x1C => p.d1
  | 0x20 => p.d2 | 0x24 => p.jerk | _ => 0

/-- Whether a change of a field is held while the move brakes (R193). -/
def heldBraking (p q : Profile) (off : Nat) (v a : Int) : Bool :=
  if off = 0x14 ∨ off = 0x18 ∨ off = 0x1C ∨ off = 0x20 ∨ off = 0x24 then decide (q.eff.field off < p.eff.field off)
  else if off = 0x08 ∨ off = 0x0C then decide (p.eff.braking v a < q.eff.braking v a)
  else false

/-- Whether a change of a field is held while the move accelerates, cruises or holds its speed (R193). -/
def heldRunning (q : Profile) (speedMove : Bool) (remain v a : Int) : Bool :=
  !speedMove && decide (remain < q.eff.braking v a)

/-- The generator's fields after a change it takes (R193). In braking a raised V_MAX lifts no floor: it never raises the speed of the
move. -/
def Move.taken (m : Move) (q : Profile) (off : Nat) : Profile :=
  if off = 0x10 ∧ m.phase.braking then { q with vStop := min q.vStop m.par.eff.vStop } else q

/-- A profile of set k read from the registers, with the values in force where written ones are held (R194). -/
def Move.inForce (m : Move) (k : Nat) (par : Profile) : Profile :=
  if m.kind = .reaction ∨ m.set ≠ k then par else
  m.held.foldl (fun q h => if h / 64 = k then q.withField (h % 64) (m.par.field (h % 64)) else q) par

/-- The held values of a move that has ended in the last tick are taken (R194). regs: the profile its set's registers give. -/
def Move.takeHeld (m : Move) (regs : Profile) : Move :=
  if m.ended = 0 then m else
  { m with held := [],
           par := m.held.foldl (fun q h => if m.kind ≠ .reaction ∧ h / 64 = m.set then q.withField (h % 64) (regs.field (h % 64)) else q) m.par }

/-- A field of the set in use is written at a boundary (R193, R194). The register already holds the new value. -/
def Move.judgeWrite (a k off v : Nat) (m : Move) : Move × List Ev :=
  if m.set ≠ k ∨ m.kind = .reaction ∨ m.kind = .none ∨ off = 0 ∨ off = 0x28 ∨ m.phase = .stopping then (m, []) else
  let dir : Int := if m.vSet < 0 then -1 else 1
  let q := m.par.withField off v
  let h := 64 * k + off
  let held :=
    if m.phase.braking then heldBraking m.par q off (dir * m.vSet) (dir * m.aSet)
    else if m.phase.ramping then
      heldRunning q (decide (m.speedDir ≠ 0)) ((m.target * q16 - m.pSet).natAbs : Int) (dir * m.vSet) (dir * m.aSet)
    else false
  if held then
    ({ m with held := if m.held.contains h then m.held else h :: m.held },
     [(0x0602, p1 a ++ p1 k ++ p4 (off : Nat) ++ p4 (v : Nat) ++ p4 (m.par.field off : Nat))])
  else if m.phase.ramping then ({ m with par := m.taken q off, held := m.held.erase h, falling := false }, [])
  else ({ m with held := m.held.erase h }, [])

/-- A crossing of the compare position between two positions (R200): direction 1 rising, 2 falling, 0 none. -/
def crossing (cmp p0 p1 : Int) : Nat :=
  if p0 < cmp ∧ cmp ≤ p1 then 1 else if p1 ≤ cmp ∧ cmp < p0 then 2 else 0

/-- Points passed when the compare position repeats (R200): how many, and where it stands then. -/
def passPoints (interval : Nat) (rising : Bool) (cmp p : Int) : Nat × Int :=
  if interval = 0 then (1, cmp) else
  let gap : Int := if rising then p - cmp else cmp - p
  let k := gap.toNat / interval + 1
  (k, if rising then cmp + (k * interval : Nat) else cmp - (k * interval : Nat))

/-- The compare unit of an axis in a tick (R200): the unit, the compare position, events. -/
def Compare.step (rf : RegFile) (a n : Nat) (pos : Int) (c : Compare) : Compare × Int × List Ev :=
  let cmp := signed 32 (rf.MPG_A_CMP_POS_CMP_POS a)
  let x := crossing cmp c.last pos
  let dir := rf.MPG_A_CMP_CFG_DIR a
  if c.armed ∧ x ≠ 0 ∧ (dir = 0 ∨ dir = x) then
    let iv := rf.MPG_A_CMP_INTERVAL_INTERVAL a
    let k := passPoints iv (x == 1) cmp pos
    let cnt := satAdd 16 c.count k.1
    ({ c with fired := true, armed := decide (iv ≠ 0), count := cnt, dtc := 10000 * n, last := pos }, k.2,
     [(0x0603, p1 a ++ p4 pos ++ p1 x ++ p4 (cnt : Nat))])
  else ({ c with last := pos }, cmp, [])

/-- Arming by a write of CMP_POS that is taken (R200, R201); dir: direction of the move that runs, 0 none. -/
def Compare.arm (a : Nat) (cmp pos dir : Int) (c : Compare) : Compare × List Ev :=
  if dir ≠ 0 ∧ (cmp - pos) * dir ≤ 0 then
    ({ c with armed := true, behind := true, last := pos }, [(0x0604, p1 a ++ p4 cmp ++ p4 pos)])
  else ({ c with armed := true, last := pos }, [])

end Sys2Proof.Machine
end

