-- ==== Sys2Proof/Machine/Obstacle.lean ====
section
/-! DEFINITION. The obstacle detector of one leaf (chapter 05): its state, force, armature threshold, criteria, counters. -/

namespace Sys2Proof.Machine

/-- A reaction that runs on a leaf (R151). -/
inductive Reaction where
  | none
  | reverse
  | stop
  /-- braking, then holding with the relaxed current: ticks left once the leaf stands -/
  | relax (left : Nat)
  deriving DecidableEq, Repr, Inhabited

/-- Code of a reaction (R151). -/
def Reaction.code : Reaction → Nat
  | .none => 0 | .reverse => 0 | .stop => 1 | .relax _ => 2

/-- The obstacle detector of one leaf. -/
structure LeafObs where
  stroke  : Bool
  /-- 0 closing, 1 opening: the present or last stroke -/
  dir     : Nat
  disturbed : Bool
  nMap    : Nat
  nAbs    : Nat
  nSpd    : Nat
  react   : Reaction
  /-- direction of the reaction move: 0 closing, 1 opening -/
  reactDir : Nat
  /-- reaction order of this tick's stage 4: cause bits; 0 none -/
  order   : Nat
  /-- order kept while the axis is in the under-voltage hold (R153); 0 none -/
  pending : Nat
  fDir    : Int
  th      : Int
  bin     : Nat
  cause   : Nat
  tripPos : Int
  target  : Int
  tripsC  : Nat
  tripsO  : Nat
  /-- OBS_ARM_CLAMPED has been raised in this stroke -/
  clampSent : Bool
  /-- class of the sensitive edge as stage 1 took it (R144), and the classes captured in the last tick, bit by code (R147) -/
  edge    : Nat
  edges   : Nat
  /-- the running reaction has been turned into a stop (R137) -/
  limited : Bool
  /-- relax force limit, and the direction of the stroke's target it bounds (R151) -/
  relaxOn : Bool
  relaxDir : Int
  /-- acceleration set-points of the words built in the last tick and of those in force in the last window (R133) -/
  aNext   : Int
  aWin    : Int
  /-- ageing tracker writes held back (R139): (armature word index in both directions, word) -/
  heldArm : List (Nat × Nat)
  /-- poisoned words that hold the axis (R382): memory 0 addresses -/
  badWords : List Nat
  /-- cause bits of a trip in this tick; 0 none. A stroke has begun in this tick. -/
  tripNow : Nat
  began   : Bool
  deriving DecidableEq, Repr, Inhabited

/-- A detector after reset. -/
def LeafObs.reset : LeafObs :=
  ⟨false, 0, false, 0, 0, 0, .none, 0, 0, 0, 0, 0, 0, 0, 0, 0, 0, 0, false, 0, 1, false, false, 0, 0, 0, [], [], 0, false⟩

/-- The settings of one direction (closing or opening sub-block). -/
structure ObsDir where
  spdPct : Nat
  nSpd   : Nat
  nAbs   : Nat
  nMap   : Nat
  fAbs   : Nat
  fRelax : Nat
  marginMax : Nat
  marginMin : Nat
  tRelax : Nat
  endZone : Nat
  spdMin : Nat
  edgeEn : Bool
  react  : Nat
  revDist : Nat
  revAcc : Nat
  revSpeed : Nat

/-- The sub-block of a direction: 0 closing, 1 opening. -/
def obsDir (rf : RegFile) (l dir : Nat) : ObsDir :=
  if dir = 0 then
    ⟨rf.OBS_L_CRIT_C_SPD_PCT l, max (rf.OBS_L_CRIT_C_N_SPD l) 1, max (rf.OBS_L_CRIT_C_N_ABS l) 1,
     max (rf.OBS_L_CRIT_C_N_MAP l) 1, rf.OBS_L_FORCE_C_F_ABS l, rf.OBS_L_FORCE_C_F_RELAX l, rf.OBS_L_MARGIN_C_MARGIN_MAX l,
     rf.OBS_L_MARGIN_C_MARGIN_MIN l, rf.OBS_L_ZONE_C_T_RELAX l, rf.OBS_L_ZONE_C_END l, rf.OBS_L_SPDMIN_C_SPD_MIN l,
     decide (rf.OBS_L_REACT_C_EDGE_EN l = 1), rf.OBS_L_REACT_C_REACT l, rf.OBS_L_REVDIST_C_REV_DIST l,
     rf.OBS_L_REVACC_C_REV_ACC l, rf.OBS_L_REVSPD_C_REV_SPEED l⟩
  else
    ⟨rf.OBS_L_CRIT_O_SPD_PCT l, max (rf.OBS_L_CRIT_O_N_SPD l) 1, max (rf.OBS_L_CRIT_O_N_ABS l) 1,
     max (rf.OBS_L_CRIT_O_N_MAP l) 1, rf.OBS_L_FORCE_O_F_ABS l, rf.OBS_L_FORCE_O_F_RELAX l, rf.OBS_L_MARGIN_O_MARGIN_MAX l,
     rf.OBS_L_MARGIN_O_MARGIN_MIN l, rf.OBS_L_ZONE_O_T_RELAX l, rf.OBS_L_ZONE_O_END l, rf.OBS_L_SPDMIN_O_SPD_MIN l,
     decide (rf.OBS_L_REACT_O_EDGE_EN l = 1), rf.OBS_L_REACT_O_REACT l, rf.OBS_L_REVDIST_O_REV_DIST l,
     rf.OBS_L_REVACC_O_REV_ACC l, rf.OBS_L_REVSPD_O_REV_SPEED l⟩

/-- f_est of R133 in 0.1 N, positive toward open. -/
def leafForce (rf : RegFile) (l : Nat) (iq aSet : Int) : Int :=
  let kt : Int := (rf.OBS_L_KT_KT l : Nat)
  let kf : Int := (rf.OBS_L_KF_KF l : Nat)
  let mass : Int := (rf.OBS_L_MASS_MASS l : Nat)
  sat16 (divZ (iq * kt * kf * 10000000 - mass * aSet * 6553600000000) 65536000000000000000)

/-- The current that gives a force: the inverse of R133 at constant speed; none where the constants make no force. -/
def forceCurrent (rf : RegFile) (l f : Nat) : Option Nat :=
  let k := rf.OBS_L_KT_KT l * rf.OBS_L_KF_KF l
  if k = 0 then none else some (f * 6553600000000 / k)

/-- The bin of a position (R135). -/
def armBin (rf : RegFile) (l : Nat) (pos : Int) : Nat :=
  let s : Int := (rf.OBS_L_STROKE_STROKE l : Nat)
  if s = 0 then 0 else (clampI 0 511 (pos * 512 / s)).toNat

/-- The neighbour bin (R135). -/
def armNeighbour (dir bin : Nat) : Nat := if dir = 1 then min (bin + 1) 511 else bin - 1

/-- EXPECT of an armature word (R134). -/
def armExpect (w : Nat) : Int := signed 16 w

/-- MARGIN of an armature word (R134). -/
def armMargin (w : Nat) : Nat := bitsOf w 31 16

/-- Map threshold of R135, and whether a clamp changed a value in use (R138). -/
def armThreshold (x : ObsDir) (wb wn : Nat) : Int × Bool :=
  let mg := armMargin wb
  let m := min (max mg x.marginMin) x.marginMax
  let e := if armExpect wb < armExpect wn then armExpect wn else armExpect wb
  let t := e + (m : Int)
  let fa : Int := (x.fAbs : Nat)
  (if fa < t then fa else t, decide (m ≠ mg) || decide (fa < t))

/-- The end zone of a direction (R149). -/
def inEndZone (rf : RegFile) (l dir : Nat) (x : ObsDir) (pos : Int) : Bool :=
  if dir = 0 then decide (pos ≤ (x.endZone : Int))
  else decide ((rf.OBS_L_STROKE_STROKE l : Int) - (x.endZone : Int) ≤ pos)

/-- The speed criterion of R143. v, vSet: measured and profile speed, positive toward open. -/
def speedMet (rf : RegFile) (l dir : Nat) (x : ObsDir) (pos v vSet : Int) : Bool :=
  let s : Int := if dir = 1 then 1 else -1
  let ps := s * vSet
  let mv := if s * v < 0 then 0 else s * v
  decide (x.spdPct ≠ 0) && decide ((x.spdMin : Int) ≤ ps) && !inEndZone rf l dir x pos &&
    decide (mv * 100 < ps * (100 - (x.spdPct : Int)))

/-- A kind of move that is a stroke, and its direction: 0 closing, 1 opening. -/
def MoveKind.strokeDir : MoveKind → Option Nat
  | .open => some 1 | .reopen => some 1
  | .close => some 0 | .reclose => some 0 | .refclose => some 0
  | .none => Option.none | .reaction => Option.none | .deploy => Option.none | .stow => Option.none | .redeploy => Option.none | .home => Option.none

/-- A stroke runs on the axis (R131): a move the sequencer ordered toward OPEN_POS or zero, until it ends or is stopped. -/
def Move.strokeRuns (m : Move) : Bool := m.kind.strokeDir.isSome && m.phase.moving && m.after.isNone

/-- The start of a stroke clears the counters (R132). -/
def LeafObs.strokeStart (dir : Nat) (o : LeafObs) : LeafObs :=
  { o with stroke := true, dir := dir, nMap := 0, nAbs := 0, nSpd := 0, disturbed := false, clampSent := false,
           react := .none, relaxOn := false, began := true }

/-- What the detector sees of its leaf in stage 4. -/
structure ObsIn where
  leaf  : Nat
  pos   : Int
  v     : Int
  vSet  : Int
  refClose : Bool
  /-- the armature criteria do not apply: a reference close, or REF 0 (R85, R131) -/
  noMap  : Bool
  uvHold : Bool
  /-- armature words of the bin and of its neighbour; none where one is poisoned -/
  words : Option (Nat × Nat)
  /-- a curtain that guards this direction is interrupted; is of unknown quality and not ignored -/
  curtain : Bool
  curtUnknown : Bool

/-- The criteria of one tick: the detector with its counters and bin, the cause bits that trip, events (R131 to R138, R143). TH keeps the
threshold of the last tick in which the map criterion applied: DESIGN CHOICE (log 25). -/
def LeafObs.criteria (rf : RegFile) (x : ObsIn) (o : LeafObs) : LeafObs × Nat × List Ev :=
  let st := obsDir rf x.leaf o.dir
  let bin := armBin rf x.leaf x.pos
  let o : LeafObs := { o with bin := bin }
  let clear := fun (o : LeafObs) => { o with nMap := 0, nAbs := 0, nSpd := 0 }
  if o.react ≠ .none then
    let rd := obsDir rf x.leaf o.reactDir
    let tooHigh := decide ((rd.fAbs : Int) < o.fDir)
    let n := if tooHigh ∧ ¬x.uvHold then o.nAbs + 1 else 0
    ({ o with nMap := 0, nSpd := 0, nAbs := n, disturbed := true }, if rd.nAbs ≤ n ∧ ¬o.limited then 2 else 0, [])
  else if !o.stroke then (clear o, 0, [])
  else
    let w := x.words.getD (0, 0)
    let t := armThreshold st w.1 w.2
    let mapOn := !x.noMap && x.words.isSome
    let mapMet := mapOn && decide (t.1 < o.fDir)
    let absMet := decide ((st.fAbs : Int) < o.fDir)
    let spdMet := !x.refClose && speedMet rf x.leaf o.dir st x.pos x.v x.vSet
    let cnt := fun (met : Bool) (n : Nat) => if met && !x.uvHold then n + 1 else 0
    let nMap := cnt mapMet o.nMap
    let nAbs := cnt absMet o.nAbs
    let nSpd := cnt spdMet o.nSpd
    let edgeOn := decide (rf.OBS_L_EDGE_PRESENT x.leaf = 1) && st.edgeEn &&
      (decide (o.dir = 1) || decide ((rf.OBS_L_EDGE_EDGE_MUTE x.leaf : Int) < x.pos))
    let bits :=
      b2n (decide (st.nMap ≤ nMap)) + 2 * b2n (decide (st.nAbs ≤ nAbs)) + 4 * b2n (decide (st.nSpd ≤ nSpd)) +
      8 * b2n (edgeOn && o.edges.testBit 1) + 16 * b2n (edgeOn && (o.edges.testBit 2 || o.edges.testBit 3)) +
      32 * b2n x.curtain + 64 * b2n x.curtUnknown
    let evs : List Ev :=
      if mapOn && t.2 && !o.clampSent then [(0x0406, p1 x.leaf ++ p1 o.dir ++ p4 (bin : Nat))] else []
    ({ o with nMap := nMap, nAbs := nAbs, nSpd := nSpd, th := if mapOn then t.1 else o.th,
              clampSent := o.clampSent || (mapOn && t.2),
              disturbed := o.disturbed || decide (nMap ≠ 0) || decide (nAbs ≠ 0) || decide (nSpd ≠ 0) }, bits, evs)

/-- A trip is recorded and its order issued (R150): own, the bits of the leaf's own criteria; cause, all bits. -/
def LeafObs.trip (leaf : Nat) (own cause : Nat) (pos target : Int) (o : LeafObs) : LeafObs × List Ev :=
  let counted := own ≠ 0
  ({ o with order := cause, tripNow := cause, cause := cause, tripPos := pos, target := target, disturbed := true,
            tripsC := if counted ∧ o.dir = 0 then satInc 16 o.tripsC else o.tripsC,
            tripsO := if counted ∧ o.dir = 1 then satInc 16 o.tripsO else o.tripsO },
   [(0x0401, p1 leaf ++ p1 o.dir ++ p1 cause ++ p4 pos ++ p2 o.fDir ++ p2 o.th ++ p4 (o.bin : Nat))])

/-- The reaction that an order starts (R151). -/
def LeafObs.startReaction (rf : RegFile) (leaf : Nat) (o : LeafObs) : LeafObs :=
  let st := obsDir rf leaf o.dir
  let r : Reaction := if st.react = 0 then .reverse else if st.react = 1 then .stop else .relax (msTicks st.tRelax)
  { o with react := r, reactDir := if st.react = 0 then 1 - o.dir else o.dir, limited := false,
           stroke := false, disturbed := true }

/-- The profile of a reaction move (R197). -/
def reactionProfile (st : ObsDir) : Profile := ⟨false, 0, 0, 0, st.revSpeed, st.revAcc, st.revAcc, st.revAcc, st.revAcc, 1, 0⟩

/-- The target of a reversal, clamped to 0 to STROKE (R151). -/
def reverseTarget (rf : RegFile) (leaf : Nat) (o : LeafObs) : Int :=
  let st := obsDir rf leaf o.dir
  let d : Int := (st.revDist : Nat)
  clampI 0 (rf.OBS_L_STROKE_STROKE leaf : Int) (if o.dir = 0 then o.tripPos + d else o.tripPos - d)

/-- A move with the reaction put in place of its stroke (R151, R196): the stroke ends "stopped", its target kept in the detector. -/
def Move.react (rf : RegFile) (leaf : Nat) (o : LeafObs) (measured : Int) (m : Move) : Move :=
  let st := obsDir rf leaf o.dir
  let par := reactionProfile st
  let kept := if m.kind.strokeDir.isSome ∧ m.speedDir = 0 ∧ (m.phase.moving ∨ m.kept) then some m.target else none
  let m := if m.phase.moving ∧ m.kind ≠ .none then m.finish 1 else m
  let keep := fun (m : Move) => { m with stroke := kept }
  keep (match o.react with
  | .reverse =>
    let ord : Order := ⟨.reaction, m.set, some (reverseTarget rf leaf o), 0⟩
    if m.phase.moving ∧ m.vSet ≠ 0 then
      if ord.side m.pSet = m.vSet.sign then { (m.fresh.label ord) with par := par, phase := .accel }
      else { (m.fresh.label ord) with par := par, phase := .stopping, after := some ord, uvDecel := st.revAcc }
    else m.startFrom ord par measured
  | .stop | .relax _ =>
    if m.phase.moving ∧ m.vSet ≠ 0 then
      { m.fresh with kind := .reaction, speedDir := 0, par := par, phase := .stopping, uvDecel := st.revAcc, target := o.target }
    else { m.fresh with kind := .reaction, speedDir := 0, par := par, phase := .hold, vSet := 0, aSet := 0, target := o.target,
                        pSet := if m.phase = .follow then measured else m.pSet }
  | .none => m)

/-- The reaction is complete (R151). -/
def LeafObs.reactionDone (leaf : Nat) (pos : Int) (o : LeafObs) : LeafObs × List Ev :=
  match o.react with
  | .none => (o, [])
  | r => ({ o with react := .none }, [(0x0402, p1 leaf ++ p1 r.code ++ p4 pos)])

/-- ARM bit of R145. -/
def edgeArmed (rf : RegFile) (l : Nat) (pos : Int) (o : LeafObs) : Bool :=
  decide (rf.OBS_L_EDGE_PRESENT l = 1) && o.stroke && (obsDir rf l o.dir).edgeEn &&
    (decide (o.dir = 1) || decide ((rf.OBS_L_EDGE_EDGE_MUTE l : Int) < pos))

/-- The leaf's part of R154: no reaction, edge normal or absent. -/
def LeafObs.clear (rf : RegFile) (l : Nat) (o : LeafObs) : Bool :=
  decide (o.react = .none) && (decide (o.edge = 0) || decide (rf.OBS_L_EDGE_PRESENT l = 0))

end Sys2Proof.Machine
end

