-- ==== Sys2Proof/Machine/TypesSeq.lean ====
section
/-! DEFINITION. The state of the portal sequencer (chapter 03): portals, steps, pending commands, banks; and what stage 6 sees. -/

namespace Sys2Proof.Machine

/-- Portal states (R63). -/
inductive PState where
  | isolated | closedLocked | unlocking | opening | opened | closing | obstructed | reopening | held | manual | fault
  deriving DecidableEq, Repr, Inhabited

/-- State code (R63). -/
def PState.code : PState → Nat
  | .isolated => 0 | .closedLocked => 1 | .unlocking => 2 | .opening => 3 | .opened => 4 | .closing => 5
  | .obstructed => 6 | .reopening => 7 | .held => 8 | .manual => 9 | .fault => 10

/-- Step sub-states (R78). -/
inductive SState where
  | stowed | deploying | deployed | stowing
  deriving DecidableEq, Repr, Inhabited

/-- Sub-state code (R78). -/
def SState.code : SState → Nat
  | .stowed => 0 | .deploying => 1 | .deployed => 2 | .stowing => 3

/-- The order that stage 6 gives the two leaves of a portal for stage 7. -/
inductive LeafOrder where
  | none | stop | open | close | reopen | reclose | refclose | resumeOpen
  deriving DecidableEq, Repr, Inhabited

/-- The order that stage 6 gives the step. -/
inductive StepOrder where
  | none | deploy | redeploy | stow
  deriving DecidableEq, Repr, Inhabited

/-- One portal with its step. -/
structure SeqPortal where
  st      : PState
  warning : Bool
  /-- the warning was started by T_DWELL, CLOSE or CREW_CLOSE -/
  warnSoft : Bool
  /-- running state timer as SEQ_P_TIMER_NOW codes it: 0 none, 1 T_UNLOCK, 2 T_OPEN, 3 T_DWELL, 4 T_WARN, 5 T_CLOSE -/
  timer   : Nat
  left    : Nat
  /-- T_LOCK since the leaves came to the closed end: ticks left, plus one; 1 expired, 0 not running -/
  tLock   : Nat
  /-- T_RECLOSE, T_OBS_CLEAR and T_STEP, coded as tLock -/
  tReclose : Nat
  tObs    : Nat
  tStep   : Nat
  /-- ticks for which the lock inputs have disagreed at the closed end -/
  disagree : Nat
  /-- fault causes that stand until CLEAR_FAULT: bit c for code c (R74) -/
  latched : Nat
  cause   : Nat
  attempt : Nat
  ref     : Bool
  holdPending : Bool
  dir     : Nat
  sigOk   : Bool
  /-- signature pulse: ticks since it was commanded, plus one; 0 none -/
  pulse   : Nat
  /-- ticks since the judgement of a pulse out of the window, plus one; 0 no wait -/
  sigWait : Nat
  sigLast : Int
  lockOn  : Bool
  relOn   : Bool
  /-- a lock input has read locked in this closing stroke (R97) -/
  engaged : Bool
  lockA   : Bool
  lockB   : Bool
  step    : SState
  stepRetry : Nat
  stowAgain : Bool
  heldAfter : Bool
  leafOrder : LeafOrder
  stepOrder : StepOrder
  /-- moved in this tick: 0 no, 1 by a trigger of rank 1 to 11, 2 by a command or another rank 12 trigger -/
  moved   : Nat
  /-- state at the end of the last tick -/
  before  : PState
  cycles  : Nat
  /-- a command has been taken for the portal since stage 8 last looked (R183) -/
  taken   : Bool
  /-- stage 6 references the portal in this tick: both leaf positions become zero at its end (R84, R85, R241) -/
  zeroNow : Bool
  deriving DecidableEq, Repr, Inhabited

/-- A portal after reset (R64). -/
def SeqPortal.reset : SeqPortal :=
  ⟨.isolated, false, false, 0, 0, 0, 0, 0, 0, 0, 0, 0, 0, false, false, 0, false, 0, 0, 0, false, false, false, false, false,
   .stowed, 0, false, false, .none, .none, 0, .isolated, 0, false, false⟩

/-- PERMIT (R65). -/
inductive Permit where
  | no | yes | unknown
  deriving DecidableEq, Repr, Inhabited

/-- One bank. -/
structure SeqBank where
  permit  : Permit
  /-- the release stood given when its inputs were last of good quality (R67, R95) -/
  given   : Bool
  /-- a departure close runs -/
  depart  : Bool
  start   : Nat
  owner   : Nat
  suspended : Bool
  late    : Bool
  /-- ms since the close began (R96) -/
  elapsed : Nat
  /-- portals that had changed their state in the close's first tick before it began (R96) -/
  early   : Nat
  deriving DecidableEq, Repr, Inhabited

/-- A bank after reset. -/
def SeqBank.reset : SeqBank := ⟨.unknown, false, false, 0, 0, false, false, 0, 0⟩

/-- A pending OPEN (R93). -/
structure Pend where
  job  : Job
  /-- portals it waits on -/
  mask : Nat
  bank : Nat
  /-- result bits DONE, REFUSED and ISOLATED gathered when it was judged -/
  done : Nat
  refused : Nat
  isolated : Nat
  left : Nat
  /-- issued by a bank to itself (R99) -/
  psd  : Bool
  /-- it counts as from a SAFETY ring (R97, R100) -/
  safety : Bool
  deriving DecidableEq, Repr, Inhabited

/-- The sequencer. -/
structure Seq where
  portals : Vector SeqPortal 8
  banks   : Vector SeqBank 4
  pends   : List Pend
  /-- last good level of the trainline inputs and of the field inputs, and whether there has been one (R67) -/
  tlGood  : Nat
  tlSeen  : Nat
  inGood  : Nat
  inSeen  : Nat
  tlUnknown : Nat
  tlActive : Nat
  deriving DecidableEq, Repr, Inhabited

/-- The sequencer after reset. -/
def Seq.reset : Seq := ⟨Vector.replicate 8 .reset, Vector.replicate 4 .reset, [], 0, 0, 0, 0, 0x3F, 0⟩

/-- How a lock input reads. -/
inductive LockRead where
  | locked | unlocked | unknown
  deriving DecidableEq, Repr, Inhabited

/-- What stage 6 sees beside its own state. -/
structure SeqCtx where
  rf      : RegFile
  tick    : Nat
  armed   : Bool
  permit  : Nat → Permit
  /-- a release input of the bank reads inactive; all read active -/
  relOff  : Nat → Bool
  relOn   : Nat → Bool
  zsOff   : Bool
  emClose : Bool
  emRise  : Bool
  crewRise : Bool
  emRel   : Nat → Bool
  isol    : Nat → Bool
  lockA   : Nat → LockRead
  lockB   : Nat → LockRead
  req     : Nat → Bool
  /-- obstacle reaction order for either leaf: direction of the stroke -/
  order   : Nat → Option Nat
  /-- that order is carried out as a reversal on a leaf (R151) -/
  reverses : Nat → Bool
  reacting : Nat → Bool
  obsClear : Nat → Bool
  atClosed : Nat → Bool
  atOpen  : Nat → Bool
  fbFault : Nat → Bool
  safeHold : Nat → Bool
  uvHold  : Nat → Bool
  /-- the step has reached DEPLOY_POS; 0 -/
  stepOut : Nat → Bool
  stepIn  : Nat → Bool
  stall   : Nat → Bool
  stepPos : Nat → Int
  stepRuns : Nat → Bool
  /-- current of the lock channel over the last tick -/
  sigMa   : Nat → Int
  /-- a tick overrun hold began in the last tick (R77) -/
  ovrNew  : Bool
  /-- timers in use, ms: T_UNLOCK, T_OPEN, T_CLOSE, T_LOCK, T_STEP (R83) -/
  tUnlock : Nat → Nat
  tOpen   : Nat → Nat
  tClose  : Nat → Nat
  tLockMs : Nat → Nat
  tStepMs : Nat → Nat

/-- An event to be posted; to: the one port of a directed event (R357). -/
structure Post where
  code : Nat
  body : List Byte
  dest : Option Nat

end Sys2Proof.Machine
end

