-- ==== Sys2Proof/Machine/Sequencer.lean ====
section
/-! DEFINITION. The portal sequencer (chapter 03): transitions of R73 by the ranks of R71, lock verification, the step engine of
R79, commands, pending commands and departure closes. -/

namespace Sys2Proof.Machine

/-- An event for both ports. -/
def ev (code : Nat) (body : List Byte) : Post := ⟨code, body, none⟩

/-- A portal with the posts gathered so far. -/
structure PSt where
  x : SeqPortal
  evs : List Post

/-- A timer of m ms in the code of SeqPortal.tLock: it expires 20 m ticks on, at least one (R82). -/
def timerTicks (ms : Nat) : Nat := max (20 * ms) 1

/-- Start a state timer (R83). -/
def SeqPortal.start (k ms : Nat) (x : SeqPortal) : SeqPortal := { x with timer := k, left := timerTicks ms }

/-- Enter a portal state (R73, R83): every state timer stops, the change is reported with the rank of its trigger. -/
def PSt.enter (p : Nat) (st : PState) (rank : Nat) (a : PSt) : PSt :=
  let x := a.x
  ⟨{ x with st := st, timer := 0, left := 0, tLock := 0, tReclose := 0, tObs := 0, warning := false, warnSoft := false,
            engaged := false, moved := if rank < 12 then 1 else 2 },
   a.evs ++ (if st = x.st then [] else [ev 0x0201 (p1 p ++ p1 x.st.code ++ p1 st.code ++ p1 rank)])⟩

/-- Change the portal. -/
def PSt.mod (f : SeqPortal → SeqPortal) (a : PSt) : PSt := ⟨f a.x, a.evs⟩

/-- Post an event. -/
def PSt.say (code : Nat) (body : List Byte) (a : PSt) : PSt := ⟨a.x, a.evs ++ [ev code body]⟩

/-- The lowest fault cause among live conditions and latched causes (R74); 0 none. -/
def faultCause (latched live5 live7 live8 : Nat) : Nat :=
  let m := latched ||| (32 * live5) ||| (128 * live7) ||| (256 * live8)
  ((List.range 10).find? (fun c => m.testBit c)).getD 0

/-- The live condition of LOCK_DISAGREE (R74). -/
def SeqPortal.disagrees (c : SeqCtx) (p : Nat) (x : SeqPortal) : Bool := decide (20 * c.tLockMs p < x.disagree)

/-- The cause that stands (R74); 0 none. -/
def SeqPortal.standing (c : SeqCtx) (p : Nat) (x : SeqPortal) : Nat :=
  faultCause x.latched (b2n (x.disagrees c p)) (b2n (c.fbFault p)) (b2n (c.safeHold p))

/-- LOCKED (R68). -/
def SeqPortal.locked (x : SeqPortal) : Bool := x.lockA && x.lockB && x.sigOk

/-- A step state change (R102). -/
def PSt.stepTo (p : Nat) (s : SState) (a : PSt) : PSt :=
  if s = a.x.step then a
  else ⟨{ a.x with step := s }, a.evs ++ [ev 0x0202 (p1 p ++ p1 a.x.step.code ++ p1 s.code)]⟩

/-- STEP_MODE of a portal. -/
def stepMode (c : SeqCtx) (p : Nat) : Nat := c.rf.SEQ_P_CFG_STEP_MODE p

/-- "step ready" (R73). -/
def stepReady (c : SeqCtx) (p : Nat) (x : SeqPortal) : Bool :=
  decide (x.step = .deployed) || decide (stepMode c p = 0) || decide (c.rf.SEQ_P_CFG_STEP_REQUIRED p = 0)

/-- "stowed" (R73). -/
def stowed (c : SeqCtx) (p : Nat) (x : SeqPortal) : Bool := decide (x.step = .stowed) || decide (stepMode c p = 0)

/-- A deploy is ordered (R79, R81). -/
def PSt.deploy (c : SeqCtx) (p : Nat) (a : PSt) : PSt :=
  if stepMode c p = 0 then a else
  match a.x.step with
  | .stowed => (a.stepTo p .deploying).mod fun x => { x with tStep := timerTicks (c.tStepMs p) + 1, stepOrder := .deploy }
  | .stowing => (a.stepTo p .deploying).mod fun x => { x with stepOrder := .redeploy }
  | .deploying | .deployed => a.mod fun x => { x with stowAgain := false }

/-- A stow is ordered (R79, R81). -/
def PSt.stow (c : SeqCtx) (p : Nat) (a : PSt) : PSt :=
  if stepMode c p = 0 then a else
  match a.x.step with
  | .stowed => a
  | .deploying => (a.stepTo p .stowing).mod fun x => { x with stepOrder := .stow }
  | .deployed => (a.stepTo p .stowing).mod fun x => { x with tStep := timerTicks (c.tStepMs p) + 1, stepOrder := .stow }
  | .stowing =>
    if c.stepRuns p then a
    else a.mod fun x => { x with tStep := timerTicks (c.tStepMs p) + 1, stepOrder := .stow }

/-- To ISOLATED or MANUAL: leaf phases at high impedance, lock and release channels off (R73). A signature pulse that runs goes on to its
judgement (R69): DEDUCED (log 23). -/
def PSt.release (p : Nat) (st : PState) (rank : Nat) (a : PSt) : PSt :=
  (a.enter p st rank).mod fun x =>
    { x with lockOn := false, relOn := false, leafOrder := .none, holdPending := false }

/-- To FAULT with a cause (R73, R74). -/
def PSt.toFault (p cause rank : Nat) (a : PSt) : PSt :=
  ((a.enter p .fault rank).mod fun x =>
    { x with lockOn := false, relOn := false, leafOrder := .none, holdPending := false, cause := cause }).say
    0x0203 (p1 p ++ p1 cause)

/-- To HELD, the leaves stopping on their ramps (R73). -/
def PSt.toHeld (p rank : Nat) (a : PSt) : PSt :=
  (a.enter p .held rank).mod fun x => { x with leafOrder := .stop, holdPending := false }

/-- To CLOSING (R73, R480). -/
def PSt.toClosing (c : SeqCtx) (p rank : Nat) (a : PSt) : PSt :=
  let fromObs := a.x.st = .obstructed
  let a := (a.enter p .closing rank).mod fun x =>
    { (x.start 5 (c.tClose p)) with
      lockOn := false, relOn := true, holdPending := false, engaged := x.lockA || x.lockB,
      leafOrder := if x.ref = false then .refclose else if fromObs then .reclose else .close }
  if stepMode c p = 2 then a.stow c p else a

/-- To REOPENING (R73). -/
def PSt.toReopening (c : SeqCtx) (p rank : Nat) (hold : Bool) (a : PSt) : PSt :=
  ((a.enter p .reopening rank).mod fun x =>
    { (x.start 2 (c.tOpen p)) with lockOn := true, relOn := true, pulse := 0, leafOrder := .reopen,
                                   holdPending := hold }).deploy c p

/-- To UNLOCKING (R73). -/
def PSt.toUnlocking (c : SeqCtx) (p rank : Nat) (a : PSt) : PSt :=
  let a := (a.enter p .unlocking rank).mod fun x =>
    { (x.start 1 (c.tUnlock p)) with lockOn := true, relOn := true, pulse := 0 }
  if stepMode c p = 1 then a.deploy c p else a

/-- To OPENING (R73): from UNLOCKING, or resumed from OBSTRUCTED. -/
def PSt.toOpening (c : SeqCtx) (p rank : Nat) (a : PSt) : PSt :=
  let resumed := a.x.st = .obstructed
  let a := (a.enter p .opening rank).mod fun x =>
    { (x.start 2 (c.tOpen p)) with leafOrder := if resumed then .resumeOpen else .open }
  if stepMode c p = 2 then a.deploy c p else a

/-- To OPEN, or HELD where HOLD_PENDING is set (R73). -/
def PSt.toOpen (c : SeqCtx) (p rank : Nat) (a : PSt) : PSt :=
  let hold := a.x.holdPending
  let a := (a.enter p (if hold then .held else .opened) rank).mod fun x =>
    { x with lockOn := false, relOn := false, attempt := 0, holdPending := false }
  let d := c.rf.SEQ_P_TIMER1_T_DWELL p
  if hold ∨ d = 0 then a else a.mod (SeqPortal.start 3 d)

/-- To CLOSED_LOCKED (R73). -/
def PSt.toClosed (p rank : Nat) (a : PSt) : PSt :=
  let cyc := a.x.st = .closing
  (a.enter p .closedLocked rank).mod fun x =>
    { x with relOn := false, attempt := if cyc then 0 else x.attempt,
             cycles := if cyc then (x.cycles + 1) % 4294967296 else x.cycles }

/-- CLOSED_LOCKED if at closed, stowed and LOCKED, else HELD (R73). -/
def PSt.toClosedOrHeld (c : SeqCtx) (p rank : Nat) (a : PSt) : PSt :=
  if c.atClosed p ∧ stowed c p a.x ∧ a.x.locked then a.toClosed p rank
  else (a.enter p .held rank)

/-- WARNING is set and T_WARN starts (R73); soft: by T_DWELL, CLOSE or CREW_CLOSE. -/
def PSt.warn (c : SeqCtx) (p : Nat) (soft : Bool) (a : PSt) : PSt :=
  if a.x.warning then a
  else a.mod fun x => { (x.start 4 (c.rf.SEQ_P_TIMER2_T_WARN p)) with warning := true, warnSoft := soft }

/-- An opening in progress is given up for closing: OPEN_ABORTED with its cause (R73, R102); 0 by CLOSE, not reported. -/
def PSt.abortOpen (c : SeqCtx) (p rank cause : Nat) (a : PSt) : PSt :=
  let a := if cause = 0 then a else a.say 0x0204 (p1 p ++ p1 cause)
  a.toClosing c p rank

/-- A trigger of rank 1 to 11 that keeps the portal's state has been taken: no other transition in this tick (R71). -/
def PSt.took (a : PSt) : PSt := a.mod fun x => { x with moved := 1 }

/-- To OBSTRUCTED (R73, R97): a reversal after the lock has begun to engage energises the lock. -/
def PSt.toObstructed (c : SeqCtx) (p dir : Nat) (a : PSt) : PSt :=
  let engaged := a.x.st = .closing ∧ a.x.engaged ∧ c.reverses p
  (a.enter p .obstructed 5).mod fun x =>
    { x with dir := dir, leafOrder := .none, lockOn := if engaged then true else x.lockOn,
             sigOk := if engaged then false else x.sigOk, pulse := if engaged then 0 else x.pulse }

/-- A portal that moves on a stroke or stands before one: UNLOCKING, OPENING, REOPENING. -/
def PState.openingStroke : PState → Bool
  | .unlocking => true | .opening => true | .reopening => true
  | .isolated => false | .closedLocked => false | .opened => false | .closing => false | .obstructed => false
  | .held => false | .manual => false | .fault => false

/-- T_UNLOCK, T_OPEN or T_CLOSE expires: FAULT with its cause (R73). -/
def PSt.strokeTimeout (p cause : Nat) (a : PSt) : PSt :=
  (a.mod fun x => { x with latched := x.latched ||| 2 ^ cause }).toFault p cause 10

/-- T_UNLOCK expired (R73). -/
def PSt.unlockExpired (p : Nat) (a : PSt) : PSt := if a.x.st = .unlocking then a.strokeTimeout p 1 else a

/-- T_OPEN expired (R73). -/
def PSt.openExpired (p : Nat) (a : PSt) : PSt :=
  if a.x.st = .opening ∨ a.x.st = .reopening then a.strokeTimeout p 2 else a

/-- T_CLOSE expired (R73). -/
def PSt.closeExpired (p : Nat) (a : PSt) : PSt := if a.x.st = .closing then a.strokeTimeout p 3 else a

/-- T_LOCK expired with the leaves at the closed end and LOCKED 0 (R73). -/
def PSt.lockExpired (c : SeqCtx) (p : Nat) (a : PSt) : PSt :=
  if a.x.st = .closing ∧ c.atClosed p ∧ a.x.locked = false then
    let dis := (c.lockA p = .locked ∧ c.lockB p = .unlocked) ∨ (c.lockA p = .unlocked ∧ c.lockB p = .locked)
    a.strokeTimeout p (if dis then 5 else 4)
  else a

/-- T_DWELL expired (R73). -/
def PSt.dwellExpired (c : SeqCtx) (p : Nat) (a : PSt) : PSt :=
  if a.x.st = .opened ∧ ¬a.x.warning then (a.warn c p true).took else a

/-- T_WARN expired (R73). -/
def PSt.warnExpired (c : SeqCtx) (p : Nat) (a : PSt) : PSt :=
  if a.x.st = .opened ∧ a.x.warning then a.toClosing c p 10 else a

/-- The limit of re-attempts is reached (R73). -/
def PSt.recloseLimit (c : SeqCtx) (p : Nat) (permit : Permit) (rank : Nat) (a : PSt) : PSt :=
  let a := a.say 0x0205 (p1 p ++ p4 (a.x.attempt : Nat))
  if c.rf.SEQ_P_CFG_HELD_REOPEN p = 1 ∧ a.x.dir = 0 ∧ permit = .yes then a.toReopening c p rank true
  else a.toHeld p rank

/-- T_RECLOSE expired: the obstacle has been clear for its whole length (R73, R481). -/
def PSt.recloseExpired (c : SeqCtx) (p : Nat) (permit : Permit) (a : PSt) : PSt :=
  if a.x.st = .obstructed ∧ ¬c.reacting p then
    if a.x.attempt < c.rf.SEQ_P_CFG_RECLOSE_MAX p then
      if a.x.dir = 0 then (a.toClosing c p 10).mod fun x => { x with attempt := x.attempt + 1 }
      else if permit = .yes then (a.toOpening c p 10).mod fun x => { x with attempt := x.attempt + 1 }
      else a
    else a
  else a

/-- T_OBS_CLEAR expired with the obstacle not clear (R73, R481). -/
def PSt.obsClearExpired (c : SeqCtx) (p : Nat) (a : PSt) : PSt :=
  if a.x.st = .obstructed ∧ ¬c.reacting p ∧ ¬c.obsClear p then a.toHeld p 10 else a

/-- T_STEP expired (R74): the cause is latched; the portal goes to FAULT at rank 4. -/
def PSt.stepExpired (a : PSt) : PSt :=
  if a.x.step = .deploying ∨ a.x.step = .stowing then a.mod fun x => { x with latched := x.latched ||| 2 ^ 9 } else a

/-- Lock inputs, SIG_OK, disagreement and lost lock of one tick (R68, R74). -/
def PSt.locks (c : SeqCtx) (p : Nat) (a : PSt) : PSt := a.mod fun x =>
  let la := decide (c.lockA p = .locked)
  let lb := decide (c.lockB p = .locked)
  let both := la && lb
  let differ := (la && decide (c.lockB p = .unlocked)) || (lb && decide (c.lockA p = .unlocked))
  let lost := decide (x.st = .closedLocked) && (decide (c.lockA p = .unlocked) || decide (c.lockB p = .unlocked))
  { x with lockA := la, lockB := lb, sigOk := x.sigOk && both, pulse := if both then x.pulse else 0,
           disagree := if differ && c.atClosed p then x.disagree + 1 else 0,
           engaged := x.engaged || (decide (x.st = .closing) && (la || lb)),
           latched := if lost then x.latched ||| 2 ^ 6 else x.latched }

/-- SIG_PULSE in ticks. -/
def sigTicks (c : SeqCtx) (p : Nat) : Nat := max (c.rf.SEQ_P_LOCK_SIG_PULSE p) 1

/-- A signature pulse is judged (R69, R70). -/
def PSt.judgePulse (c : SeqCtx) (p : Nat) (ma : Int) (a : PSt) : PSt :=
  let ok := decide ((c.rf.SEQ_P_LOCKSIG_SIG_MIN p : Int) ≤ ma) && decide (ma ≤ (c.rf.SEQ_P_LOCKSIG_SIG_MAX p : Int))
  let a := a.mod fun x => { x with sigLast := ma, sigOk := ok, pulse := 0, sigWait := if ok then 0 else 1 }
  if ok then a else a.say 0x0208 (p1 p ++ p2 ma)

/-- A signature pulse is commanded where R69 and R70 allow it. -/
def PSt.commandPulse (c : SeqCtx) (p : Nat) (a : PSt) : PSt :=
  let x := a.x
  let wait := if x.st = .closing then 20 else 20000
  let okState := decide (x.st = .closedLocked) || decide (x.st = .closing) || decide (x.st = .held) ||
    decide (x.st = .manual) || decide (x.st = .fault) || decide (x.st = .isolated)
  if x.lockA && x.lockB && !x.sigOk && (c.atClosed p || !x.ref) && decide (x.pulse = 0) && okState && c.armed &&
      (decide (x.sigWait = 0) || decide (wait < x.sigWait)) then
    a.mod fun x => { x with pulse := 1, sigWait := 0 }
  else a

/-- The pulse and its wait advance by one tick; at its end it is judged (R69). -/
def PSt.pulseTick (c : SeqCtx) (p : Nat) (a : PSt) : PSt :=
  let a := a.mod fun x => { x with sigWait := if x.sigWait = 0 then 0 else x.sigWait + 1 }
  if a.x.pulse = 0 then a
  else if a.x.pulse ≤ sigTicks c p then a.mod fun x => { x with pulse := x.pulse + 1 }
  else a.judgePulse c p (if c.rf.SEQ_P_CHMAP_LOCK_CH p = 0xFF then 0 else c.sigMa p)

/-- The reference close meets the lock: both positions become zero (R85). -/
def PSt.refStop (a : PSt) : PSt :=
  if a.x.st = .closing ∧ a.x.ref = false ∧ a.x.lockA ∧ a.x.lockB then
    a.mod fun x => { x with ref := true, zeroNow := true, leafOrder := .none }
  else a

/-- The step has deployed (R79): the portal, and whether it is to go to HELD. -/
def PSt.stepDeployed (c : SeqCtx) (p : Nat) (a : PSt) : PSt × Bool :=
  let a := (a.stepTo p .deployed).mod fun x => { x with tStep := 0 }
  if a.x.stowAgain then ((a.mod fun x => { x with stowAgain := false }).stow c p, false)
  else (a.mod fun x => { x with heldAfter := false }, a.x.heldAfter)

/-- The stall of a step (R79): the portal, and whether it is to go to HELD. -/
def PSt.stepStall (c : SeqCtx) (p : Nat) (a : PSt) : PSt × Bool :=
  match a.x.step with
  | .deploying =>
    let gap := (signed 32 (c.rf.SEQ_P_STEP_POS_DEPLOY_POS p) - c.stepPos p).natAbs
    if gap ≤ c.rf.SEQ_P_STEP_ZONE_CONTACT_ZONE p then a.stepDeployed c p
    else
      (((a.stepTo p .stowing).mod fun x =>
        { x with tStep := timerTicks (c.tStepMs p) + 1, stepOrder := .stow }).say 0x0207 (p1 p ++ p4 (c.stepPos p)),
       decide (c.rf.SEQ_P_CFG_STEP_REQUIRED p = 1))
  | .stowing =>
    if a.x.stepRetry < c.rf.SEQ_P_CFG_STEP_RETRY p then
      (((a.stepTo p .deploying).mod fun x =>
        { x with stepRetry := x.stepRetry + 1, stowAgain := true, stepOrder := .redeploy }).say
        0x0206 (p1 p ++ p4 (a.x.stepRetry + 1 : Nat)), false)
    else ((a.stepTo p .deploying).mod fun x => { x with stepRetry := 0, heldAfter := true, stepOrder := .redeploy }, false)
  | .stowed | .deployed => (a, false)

/-- The step engine of one tick (R79): the portal, and whether a step result is to take it to HELD at rank 9 (R80). -/
def PSt.stepTick (c : SeqCtx) (p : Nat) (a : PSt) : PSt × Bool :=
  if c.stall p then a.stepStall c p
  else match a.x.step with
  | .deploying => if c.stepOut p then a.stepDeployed c p else (a, false)
  | .stowing =>
    if c.stepIn p then ((a.stepTo p .stowed).mod fun x => { x with tStep := 0, stepRetry := 0 }, false) else (a, false)
  | .stowed | .deployed => (a, false)

/-- Ranks 1 to 4 (R71): the higher triggers. -/
def PSt.highRanks (c : SeqCtx) (p : Nat) (a : PSt) : Option PSt :=
  let st := a.x.st
  let en := (c.rf.SEQ_BANK_MAP_PORTAL_EN).testBit p
  let cause := a.x.standing c p
  if !en then (if st = .isolated then none else some (a.release p .isolated 1))
  else if c.emRel p ∧ st ≠ .manual then some (a.release p .manual 2)
  else if c.isol p ∧ st ≠ .manual ∧ st ≠ .isolated then some (a.release p .isolated 3)
  else if cause ≠ 0 ∧ st ≠ .isolated ∧ st ≠ .manual ∧ st ≠ .fault then some (a.toFault p cause 4)
  else none

/-- Ranks 5 to 8 (R71, R73). The close from OPEN without warning raises OPEN_ABORTED like the row it refers to ("as above", R73). -/
def PSt.midRanks (c : SeqCtx) (p : Nat) (permit : Permit) (relOff : Bool) (a : PSt) : Option PSt :=
  let st := a.x.st
  match (if st = .closing ∨ st = .opening ∨ st = .reopening then c.order p else none) with
  | some dir => some (a.toObstructed c p dir)
  | none =>
    if c.zsOff ∧ st.openingStroke then some (a.abortOpen c p 6 2)
    else if c.zsOff ∧ st = .opened then some (a.abortOpen c p 6 2)
    else if c.zsOff ∧ st = .obstructed ∧ a.x.dir = 1 then some (a.mod fun x => { x with dir := 0 }).took
    else if permit = .unknown ∧ (st.openingStroke ∨ (st = .obstructed ∧ a.x.dir = 1)) then
      some ((a.say 0x0204 (p1 p ++ p1 4)).toHeld p 6)
    else if c.emClose ∧ st.openingStroke then some (a.abortOpen c p 7 3)
    else if c.emClose ∧ st = .opened then some (a.abortOpen c p 7 3)
    else if c.emClose ∧ st = .obstructed ∧ a.x.dir = 1 then some (a.mod fun x => { x with dir := 0 }).took
    else if c.emRise ∧ st = .held then some ((a.mod fun x => { x with attempt := 0 }).toClosing c p 7)
    else if relOff ∧ st.openingStroke then some (a.abortOpen c p 8 1)
    else if relOff ∧ st = .opened ∧ ¬a.x.warning then some (a.warn c p false).took
    else if relOff ∧ st = .obstructed ∧ a.x.dir = 1 then some (a.mod fun x => { x with dir := 0 }).took
    else none

/-- A step result takes the portal to HELD: not from HELD, nor out of service (R79, R80). -/
def PState.stepHolds : PState → Bool
  | .isolated => false | .manual => false | .fault => false | .held => false
  | .closedLocked => true | .unlocking => true | .opening => true | .opened => true | .closing => true | .obstructed => true
  | .reopening => true

/-- Rank 9 (R71, R73): step result, end of stroke, lock verified. That the reaction complete at the limit of re-attempts has this rank too is
the model's choice: R71 names no such trigger. DESIGN CHOICE (log 42). -/
def PSt.rank9 (c : SeqCtx) (p : Nat) (permit : Permit) (stepHeld : Bool) (a : PSt) : Option PSt :=
  let st := a.x.st
  if stepHeld ∧ st.stepHolds then some (a.toHeld p 9)
  else if st = .unlocking ∧ c.lockA p = .unlocked ∧ c.lockB p = .unlocked ∧ (stepMode c p ≠ 1 ∨ stepReady c p a.x) ∧
      permit = .yes then some (a.toOpening c p 9)
  else if (st = .opening ∨ st = .reopening) ∧ c.atOpen p ∧ stepReady c p a.x then some (a.toOpen c p 9)
  else if (st = .closing ∨ st = .held) ∧ c.atClosed p ∧ stowed c p a.x ∧ a.x.locked then some (a.toClosed p 9)
  else if st = .obstructed ∧ ¬c.reacting p ∧ c.rf.SEQ_P_CFG_RECLOSE_MAX p ≤ a.x.attempt then
    some (a.recloseLimit c p permit 9)
  else none

/-- Rank 10 (R71): a timer that expired in this tick. -/
def PSt.rank10 (c : SeqCtx) (p : Nat) (permit : Permit) (expired : Nat) (lockX recX obsX : Bool) (a : PSt) : PSt :=
  let b :=
    if expired = 1 then a.unlockExpired p
    else if expired = 2 then a.openExpired p
    else if expired = 5 then a.closeExpired p
    else if expired = 3 then a.dwellExpired c p
    else if expired = 4 then a.warnExpired c p
    else a
  if b.x.moved ≠ a.x.moved then b
  else
    let b := if lockX then b.lockExpired c p else b
    if b.x.moved ≠ a.x.moved then b
    else
      let b := if recX then b.recloseExpired c p permit else b
      if b.x.moved ≠ a.x.moved then b else if obsX then b.obsClearExpired c p else b

/-- A portal in which the transition of the highest-ranked trigger of ranks 1 to 11 has been taken (R71). R71 gives the HELD of a tick
overrun (R77) no rank: it is reported with rank 0, and that it is taken after ranks 1 to 4 and before rank 5 is the model's choice. DESIGN
CHOICE (log 42). -/
def PSt.triggers (c : SeqCtx) (p : Nat) (permit : Permit) (relOff stepHeld : Bool) (expired : Nat) (lockX recX obsX : Bool) (a : PSt) :
    PSt :=
  match a.highRanks c p with
  | some b => b
  | none =>
    if c.ovrNew ∧ (a.x.st.openingStroke ∨ a.x.st = .closing ∨ a.x.st = .obstructed) then a.toHeld p 0 else
    match a.midRanks c p permit relOff with
    | some b => b
    | none => match a.rank9 c p permit stepHeld with
      | some b => b
      | none =>
        let b := a.rank10 c p permit expired lockX recX obsX
        if b.x.moved = 0 ∧ c.crewRise ∧ b.x.st = .held then
          (b.mod fun x => { x with attempt := 0 }).toClosing c p 11
        else b

/-- A coded timer of one tick: its new value, and whether it expires now. -/
def countDown (t : Nat) : Nat × Bool := if t = 0 then (0, false) else if t ≤ 2 then (1, decide (t = 2)) else (t - 1, false)

/-- Whether a coded timer has expired. -/
def isExpired (t : Nat) : Bool := decide (t = 1)

/-- One portal in stage 6, before commands (R68 to R85). -/
def SeqPortal.tick (c : SeqCtx) (p : Nat) (permit : Permit) (relOff : Bool) (x : SeqPortal) : PSt :=
  let x := { x with moved := 0 }
  let a : PSt := (PSt.mk x []).locks c p
  let a := (a.pulseTick c p).refStop
  let x := a.x
  let pause := c.uvHold p
  -- timers (R82, R83): they pause in the under-voltage hold (R76)
  let expired := if ¬pause ∧ x.timer ≠ 0 ∧ x.left ≤ 1 then x.timer else 0
  let left := if pause then x.left else x.left - 1
  let atEnd := decide (x.st = .closing) && c.atClosed p
  let tl := if !atEnd then 0 else if x.tLock = 0 then timerTicks (c.tLockMs p) + 1 else if pause then x.tLock else (countDown x.tLock).1
  let done := decide (x.st = .obstructed) && !c.reacting p
  let tob := if !done then 0 else if x.tObs = 0 then timerTicks (c.rf.SEQ_P_TIMER3_T_OBS_CLEAR p) + 1
    else if pause then x.tObs else (countDown x.tObs).1
  let obsX := done && decide (x.tObs ≠ 0) && !pause && (countDown x.tObs).2
  let tre := if !done || !c.obsClear p then 0 else if x.tReclose = 0 then timerTicks (c.rf.SEQ_P_TIMER2_T_RECLOSE p) + 1
    else if pause then x.tReclose else (countDown x.tReclose).1
  let ts := if pause then (x.tStep, false) else countDown x.tStep
  let cameToEnd := atEnd && decide (x.tLock = 0)
  let a : PSt := a.mod fun x => { x with timer := if expired ≠ 0 then 0 else x.timer, left := left, tLock := tl, tObs := tob,
                                         tReclose := tre, tStep := if ts.1 = 1 then 0 else ts.1 }
  let a := if ts.2 then a.stepExpired else a
  let a := if cameToEnd ∧ stepMode c p = 1 then a.stow c p else a
  let r := a.stepTick c p
  let a := r.1.triggers c p permit relOff r.2 expired (isExpired tl) (isExpired tre) obsX
  (a.mod fun x => { x with cause := x.standing c p }).commandPulse c p

/-- The first complete tick gives a portal its state (R64, R84). -/
def SeqPortal.firstTick (c : SeqCtx) (p : Nat) (x : SeqPortal) : PSt :=
  let a : PSt := (PSt.mk { x with moved := 0 } []).locks c p
  if !(c.rf.SEQ_BANK_MAP_PORTAL_EN).testBit p then a else
  let a := if stepMode c p ≠ 0 then
      (a.stepTo p .stowing).mod fun x => { x with tStep := timerTicks (c.tStepMs p) + 1, stepOrder := .stow }
    else a
  let a := if a.x.lockA ∧ a.x.lockB then a.mod fun x => { x with ref := true, zeroNow := true } else a
  let cause := a.x.standing c p
  if c.emRel p then a.release p .manual 2
  else if c.isol p then a
  else if cause ≠ 0 then a.toFault p cause 4
  else (a.enter p .held 0)

end Sys2Proof.Machine
end

