-- ==== Sys2Proof/Machine/SeqCmd.lean ====
section
/-! DEFINITION. Commands of the sequencer (R86 to R94), departure closes (R95 to R98), platform screen doors (R99 to R101) and
passenger requests (R73). -/

namespace Sys2Proof.Machine

/-- How a portal answers a command (R90). -/
inductive Answer where
  /-- takes it without a state change -/
  | ok
  /-- takes it with the transition of R73 -/
  | change
  | refuse
  | busy
  | pend
  | preempted
  | isolated
  deriving DecidableEq, Repr, Inhabited

/-- A command as the sequencer judges it. -/
structure SeqReq where
  job  : Job
  code : Nat
  /-- it came from a SAFETY ring, or a bank issued it to itself (R100) -/
  safety : Bool
  psd  : Bool

/-- The sequencer with the posts and completions of a stage. -/
structure SeqOut where
  q : Seq
  posts : List Post
  fins : List Finish

/-- The bank of a portal (SEQ_BANK_MAP). -/
def bankOf (rf : RegFile) (p : Nat) : Nat := bitsOf rf.SEQ_BANK_MAP_BANK (2 * p + 1) (2 * p)

/-- A portal is enabled. -/
def portalOn (rf : RegFile) (p : Nat) : Bool := rf.SEQ_BANK_MAP_PORTAL_EN.testBit p

/-- The enabled portals of a bank. -/
def bankMembers (rf : RegFile) (k : Nat) : Nat := maskOf 8 (fun p => portalOn rf p && decide (bankOf rf p = k))

/-- The portals a command names (R86); none where the target is not one a SEQ command may name. -/
def seqTargets (rf : RegFile) (level index : Nat) : Option Nat :=
  if level = 2 ∧ index < 8 then some (2 ^ index)
  else if level = 3 ∧ index < 4 then some (bankMembers rf index)
  else if level = 4 ∧ index = 0 then some (maskOf 8 (portalOn rf))
  else none

/-- The group of a command (R88): 0 MOTION, 1 CREW, 2 SERVICE. -/
def seqGroup (code : Nat) : Nat := if code ≤ 3 then 0 else if code ≤ 5 then 1 else 2

/-- The bits of the parameter word that a command has (R88, R89). -/
def seqParamMask (code : Nat) : Nat :=
  if code = 1 then 0xFFFF0003 else if code = 2 ∨ code = 5 then 6 else 2

/-- The parameter word is well formed for its command and target (R88, R89, R93). -/
def seqParamOk (code level : Nat) (w : Nat) : Bool :=
  decide (andNot w (seqParamMask code) = 0) &&
  !(w.testBit 0 && (decide (bitsOf w 31 16 = 0) || decide (level = 4))) &&
  !(w.testBit 2 && decide (level ≠ 3))

/-- SEQ_AUTH grants the command's group to its port for the portal's bank (R87). -/
def seqAuthorised (rf : RegFile) (r : SeqReq) (p : Nat) : Bool :=
  r.psd ||
  (if r.job.cmd.port = 0 then rf.SEQ_AUTH_PORT_A else rf.SEQ_AUTH_PORT_B).testBit (3 * bankOf rf p + seqGroup r.code)

/-- The pending OPEN that holds a portal's slot (R93). -/
def Seq.slotUsed (q : Seq) (p : Nat) : Bool := q.pends.any (fun d => d.mask.testBit p)

/-- OPEN and REOPEN toward an opening stroke are allowed by permit and emergency close (R90). -/
def mayOpen (c : SeqCtx) (permit : Permit) : Bool := decide (permit = .yes) && !c.emClose

/-- R75 allows CLEAR_FAULT to end what stands until it: no live condition of causes 0x05, 0x07 and 0x08. -/
def SeqPortal.clearable (c : SeqCtx) (p : Nat) (x : SeqPortal) : Bool := !x.disagrees c p && !c.fbFault p && !c.safeHold p

/-- The column of R90 for a state, before the checks that hold for every command. -/
def answerBy (c : SeqCtx) (p : Nat) (permit : Permit) (code : Nat) (pendOn : Bool) (st : PState) (x : SeqPortal) : Answer :=
  let go : Answer := if mayOpen c permit then .change else .refuse
  let goOrPend : Answer :=
    if mayOpen c permit then .change else if pendOn ∧ permit ≠ .yes ∧ ¬c.emClose then .pend else .refuse
  match st with
  | .isolated =>
    if code = 6 then .ok
    else if code = 7 then (if ¬c.isol p ∧ portalOn c.rf p then .change else .refuse)
    else .isolated
  | .manual =>
    if code = 7 ∨ code = 8 then .ok else if code = 9 then (if c.emRel p then .refuse else .change) else .refuse
  | .fault =>
    if code = 6 then .change
    else if code = 7 ∨ code = 9 then .ok
    else if code = 8 then (if x.clearable c p then .change else .refuse)
    else .refuse
  | .closedLocked =>
    if code = 1 then goOrPend
    else if code = 2 ∨ code = 5 then .ok
    else if code = 6 then .change
    else if code = 3 ∨ code = 4 then .refuse
    else .ok
  | .unlocking =>
    if code = 1 ∨ code = 3 then .ok else if code = 2 then .change else if code ≤ 6 then .refuse else .ok
  | .opening =>
    if code = 1 ∨ code = 3 then .ok else if code = 2 ∨ code = 4 then .change else if code ≤ 6 then .refuse else .ok
  | .opened =>
    if code = 4 then .change else if code = 6 then .refuse else .ok
  | .closing =>
    if code = 1 ∨ code = 3 then go else if code = 4 ∨ code = 6 then .refuse else .ok
  | .obstructed =>
    if code = 1 ∨ code = 3 then (if x.dir = 0 then go else .refuse)
    else if code = 4 ∨ code = 5 ∨ code = 6 then .refuse
    else .ok
  | .reopening =>
    if code = 2 ∨ code = 4 then .change else if code = 5 ∨ code = 6 then .refuse else .ok
  | .held =>
    if code = 1 then goOrPend
    else if code = 5 ∨ code = 6 then .change
    else if code = 2 ∨ code = 3 then .refuse
    else .ok

/-- A portal's answer to a command (R72, R87, R90, R93, R94, R97). -/
def Seq.answer (c : SeqCtx) (q : Seq) (r : SeqReq) (p : Nat) : Answer :=
  let x := q.portals.nth p
  let bank := q.banks.nth (bankOf c.rf p)
  let permit := c.permit (bankOf c.rf p)
  let pendOn := r.job.cmd.param.getLsbD 0
  let a := answerBy c p permit r.code pendOn x.st x
  -- an OPEN that would clear a warning which a trigger of this tick has set (R71)
  let undoes := (r.code = 1 ∨ r.code = 3) ∧ x.st = .opened ∧ x.warning ∧ x.warnSoft
  if a = .isolated ∧ ¬(x.moved = 1 ∧ x.before ≠ .isolated) then .isolated
  else if !seqAuthorised c.rf r p then .refuse
  else if (r.code = 1 ∨ r.code = 3) ∧ bank.depart ∧ ¬r.safety then .refuse
  else if x.moved = 1 ∧ (a ≠ .ok ∨ undoes) then
    (if answerBy c p permit r.code pendOn x.before x = .refuse then .refuse else .preempted)
  else if x.moved = 2 ∧ a = .change then .busy
  else if a = .pend ∧ q.slotUsed p then .busy
  else a

/-- A command carried out on one portal (R73, R90). OPEN clears a warning that a falling sync edge started, since the bank's own command of
that edge is a CLOSE (R99): DESIGN CHOICE (log 42). CLEAR_FAULT ends the causes that stand until it wherever it is taken, while R75
allows it: DEDUCED (log 42). -/
def PSt.obey (c : SeqCtx) (p code : Nat) (a : PSt) : PSt :=
  let x := a.x
  match code with
  | 1 | 3 =>
    match x.st with
    | .closedLocked => a.toUnlocking c p 12
    | .closing | .obstructed | .held => a.toReopening c p 12 false
    | .opened =>
      if x.warning ∧ x.warnSoft then
        a.mod fun x =>
          let d := c.rf.SEQ_P_TIMER1_T_DWELL p
          let y : SeqPortal := { x with warning := false, warnSoft := false, timer := 0, left := 0 }
          if d = 0 then y else y.start 3 d
      else a
    | .isolated | .unlocking | .opening | .reopening | .manual | .fault => a
  | 2 =>
    match x.st with
    | .unlocking | .opening | .reopening => a.abortOpen c p 12 0
    | .opened => a.warn c p true
    | .obstructed => a.mod fun x => { x with dir := 0 }
    | .isolated | .closedLocked | .closing | .held | .manual | .fault => a
  | 4 => if x.st = .held then a else a.toHeld p 12
  | 5 =>
    match x.st with
    | .opened => a.warn c p true
    | .held => (a.mod fun x => { x with attempt := 0 }).toClosing c p 12
    | .isolated | .closedLocked | .unlocking | .opening | .closing | .obstructed | .reopening | .manual | .fault => a
  | 6 => if x.st = .isolated then a else a.release p .isolated 12
  | 7 => if x.st = .isolated then a.toClosedOrHeld c p 12 else a
  | 8 =>
    if ¬x.clearable c p then a else
    let a := a.mod fun x => { x with latched := 0, cause := 0 }
    if x.st = .fault then a.toClosedOrHeld c p 12 else a
  | 9 => if x.st = .manual then a.toClosedOrHeld c p 12 else a
  | _ => a

/-- One portal of the sequencer changed, with its events. -/
def SeqOut.portal (p : Nat) (f : PSt → PSt) (o : SeqOut) : SeqOut :=
  let r := f ⟨o.q.portals.nth p, []⟩
  { o with q := { o.q with portals := o.q.portals.put p r.x }, posts := o.posts ++ r.evs }

/-- The members of a mask, ascending. -/
def members (mask : Nat) : List Nat := indices 8 (fun p => mask.testBit p)

/-- Change of one bank. -/
def Seq.bank (k : Nat) (f : SeqBank → SeqBank) (q : Seq) : Seq := { q with banks := q.banks.upd k f }

/-- GUARANTEE_SUSPENDED for guarantee 4 of a bank (R97, R364). -/
def suspend4 (k cause owner : Nat) : Post := ⟨0x0D01, p1 4 ++ p1 k ++ p1 cause, some owner⟩

/-- Suspension of a bank's departure guarantee, once per close (R97). -/
def SeqOut.suspend (k cause : Nat) (o : SeqOut) : SeqOut :=
  let b := o.q.banks.nth k
  if b.depart ∧ ¬b.suspended then
    { o with q := o.q.bank k (fun b => { b with suspended := true }), posts := o.posts ++ [suspend4 k cause b.owner] }
  else o

/-- The portals a departure close waits for: enabled members that are not ISOLATED (R95). -/
def Seq.departing (rf : RegFile) (q : Seq) (k : Nat) : List Nat :=
  (members (bankMembers rf k)).filter (fun p => decide ((q.portals.nth p).st ≠ .isolated))

/-- A departure close begins (R95). -/
def SeqOut.departBegin (c : SeqCtx) (k owner : Nat) (o : SeqOut) : SeqOut :=
  if (o.q.banks.nth k).depart then o else
  let o := { o with q := o.q.bank k (fun b =>
    { b with depart := true, start := c.tick, owner := owner, suspended := false, late := false, elapsed := 0
             early := maskOf 8 (fun p => decide ((o.q.portals.nth p).st ≠ (o.q.portals.nth p).before)) }) }
  if (members (bankMembers c.rf k)).any (fun p =>
      let s := (o.q.portals.nth p).st
      decide (s = .obstructed) || decide (s = .held) || decide (s = .fault) || decide (s = .manual)) then o.suspend k 1
  else o

/-- Result word of R92. -/
def seqResult (pended isolated refused done : Nat) : Nat :=
  16777216 * pended + 65536 * isolated + 256 * refused + done

/-- A command ends: a completion, or PSD_SYNC for a bank's own (R99). edge: 1 rising, 0 falling. -/
def SeqOut.answered (r : SeqReq) (bank edge status result : Nat) (o : SeqOut) : SeqOut :=
  if r.psd then { o with posts := o.posts ++ [ev 0x020A (p1 bank ++ p1 edge ++ p1 status)] }
  else { o with fins := o.fins ++ [⟨r.job, status, result⟩] }

/-- A pending OPEN leaves its slot with a status (R93). -/
def SeqOut.endPend (d : Pend) (status done : Nat) (o : SeqOut) : SeqOut :=
  let o := { o with q := { o.q with pends := o.q.pends.erase d } }
  o.answered ⟨d.job, 1, d.safety, d.psd⟩ d.bank 1 status (seqResult d.mask d.isolated d.refused done)

/-- The portals of a pending OPEN refuse it: it leaves its slot REJECTED (R97). -/
def SeqOut.refusePend (d : Pend) (o : SeqOut) : SeqOut :=
  let o := { o with q := { o.q with pends := o.q.pends.erase d } }
  o.answered ⟨d.job, 1, d.safety, d.psd⟩ d.bank 1 2 (seqResult d.mask d.isolated (d.refused ||| d.mask) d.done)

/-- Pending OPENs that a predicate picks are preempted (R93). -/
def SeqOut.preempt (f : Pend → Bool) (o : SeqOut) : SeqOut :=
  (o.q.pends.filter f).foldl (fun o d => o.endPend d 5 d.done) o

/-- The portals among targets that answer in a way. -/
def Seq.answering (c : SeqCtx) (q : Seq) (r : SeqReq) (targets : Nat) (f : Answer → Bool) : Nat :=
  maskOf 8 (fun p => targets.testBit p && f (q.answer c r p))

/-- A command is carried out on a mask of portals, and what it does beside (R91, R93, R95, R97). -/
def SeqOut.carryOut (c : SeqCtx) (r : SeqReq) (mask : Nat) (o : SeqOut) : SeqOut :=
  let reopens := fun (p : Nat) => decide (r.code = 1 ∨ r.code = 3) && decide (o.q.answer c r p = .change)
  let o := (members mask).foldl (fun o p =>
    let k := bankOf c.rf p
    let o := if reopens p then o.suspend k 3 else o
    o.portal p (PSt.obey c p r.code)) o
  if r.code = 2 ∨ r.code = 5 then o.preempt (fun d => decide (d.mask &&& mask ≠ 0)) else o

/-- Portals for which a command is taken. -/
def SeqOut.take (mask : Nat) (o : SeqOut) : SeqOut :=
  { o with q := { o.q with portals := o.q.portals.mapIdx (fun p x => { x with taken := x.taken || mask.testBit p }) } }

/-- A SEQ command is judged in one tick against all its targets (R86 to R95). edge: of a PSD command. -/
def SeqOut.judge (c : SeqCtx) (r : SeqReq) (edge : Nat) (o : SeqOut) : SeqOut :=
  let cmd := r.job.cmd
  let w := cmd.param.toNat
  let bank := cmd.index
  match seqTargets c.rf cmd.level cmd.index with
  | none => o.answered r bank edge 2 0
  | some targets =>
    if r.code = 0 ∨ 9 < r.code ∨ !seqParamOk r.code cmd.level w then o.answered r bank edge 2 0 else
    if targets = 0 then o.answered r bank edge 2 0 else
    let tally := fun f => o.q.answering c r targets f
    let iso := tally (fun a => a == .isolated)
    let refusing := tally (fun a => a == .refuse)
    let busy := tally (fun a => a == .busy)
    let pre := tally (fun a => a == .preempted)
    let pend := tally (fun a => a == .pend)
    let take := tally (fun a => a == .ok || a == .change)
    let notTaken := refusing + busy + pre
    let skip := w.testBit 1
    if iso = targets then o.answered r bank edge 6 (seqResult 0 iso 0 0)
    else if notTaken ≠ 0 ∧ (¬skip ∨ take + pend = 0) then
      let status := if pre ≠ 0 ∧ (¬skip ∨ refusing = 0) then 5 else if ¬skip ∧ refusing = 0 then 1 else 2
      o.answered r bank edge status (seqResult 0 iso notTaken 0)
    else
      let begins := w.testBit 2 && !(o.q.banks.nth bank).depart
      let o := if w.testBit 2 then o.departBegin c bank cmd.port else o
      let o := (o.carryOut c r take).take (take ||| pend)
      if pend ≠ 0 then
        let limit := if cmd.limit = 0 then 20 * 65536 else r.job.born + 20 * cmd.limit - c.tick
        -- the bank's own OPEN waits from before the pending OPENs of its tick are counted down (R82, R99)
        let left := min (20 * bitsOf w 31 16) limit + b2n r.psd
        let d : Pend := ⟨r.job, pend, bank, take, notTaken, iso, left, r.psd, r.safety⟩
        { o with q := { o.q with pends := o.q.pends ++ [d] } }
      else
        let b := o.q.banks.nth bank
        let status := if w.testBit 2 ∧ b.suspended ∧ (begins ∨ b.owner = cmd.port) then 7 else 0
        o.answered r bank edge status (seqResult 0 iso notTaken take)

/-- A pending OPEN is lost: emergency close, or one of its portals has moved (R93). -/
def SeqOut.pendLost (c : SeqCtx) (o : SeqOut) (d : Pend) : Bool :=
  c.emClose || (members d.mask).any (fun p =>
    let x := o.q.portals.nth p
    decide (x.moved ≠ 0) || decide (x.st ≠ x.before) || !(decide (x.st = .closedLocked) || decide (x.st = .held)))

/-- PERMIT holds for every portal that a pending OPEN waits on (R93). -/
def Pend.permitted (c : SeqCtx) (d : Pend) : Bool := (members d.mask).all (fun p => decide (c.permit (bankOf c.rf p) = .yes))

/-- A pending OPEN is taken (R93). In a departure close, one of a SAFETY ring suspends the guarantee; the portals refuse another, which
completes REJECTED (R97). -/
def SeqOut.pendTake (c : SeqCtx) (d : Pend) (o : SeqOut) : SeqOut :=
  let departs := (members d.mask).any (fun p => (o.q.banks.nth (bankOf c.rf p)).depart)
  if departs ∧ ¬d.safety then o.refusePend d else
  let o := (members d.mask).foldl (fun o p => (o.suspend (bankOf c.rf p) 3).portal p (PSt.obey c p 1)) o
  o.endPend d 0 (d.done ||| d.mask)

/-- A pending OPEN in a tick (R93): preempted, taken, out of time, or waiting. -/
def SeqOut.pendTick (c : SeqCtx) (o : SeqOut) (d : Pend) : SeqOut :=
  if o.pendLost c d then o.endPend d 5 d.done
  else if d.permitted c then o.pendTake c d
  else if d.left ≤ 1 then o.endPend d 4 d.done
  else { o with q := { o.q with pends := o.q.pends.map (fun e => if e = d then { e with left := e.left - 1 } else e) } }

/-- A passenger request of one portal (R73, rank 12). -/
def PSt.request (c : SeqCtx) (p : Nat) (a : PSt) : PSt :=
  let k := bankOf c.rf p
  let permit := c.permit k
  if ¬c.req p ∨ a.x.moved ≠ 0 then a else
  match a.x.st with
  | .closedLocked => if c.rf.SEQ_BANK_CFG_PUSH_TO_OPEN k = 1 ∧ permit = .yes then a.toUnlocking c p 12 else a
  | .closing =>
    if c.rf.SEQ_BANK_CFG_REQ_REOPEN k = 1 ∧ permit = .yes ∧ ¬c.emClose then a.toReopening c p 12 false else a
  | .opened => if c.rf.SEQ_BANK_CFG_REQ_REOPEN k = 1 then a.obey c p 3 else a
  | .isolated | .unlocking | .opening | .obstructed | .reopening | .held | .manual | .fault => a

/-- A bank's own command on an edge of its sync input (R99, R100). -/
def SeqOut.sync (c : SeqCtx) (k : Nat) (rising : Bool) (o : SeqOut) : SeqOut :=
  let owner := c.rf.SEQ_BANK_CFG_DEPART_OWNER k
  let param : Nat :=
    if rising then 65536 * c.rf.SEQ_BANK_TIME_SYNC_WAIT k + 3 else 4 * c.rf.SEQ_BANK_CFG_DEPART_EN k + 2
  let cmd : Cmd := ⟨owner, 0, 3, k, BitVec.ofNat 32 param, 0, 0, 0⟩
  o.judge c ⟨⟨0, c.tick, cmd⟩, if rising then 1 else 2, true, true⟩ (b2n rising)

/-- DEPART_MS passes without a suspension (R96). -/
def SeqBank.departLate (b : SeqBank) : SeqBank := if b.depart ∧ ¬b.suspended then { b with late := true } else b

/-- The end of a departure close (R96). -/
def SeqOut.departEnd (k outcome : Nat) (o : SeqOut) : SeqOut :=
  let e := (o.q.banks.nth k).elapsed
  { o with q := o.q.bank k (fun b => { b with depart := false, suspended := false, late := false }),
           posts := o.posts ++ [ev 0x0209 (p1 k ++ p1 outcome ++ p4 (e : Nat))] }

/-- One tick of a bank's departure close (R96, R97). -/
def SeqOut.departTick (c : SeqCtx) (k : Nat) (o : SeqOut) : SeqOut :=
  let b := o.q.banks.nth k
  if !b.depart then o else
  let ran := c.tick - b.start
  let o := { o with q := o.q.bank k (fun b => { b with elapsed := ran / 20 }) }
  let mem := members (bankMembers c.rf k)
  let entered := fun (f : PState → Bool) => mem.any (fun p =>
    let x := o.q.portals.nth p
    decide (x.st ≠ x.before) && f x.st && !(decide (b.start = c.tick) && b.early.testBit p))
  let o := if entered (fun s => decide (s = .obstructed)) then o.suspend k 2 else o
  let o := if 20 * c.rf.SEQ_BANK_TIME_DEPART_MS k < ran then { o with q := o.q.bank k SeqBank.departLate } else o
  let b := o.q.banks.nth k
  let gone := entered (fun s => decide (s = .opening) || decide (s = .reopening) || decide (s = .held) ||
    decide (s = .fault) || decide (s = .manual))
  if gone then o.departEnd k 3
  else if (o.q.departing c.rf k).all (fun p => decide ((o.q.portals.nth p).st = .closedLocked)) then
    o.departEnd k (if b.late then 1 else if b.suspended then 2 else 0)
  else o

/-- The first three parts of stage 6: portals below n by ranks 1 to 11, then, where the stage runs on, release withdrawal and the banks'
own commands. edges: per bank 1 rising, 2 falling. -/
def Seq.stagePortals (c : SeqCtx) (edges : Nat → Nat) (first : Bool) (n : Nat) (q : Seq) : SeqOut :=
  let o := (List.range (min 8 n)).foldl (fun (o : SeqOut) p =>
    let k := bankOf c.rf p
    o.portal p (fun a => if first then a.x.firstTick c p else a.x.tick c p (c.permit k) (c.relOff k))) ⟨q, [], []⟩
  if n < 8 then o else
  let o := (List.range 4).foldl (fun (o : SeqOut) k =>
    let b := o.q.banks.nth k
    let begins := c.relOff k && b.given && decide (c.rf.SEQ_BANK_CFG_DEPART_EN k = 1) &&
      (members (bankMembers c.rf k)).any (fun p => decide ((o.q.portals.nth p).st ≠ .closedLocked))
    let o := { o with q := o.q.bank k (fun b => { b with permit := c.permit k, given := c.relOn k || (b.given && !c.relOff k) }) }
    if begins then o.departBegin c k (c.rf.SEQ_BANK_CFG_DEPART_OWNER k) else o) o
  (List.range 4).foldl (fun (o : SeqOut) k =>
    if c.rf.SEQ_BANK_CFG_PSD k = 1 ∧ edges k ≠ 0 ∧ ¬first then o.sync c k (edges k == 1) else o) o

/-- The rest of stage 6: pending OPENs, host commands in the order of R94, passenger requests, departure closes. -/
def SeqOut.stageCommands (c : SeqCtx) (reqs : List SeqReq) (o : SeqOut) : SeqOut :=
  let o := o.q.pends.foldl (fun (o : SeqOut) d => if o.q.pends.contains d then o.pendTick c d else o) o
  let o := reqs.foldl (fun o r => o.judge c r 0) o
  let o := (List.range 8).foldl (fun (o : SeqOut) p => o.portal p (PSt.request c p)) o
  (List.range 4).foldl (fun (o : SeqOut) k => o.departTick c k) o

end Sys2Proof.Machine
end

