-- ==== Sys2Proof/Machine/TypesPat.lean ====
section
/-! DEFINITION. The state of the ageing tracker (chapter 10), of the cycle record and captures (chapter 16) and of the CAN
controllers (chapter 13). -/

namespace Sys2Proof.Machine

/-- A scalar trend (R255): samples since its reset, value with 8 fractional bits; samples since the state reset and the alarm reference
that they gave (R257). -/
structure Trend where
  n   : Nat
  v   : Int
  total : Nat
  ref : Option Int
  deriving DecidableEq, Repr, Inhabited

/-- A trend with no sample. -/
def Trend.reset : Trend := ⟨0, 0, 0, none⟩

/-- A quantity with one value (Q4 to Q11, R258, R259). A value in use or a datum that was never moved is the commissioned value of
the register. -/
structure Quant where
  inUse : Option Nat
  datum : Option Nat
  /-- proposed value; 0 none -/
  prop  : Nat
  pending : Bool
  pseq  : Nat
  frozen : Bool
  deriving DecidableEq, Repr, Inhabited

/-- A quantity at a state reset. -/
def Quant.reset : Quant := ⟨none, none, 0, false, 0, false⟩

/-- A bin that the patina has touched: trend and deviation with 8 fractional bits, data, samples (R255, R259). -/
structure PatBin where
  trend : Int
  dev   : Int
  datumE : Int
  datumM : Nat
  n     : Nat
  deriving DecidableEq, Repr, Inhabited

/-- EXPECT or MARGIN of an armature as a quantity (Q0 to Q3): its proposal holds 512 values. -/
structure ArmQ where
  pending : Bool
  pseq  : Nat
  frozen : Bool
  words : List Int
  deriving DecidableEq, Repr, Inhabited

/-- The armature of one leaf and direction as the patina tracks it. -/
structure PatArm where
  /-- touched bins, rising -/
  bins : List (Nat × PatBin)
  expect : ArmQ
  margin : ArmQ
  deriving DecidableEq, Repr, Inhabited

/-- An armature at a state reset. -/
def PatArm.reset : PatArm := ⟨[], ⟨false, 0, false, []⟩, ⟨false, 0, false, []⟩⟩

/-- The patina of one leaf. trends: 0 energy, 1 stroke time, 2 closing friction, 3 opening friction, 4 RWIND, 5 RDSON, 7 contact. -/
structure PatLeaf where
  arm    : Vector PatArm 2
  cush   : Quant
  trends : Vector Trend 8
  rejConsec : Nat
  rejTotal : Nat
  alarm  : Nat
  deriving DecidableEq, Repr, Inhabited

/-- A leaf at a state reset. -/
def PatLeaf.reset : PatLeaf := ⟨Vector.replicate 2 .reset, .reset, Vector.replicate 8 .reset, 0, 0, 0⟩

/-- The patina of one portal. qs: Q5 to Q11. trends: 0 unlock, 1 lock, 2 step current, 3 step time, 4 opening, 5 closing, 6 lock
settle, 7 release settle. -/
structure PatPortal where
  qs     : Vector Quant 7
  trends : Vector Trend 8
  sampled : Nat
  excluded : Nat
  pseq   : Nat
  alarm  : Nat
  deriving DecidableEq, Repr, Inhabited

/-- A portal at a state reset. -/
def PatPortal.reset : PatPortal := ⟨Vector.replicate 7 .reset, Vector.replicate 8 .reset, 0, 0, 0, 0⟩

/-- The saved state of the patina (R265). -/
structure PatState where
  leaves  : Vector PatLeaf 16
  portals : Vector PatPortal 8
  deriving DecidableEq, Repr, Inhabited

/-- A state reset (R259, R265). -/
def PatState.reset : PatState := ⟨Vector.replicate 16 .reset, Vector.replicate 8 .reset⟩

/-- Samples of one stroke (R252). -/
structure Stroke where
  dir    : Nat
  /-- kind OPEN or CLOSE -/
  plain  : Bool
  /-- per bin: sum of f_dir and ticks -/
  bins   : List (Nat × (Int × Nat))
  /-- sum of f_dir × distance, 0.1 N × µm -/
  energy : Int
  start  : Nat
  ms     : Nat
  fricSum : Int
  fricN  : Nat
  contact : Option Int
  /-- none of the conditions of R253 has failed -/
  good   : Bool
  lastPos : Int
  /-- 0 it began outside any cycle; 1 it belongs to the present cycle; 2 its cycle ended while it ran -/
  part   : Nat
  deriving DecidableEq, Repr, Inhabited

/-- What the patina gathers of a leaf until the next cycle end: the running stroke, valid strokes, results of injections (winding and
on-resistance with 8 fractional bits). -/
structure LeafRun where
  stroke : Option Stroke
  done   : List Stroke
  allGood : Bool
  inj    : List (Int × Int)
  deriving DecidableEq, Repr, Inhabited

/-- What the patina gathers of a portal in the present cycle. Ticks. -/
structure PortalRun where
  opened : Bool
  good   : Bool
  unlockAt : Nat
  openingAt : Nat
  closingAt : Nat
  closedAt : Nat
  unlock : Option Nat
  opening : Option Nat
  closing : Option Nat
  lock   : Option Nat
  step   : Nat
  stepAt : Nat
  stepSum : Nat
  stepN  : Nat
  /-- waiting for the settle of the lock and release channel since a tick, plus one; what it gave -/
  lockWait : Nat
  relWait : Nat
  lockSettle : Option Nat
  relSettle : Option Nat
  /-- valid cycles since the last injection, dwell in CLOSED_LOCKED with LOCKED 1, injection wanted: 0 none, 1 the master's at the dwell,
  2 the slave's from a tick on, 3 the slave's at the dwell; the one asked for runs -/
  sinceInj : Nat
  dwell  : Nat
  want   : Nat
  slaveAt : Nat
  asked  : Bool
  /-- CONTACT_DF as the last cycle end took it -/
  contactDf : Nat
  deriving DecidableEq, Repr, Inhabited

/-- No cycle has run. -/
def PortalRun.reset : PortalRun :=
  ⟨false, true, 0, 0, 0, 0, none, none, none, none, 0, 0, 0, 0, 0, 0, none, none, 0, 0, 0, 0, false, 200⟩

/-- The patina section of a configuration bank (R265): identity, state, and the armature words in use of the bins it tracks (leaf,
direction, bin, word); or a section whose CRC fails. -/
structure Section where
  id    : Nat
  crcOk : Bool
  state : PatState
  arms  : List (Nat × Nat × Nat × Nat)
  deriving DecidableEq, Repr, Inhabited

/-- The ageing tracker. -/
structure Pat where
  st      : PatState
  leafRun : Vector LeafRun 16
  portalRun : Vector PortalRun 8
  cycleEnds : Nat
  saveAsked : Bool
  sections : Vector (Option Section) 2
  deriving DecidableEq, Repr, Inhabited

/-- The ageing tracker after reset, the record die's sections given. -/
def Pat.reset : Pat :=
  ⟨.reset, Vector.replicate 16 ⟨none, [], true, []⟩, Vector.replicate 8 .reset, 0, false, Vector.replicate 2 none⟩

/-- A leaf's part of a record (R394). -/
structure LeafCyc where
  peakO : Option Int
  peakC : Option Int
  sumC  : Int
  nC    : Nat
  energy : Int
  oStart : Option Nat
  cStart : Option Nat
  timeO : Option Nat
  timeC : Option Nat
  lastPos : Int
  deriving DecidableEq, Repr, Inhabited

/-- An open cycle (R391, R394). Phase stamps: (tick, NT, NT valid). -/
structure Cycle where
  start   : Nat
  ntStart : Nat
  ntStartOk : Bool
  continued : Bool
  opening : Option (Nat × Nat × Bool)
  openAt  : Option (Nat × Nat × Bool)
  closing : Option (Nat × Nat × Bool)
  leaf    : Vector LeafCyc 2
  tripsO  : Nat
  tripsC  : Nat
  reacts  : Nat
  attempt : Nat
  /-- cause, leaf and direction byte, position, f_dir of the first trip -/
  first   : Option (Nat × Nat × Int × Int)
  unlockAt : Option Nat
  unlockMs : Option Nat
  closedAt : Option Nat
  lockMs  : Option Nat
  sigMa   : Int
  stepStart : Nat
  deployMs : Option Nat
  stowMs  : Option Nat
  stepSum : Nat
  stepN   : Nat
  stepI   : Option Nat
  minMotor : Option Nat
  minLoad : Option Nat
  minField : Option Nat
  maxBridge : Option Int
  maxChan : Option Int
  lswTrips : Nat
  lswMask : Nat
  ce      : Nat
  ue      : Nat
  entered : Nat
  hold    : Bool
  deriving DecidableEq, Repr, Inhabited

/-- A running drain (R401). -/
structure Drain where
  job   : Job
  page  : Nat
  count : Nat
  next  : Nat
  last  : Nat
  copied : Nat
  bad   : Nat
  overrun : Bool
  poison : Bool
  /-- tick in which the last record was copied, plus one; 0 while it copies -/
  doneAt : Nat
  deriving DecidableEq, Repr, Inhabited

/-- A capture unit (R403 to R406). st: 0 idle, 1 armed, 2 triggered, 3 done. -/
structure Capture where
  st      : Nat
  port    : Nat
  portal  : Bool
  target  : Nat
  page    : Nat
  count   : Nat
  slot    : Nat
  /-- samples taken before the trigger; samples still to take; ticks to the next sample -/
  before  : Nat
  left    : Nat
  wait    : Nat
  /-- trigger seen: source plus one; 0 none; its sample has been taken -/
  trig    : Nat
  trigIdx : Nat
  trigDtc : Nat
  /-- NT stamp of the trigger and whether NT was valid (R61); no register shows them -/
  trigNt  : Nat
  trigNtOk : Bool
  valid   : Nat
  outcome : Nat
  deriving DecidableEq, Repr, Inhabited

/-- An idle unit. -/
def Capture.reset : Capture := ⟨0, 0, false, 0, 0, 0, 0, 0, 0, 0, 0, 0, 0, 0, false, 0, 0⟩

/-- The record writer. -/
structure Rec where
  next    : Nat
  commit  : Nat
  headValid : Bool
  headSkip : Bool
  /-- HEAD_SKIP is still owed to the next record -/
  skipOwed : Bool
  damaged : Nat
  cuts    : Nat
  /-- portals whose first record after start-up has been formed -/
  seen    : Nat
  cycles  : Vector (Option Cycle) 8
  /-- sequence numbers in staging, oldest first -/
  staged  : List Nat
  drains  : Vector (Option Drain) 2
  skipped : Vector Nat 2
  lagging : Vector Bool 2
  units   : Vector Capture 4
  /-- upper bits snapped by a read of a LO register (R53): NEXT, COMMIT, OLDEST, FROM of port A, FROM of port B, per port -/
  snaps   : Vector (Vector Nat 5) 2
  deriving DecidableEq, Repr, Inhabited

/-- The record writer after reset, before the search of R399. -/
def Rec.reset : Rec :=
  ⟨0, 0, false, false, false, 0, 0, 0, Vector.replicate 8 none, [], Vector.replicate 2 none, Vector.replicate 2 0,
   Vector.replicate 2 false, Vector.replicate 4 .reset, Vector.replicate 2 (Vector.replicate 5 0)⟩

/-- A frame on the bus that this controller sends (R318, R326). -/
structure CanTx where
  obj   : Nat
  sof   : Nat
  frame : CanFrame
  /-- the object has been loaded anew by a TX_SEND since it started: its request stands after this attempt (R326) -/
  renewed : Bool
  deriving DecidableEq, Repr, Inhabited

/-- One CAN controller. Flag masks by object; counts by object where not zero. -/
structure CanCtl where
  mode    : Nat
  /-- a requested mode waits for bus idle -/
  asked   : Bool
  tec     : Nat
  recv    : Nat
  busOff  : Bool
  offSince : Nat
  lec     : Nat
  alone   : Bool
  recover : Nat
  tdcv    : Nat
  tx      : Option CanTx
  busOffs : Nat
  px      : Nat
  pxTick  : Nat
  unmatched : Nat
  received : Nat
  failed  : Nat
  sent    : Nat
  missed  : Nat
  refs    : Nat
  new     : Nat
  lost    : Nat
  txreq   : Nat
  txfail  : Nat
  poisoned : Nat
  retries : List (Nat × Nat)
  lostCnt : List (Nat × Nat)
  rxSince : List (Nat × Nat)
  /-- happenings of this tick, taken in stage 1 of the next (R331) -/
  happen  : List (Nat × List Byte)
  deriving DecidableEq, Repr, Inhabited

/-- A controller after reset (R314). -/
def CanCtl.reset : CanCtl :=
  ⟨0, false, 0, 0, false, 0, 0, false, 0, 0, none, 0, 0, 0, 0, 0, 0, 0, 0, 0, 0, 0, 0, 0, 0, [], [], [], []⟩

end Sys2Proof.Machine
end

