-- ==== Sys2Proof/Machine/State.lean ====
section
/-! DEFINITION. The state of the HX2480: every register, queue, counter, mode, memory and pin the spec gives it, as plain data; the
faults and refusals; the state after reset. -/

namespace Sys2Proof.Machine

/-- Why a step stops with a fault. -/
inductive Fault where
  /-- A command names an object the chip does not have: a portal above 7, a leaf above 15, a step above 7, a die above 3, a bank above 3,
  an axis above 23, a channel above 47, a field input above 63 or another index outside its kind (R6, R16, R267, R293). Raised by every
  meaning that takes an index. Safe: the hardware has no such command. -/
  | noSuchObject
  deriving DecidableEq, Repr

/-- Why a step refuses a command. -/
inductive Refusal where
  /-- The command has no meaning in the model yet. Raised by Dispatch only. Safe. -/
  | notModelled (mnemonic : String)
  deriving DecidableEq, Repr

/-- One leaf: feedback, obstacle detector, drive. -/
structure Leaf where
  fbk   : LeafFbk
  obs   : LeafObs
  drive : LeafDrive
  deriving DecidableEq, Repr, Inhabited

/-- A leaf after reset. -/
def Leaf.reset : Leaf := ⟨.reset, .reset, .reset⟩

/-- The whole device. -/
structure State where
  /-- commands that wait, first in first out -/
  pending : List Instr
  /-- free values drawn so far (the model's own field, log 4) -/
  freeCount : Nat
  /-- what has left the block, newest first (the model's own record, log 5); no step reads it -/
  out     : List OutMsg
  /-- words of the writable registers of the setup space (R10) -/
  regs    : RegFile
  boot    : Boot
  time    : Time
  cfg     : Cfg
  links   : Links
  seq     : Seq
  ilk     : Ilk
  /-- the switch die and the field die -/
  sw      : SwitchDie
  field   : FieldDie
  /-- what the core die holds of them -/
  lsw     : Lsw
  fio     : Fio
  leaves  : Vector Leaf 16
  encs    : Vector EncFbk 8
  steps   : Vector StepDrive 8
  moves   : Vector Move 24
  dies    : Vector BridgeDie 4
  /-- power scale in 1/1000000 and power of the last window in W (R174) -/
  pwrScale : Nat
  pwrNow  : Nat
  /-- ticks without a power limit, to 20 000 (R174) -/
  pwrQuiet : Nat
  pat     : Pat
  cans    : Vector CanCtl 4
  hif     : Hif
  /-- memory 0, the core SRAM, and memory 1, the record die (R36) -/
  mem0    : MemUnit
  mem1    : MemUnit
  recd    : Rec
  deriving DecidableEq, Repr, Inhabited

/-- An empty memory: memory 0 before its fill, memory 1 with a blank record die (log 3). -/
def Memory.blank : Memory := ⟨false, false, false, []⟩

/-- The device held in device reset, before the first RESET_RELEASE (R431, R437). -/
def State.reset : State :=
  { pending := [], freeCount := 0, out := [], regs := .reset, boot := .reset, time := .reset, cfg := .reset, links := .reset,
    seq := .reset, ilk := .reset, sw := .reset, field := .reset, lsw := .reset, fio := .reset,
    leaves := Vector.replicate 16 .reset, encs := Vector.replicate 8 .reset, steps := Vector.replicate 8 .reset,
    moves := Vector.replicate 24 .reset, dies := Vector.replicate 4 .reset, pwrScale := 1000000, pwrNow := 0, pwrQuiet := 20000, pat := .reset,
    cans := Vector.replicate 4 .reset, hif := .reset, mem0 := .reset .blank, mem1 := .reset .blank, recd := .reset }

end Sys2Proof.Machine
end

