-- ==== Sys2Proof/Machine/Post.lean ====
section
/-! DEFINITION. Posting (R352 to R364): events given to ports, completions, the placing order of stage 11, MSI-X, the guarantees of the
host interface. -/

namespace Sys2Proof.Machine

/-- Entries of a ring (R341). -/
def ringSize (rf : RegFile) (port r : Nat) : Nat := 2 ^ rf.HIF_R_CFG_SIZE (64 * port + r)

/-- Class of a ring: 0 SAFETY, 1 CONTROL, 2 BULK (R340). -/
def ringClass (rf : RegFile) (port r : Nat) : Nat := rf.HIF_R_CFG_CLASS (64 * port + r)

/-- An event ring (R340). -/
def ringIsEvent (rf : RegFile) (port r : Nat) : Bool := decide (rf.HIF_R_CFG_KIND (64 * port + r) = 1)

/-- Change of one port. -/
def Hif.port (p : Nat) (f : Port → Port) (h : Hif) : Hif := { h with ports := h.ports.upd p f }

/-- Change of one ring. -/
def Port.ring (r : Nat) (f : Ring → Ring) (p : Port) : Port := { p with rings := p.rings.upd r f }

/-- A ring of a port. -/
def Hif.ringOf (h : Hif) (port r : Nat) : Ring := (h.ports.nth port).rings.nth r

/-- The event ring of a port that takes the events of a block (R356). -/
def Port.eventRing (rf : RegFile) (port block : Nat) (p : Port) : Option Nat :=
  (List.range 64).find? (fun r =>
    decide ((p.rings.nth r).st = .running) && ringIsEvent rf port r && (rf.HIF_R_EVMASK_BLOCKS (64 * port + r)).testBit block)

/-- An event is given to a port (R356, R358). -/
def Port.give (rf : RegFile) (port tick : Nat) (e : Event) (directed : Bool) (p : Port) : Port :=
  match p.eventRing rf port (e.code / 256) with
  | none => { p with unrouted := satInc 16 p.unrouted }
  | some r =>
    let seq := (p.seq + 1) % 4294967296
    if 1024 ≤ p.queue.length then
      ({ p with seq := seq, lost := satInc 16 p.lost } : Port).ring r (fun x =>
        { x with lostN := satInc 32 x.lostN, lostFirst := if x.lostN = 0 then seq else x.lostFirst })
    else { p with seq := seq, queue := p.queue ++ [⟨e, seq, r, tick, directed⟩] }

/-- An event decided in a tick, for both ports or the one it is directed to (R54, R356, R357). -/
def State.post (e : Post) (s : State) : State :=
  let x : Event := ⟨e.code, 10000 * s.time.tick, e.body⟩
  let give := fun (port : Nat) (h : Hif) => h.port port (Port.give s.regs port s.time.tick x e.dest.isSome)
  { s with hif := match e.dest with
    | some p => give p s.hif
    | none => give 1 (give 0 s.hif) }

/-- Events in their order. -/
def State.posts (l : List Post) (s : State) : State := l.foldl (fun s e => s.post e) s

/-- Events for both ports in their order. -/
def State.says (l : List (Nat × List Byte)) (s : State) : State := l.foldl (fun s e => s.post ⟨e.1, e.2, none⟩) s

/-- The tracker entry of a command is freed. -/
def Hif.free (id : Nat) (h : Hif) : Hif := { h with tracker := if id = 0 then h.tracker else h.tracker.filter (fun t => decide (t.job.id ≠ id)) }

/-- The completion of a command is discarded, for its ring entered ERROR after the fetch (R342). -/
def Hif.orphaned (id : Nat) (h : Hif) : Bool := h.tracker.any (fun t => t.orphan && decide (t.job.id = id))

/-- A command ends: its completion arises (R353), or is discarded (R342). -/
def State.finish (f : Finish) (s : State) : State :=
  if s.hif.orphaned f.job.id then { s with hif := s.hif.free f.job.id } else
  { s with hif := { s.hif with
      tracker := s.hif.tracker.map (fun t => if t.job.id = f.job.id then { t with judged := true } else t)
      compl := s.hif.compl ++ [⟨f.job.cmd.port, f.job.cmd.ring, f.job.cmd.tag, f.result, f.status, s.time.tick, f.job.id⟩] } }

/-- Commands end in their order. -/
def State.finishes (l : List Finish) (s : State) : State := l.foldl (fun s f => s.finish f) s

/-- The device index of a ring moved on by one entry written; PHASE alternates at the wrap (R341). -/
def Ring.wrote (size tick : Nat) (event : Bool) (x : Ring) : Ring :=
  let i := (if event then x.dev else x.cqDev) + 1
  let wrap := decide (size ≤ i)
  let i := if wrap then 0 else i
  { x with dev := if event then i else x.dev, cqDev := if event then x.cqDev else i, phase := x.phase != wrap,
           written := (x.written + 1) % 4294967296, sinceMsg := x.sinceMsg + 1,
           firstAt := if x.sinceMsg = 0 then tick else x.firstAt }

/-- An MSI-X message of a ring's vector, or its pending bit where the vector is masked or the port issues no request (R337, R361). -/
def Port.message (rf : RegFile) (port r : Nat) (p : Port) : Port × List OutMsg :=
  let v := rf.HIF_R_CFG_VECTOR (64 * port + r)
  let p := p.ring r (fun x => { x with sinceMsg := 0 })
  if p.masked.testBit v || !p.bme then ({ p with msixPend := setBit p.msixPend v true }, []) else (p, [.msix port v])

/-- What one entry written brings: the ring's indices, and the message that MOD_COUNT asks for (R361). -/
def Port.wrote (rf : RegFile) (port r tick : Nat) (event : Bool) (p : Port) : Port × List OutMsg :=
  let p := p.ring r (Ring.wrote (ringSize rf port r) tick event)
  if max (rf.HIF_R_MOD_MOD_COUNT (64 * port + r)) 1 ≤ (p.rings.nth r).sinceMsg then p.message rf port r else (p, [])

/-- Entries that the host has not consumed yet. -/
def ringUsed (size dev host : Nat) : Nat := (dev + size - host) % size

/-- Free slots of an event ring. -/
def Ring.eventRoom (size : Nat) (x : Ring) : Nat := size - 1 - ringUsed size x.dev x.host

/-- Free slots of a completion queue. -/
def Ring.complRoom (size : Nat) (x : Ring) : Nat := size - 1 - ringUsed size x.cqDev x.cqHost

/-- The status placed: OK turns into GUARANTEE_SUSPENDED while the guarantee of the ring's class is suspended (R353). -/
def Hif.status (rf : RegFile) (h : Hif) (c : Compl) : Nat :=
  let k := ringClass rf c.port c.ring
  let sus := if k = 0 then h.g3.suspended else if k = 1 then (h.g5.nth c.port).suspended else (h.g6.nth c.port).suspended
  if c.status = 0 ∧ sus then 7 else c.status

/-- What happens to an entry in a placing pass. -/
inductive Placed where
  | placed
  | dropped
  | waits
  deriving DecidableEq, Repr

/-- Whether a completion can be placed now, must be dropped, or waits (R339, R342, R348). A completion without a tracker entry has no
reserved slot. -/
def Hif.complFate (rf : RegFile) (h : Hif) (c : Compl) : Placed :=
  let p := h.ports.nth c.port
  let x := p.rings.nth c.ring
  if x.st = .disabled ∨ x.st = .error ∨ ringIsEvent rf c.port c.ring then .dropped
  else if !p.bme then .waits
  else if x.complRoom (ringSize rf c.port c.ring) = 0 then (if c.id = 0 then .dropped else .waits)
  else .placed

/-- A completion is written (R352). -/
def State.placeCompl (c : Compl) (s : State) : State :=
  let rf := s.regs
  let h := s.hif
  let x := h.ringOf c.port c.ring
  let r := (h.ports.nth c.port).wrote rf c.port c.ring s.time.tick false
  let m : OutMsg := .completion c.port c.ring x.cqDev c.tag c.result s.time.tick (h.status rf c) x.phase
  let h := ((h.port c.port (fun _ => r.1)).free c.id)
  { s with out := r.2.reverse ++ m :: s.out, hif := { h with compl := h.compl.erase c, placed := h.placed + 1 } }

/-- One completion in its turn. -/
def State.tryCompl (s : State) (c : Compl) : State :=
  match s.hif.complFate s.regs c with
  | .dropped => { s with hif := { (s.hif.free c.id) with compl := s.hif.compl.erase c } }
  | .waits => s
  | .placed => if s.hif.placed < 128 then s.placeCompl c else s

/-- An event is written (R354). -/
def State.placeEvent (port : Nat) (q : QEvent) (s : State) : State :=
  let p := s.hif.ports.nth port
  let x := p.rings.nth q.ring
  let r := p.wrote s.regs port q.ring s.time.tick true
  let flags := b2n q.directed + 2 * b2n (decide (q.arose < s.time.tick))
  let m : OutMsg := .event port q.ring x.dev q.ev.code flags q.ev.stamp q.seq q.ev.payload x.phase
  { s with out := r.2.reverse ++ m :: s.out, hif := { (s.hif.port port (fun _ => r.1)) with placed := s.hif.placed + 1 } }

/-- HIF_EVENTS_LOST is placed when posting to a ring resumes after a loss (R358). -/
def State.placeLost (port r : Nat) (s : State) : State :=
  let p := s.hif.ports.nth port
  let x := p.rings.nth r
  if x.lostN = 0 ∨ x.eventRoom (ringSize s.regs port r) = 0 ∨ ¬s.hif.placed < 128 then s else
  let seq := (p.seq + 1) % 4294967296
  let e : QEvent := ⟨⟨0x0D04, 10000 * s.time.tick, p4 (x.lostN : Nat) ++ p4 (x.lostFirst : Nat)⟩, seq, r, s.time.tick, true⟩
  ({ s with hif := s.hif.port port (fun p => ({ p with seq := seq } : Port).ring r (fun x => { x with lostN := 0, lostFirst := 0 })) } :
    State).placeEvent port e

/-- One waiting event in its turn (R339, R358). -/
def State.tryEvent (port : Nat) (s : State) (q : QEvent) : State :=
  let p := s.hif.ports.nth port
  let x := p.rings.nth q.ring
  let drop := fun (s : State) => { s with hif := s.hif.port port (fun p => { p with queue := p.queue.erase q }) }
  if x.st ≠ .running then drop s
  else if !p.bme then s
  else
    let s := s.placeLost port q.ring
    let x := s.hif.ringOf port q.ring
    if 2 ≤ x.eventRoom (ringSize s.regs port q.ring) ∧ s.hif.placed < 128 then drop (s.placeEvent port q) else s

/-- The completions of a class, port A before port B. -/
def State.placeCompls (k : Nat) (s : State) : State :=
  let of' := fun (port : Nat) (s : State) =>
    (s.hif.compl.filter (fun c => decide (c.port = port) && decide (ringClass s.regs c.port c.ring = k))).foldl State.tryCompl s
  of' 1 (of' 0 s)

/-- The events for the rings of a class, port A before port B. -/
def State.placeEvents (k : Nat) (s : State) : State :=
  let of' := fun (port : Nat) (s : State) =>
    ((s.hif.ports.nth port).queue.filter (fun q => decide (ringClass s.regs port q.ring = k))).foldl (State.tryEvent port) s
  of' 1 (of' 0 s)

/-- A draining ring with no command in flight is disabled (R342). -/
def Hif.drained (h : Hif) : Hif :=
  { h with ports := h.ports.mapIdx (fun port p =>
    { p with rings := p.rings.mapIdx (fun r x =>
      if x.st = .draining && !(h.tracker.any (fun t => decide (t.job.cmd.port = port) && decide (t.job.cmd.ring = r))) &&
          !(h.compl.any (fun c => decide (c.port = port) && decide (c.ring = r))) then { x with st := .disabled } else x) }) }

/-- Entries placed in the order of R359, as many as the tick has room for. -/
def State.place (s : State) : State :=
  let s := ((s.placeCompls 0).placeEvents 0 |>.placeCompls 1).placeEvents 1
  let s := (s.placeCompls 2).placeEvents 2
  { s with hif := s.hif.drained }

/-- Events of the memories' engines are handed over; a word of memory 1 that was uncorrectable counts on link 7 (R372). -/
def State.memPost (s : State) : State :=
  let e0 := s.mem0.evs
  let e1 := s.mem1.evs
  let n := (e1.filter (fun e => decide (e.1 = 0x0E01))).length
  let s : State := { s with mem0 := { s.mem0 with evs := [] }, mem1 := { s.mem1 with evs := [] },
                            links := { s.links with l := s.links.l.upd 7 (fun x => { x with errors := satAdd 16 x.errors n }) } }
  s.says (e0 ++ e1)

/-- What a command outside a tick ends with: events handed over, entries placed with the room that is left (log 1). -/
def State.flush (s : State) : State := s.memPost.place

/-- Moderation time of a ring has run out (R361). -/
def State.moderate (port r : Nat) (s : State) : State :=
  let p := s.hif.ports.nth port
  let x := p.rings.nth r
  if x.sinceMsg = 0 ∨ x.st = .disabled ∨ rfMod s.regs port r = 0 then s else
  let m := p.message s.regs port r
  { s with out := m.2.reverse ++ s.out, hif := s.hif.port port (fun _ => m.1) }
where
  /-- MOD_US of a ring. -/
  rfMod (rf : RegFile) (port r : Nat) : Nat := rf.HIF_R_MOD_MOD_US (64 * port + r)

/-- Moderation times at the end of a tick: 50 µs have passed with it. -/
def State.moderateAll (s : State) : State :=
  (List.range 128).foldl (fun (s : State) i =>
    let x := s.hif.ringOf (i / 64) (i % 64)
    if x.sinceMsg ≠ 0 ∧ s.regs.HIF_R_MOD_MOD_US i ≤ 50 * (s.time.tick + 1 - x.firstAt) then s.moderate (i / 64) (i % 64) else s) s

/-- An entry that stage 11 of this tick has left waiting will be placed more than two ticks after it arose (R362). -/
def pastBound (tick arose : Nat) : Bool := decide (arose + 2 ≤ tick)

/-- A guarantee is breached: a suspension begins (R364). g: 3, 5 or 6. -/
def Guarantee.breach (port g cause tick : Nat) (x : Guarantee) : Guarantee × List Post :=
  if x.suspended then ({ x with met := 0 }, [])
  else (⟨true, tick, 0⟩, [⟨0x0D01, p1 g ++ p1 0xFF ++ p1 cause, some port⟩])

/-- A suspension ends (R364). -/
def Guarantee.restore (port g tick : Nat) (x : Guarantee) : Guarantee × List Post :=
  if x.suspended then (⟨false, 0, 0⟩, [⟨0x0D02, p1 g ++ p1 0xFF ++ p4 ((tick - x.since : Nat) : Int), some port⟩]) else (x, [])

/-- A tick of a guarantee: cause of a breach in it, 0 none. -/
def Guarantee.tick (port g cause tick : Nat) (x : Guarantee) : Guarantee × List Post :=
  if cause ≠ 0 then x.breach port g cause tick
  else if x.suspended then
    (if 20000 ≤ x.met + 1 then x.restore port g tick else ({ x with met := x.met + 1 }, []))
  else (x, [])

/-- The conditions of guarantee 5 that the block can see: the port runs and holds fewer than 112 entries. -/
def Hif.g5Holds (h : Hif) (port : Nat) : Bool :=
  (h.ports.nth port).bme && decide ((h.tracker.filter (fun t => !t.reserved && decide (t.job.cmd.port = port))).length < 112)

/-- The cause that breaches guarantee 3 after the placing of a tick (R362, R363), where its conditions hold: at most 32 SAFETY commands in
flight, at most 96 SAFETY entries that arose in the tick, room in the rings; 0 none. -/
def State.breach3 (s : State) : Nat :=
  let port := s.regs.HIF_CFG_SAFETY_PORT
  let compls := s.hif.compl.filter (fun c => decide (c.port = port) && decide (ringClass s.regs c.port c.ring = 0))
  let evs := (s.hif.ports.nth port).queue.filter (fun q => decide (ringClass s.regs port q.ring = 0))
  let waits := compls.any (fun c => decide (s.hif.complFate s.regs c = .placed)) ||
    evs.any (fun q => decide (2 ≤ (s.hif.ringOf port q.ring).eventRoom (ringSize s.regs port q.ring)))
  let few := decide ((s.hif.tracker.filter (fun t => decide (ringClass s.regs t.job.cmd.port t.job.cmd.ring = 0))).length ≤ 32) &&
    decide ((compls.filter (fun c => decide (c.arose = s.time.tick))).length +
      (evs.filter (fun q => decide (q.arose = s.time.tick))).length ≤ 96)
  if s.hif.slotOver && waits && few && (s.hif.ports.nth port).bme then 6 else 0

/-- The cause that breaches guarantee 5 of a port; 0 none. -/
def State.breach5 (port : Nat) (s : State) : Nat :=
  let late := s.hif.compl.any (fun c => decide (c.port = port) && decide (ringClass s.regs c.port c.ring = 1) &&
      pastBound s.time.tick c.arose && decide (s.hif.complFate s.regs c = .placed)) ||
    (s.hif.ports.nth port).queue.any (fun q => decide (ringClass s.regs port q.ring = 1) && pastBound s.time.tick q.arose &&
      decide (2 ≤ (s.hif.ringOf port q.ring).eventRoom (ringSize s.regs port q.ring)))
  if late && s.hif.g5Holds port then (if s.hif.slotOver then 6 else 4) else 0

/-- A PAGE_IN or PAGE_OUT from a BULK ring waits on a port (R362). -/
def State.bulkWaits (port : Nat) (s : State) : Bool :=
  s.hif.pages.any (fun r => decide (r.job.cmd.port = port) && decide (ringClass s.regs port r.job.cmd.ring = 2) && decide (r.doneAt = 0))

/-- Conditions of guarantee 6 that the block can see (R362). -/
def Port.g6Holds (p : Port) : Bool := decide (2 ≤ p.speed) && decide (p.width = 2) && decide (256 ≤ p.mps)

/-- One tick of a port's BULK window of 100 ms (R362, R363): the host interface, the cause of a breach, 0 none. -/
def State.bulkTick (port : Nat) (s : State) : Hif × Nat :=
  let h := s.hif
  let put := fun (b t : Nat) (held : Bool) =>
    { h with bulkBytes := h.bulkBytes.put port b, bulkTicks := h.bulkTicks.put port t, bulkHeld := h.bulkHeld.put port held }
  if !s.bulkWaits port then (put 0 0 false, 0) else
  let held := h.bulkHeld.nth port || h.slotOver
  let t := h.bulkTicks.nth port + 1
  if t < 2000 then (put (h.bulkBytes.nth port) t held, 0) else
  (put 0 0 false, if held && (h.ports.nth port).g6Holds && decide (h.bulkBytes.nth port < 25000000)
    then (if h.slotOver then 6 else 5) else 0)

/-- The guarantees after the placing of a tick (R362 to R364); entries that wait beyond 128 are counted (R359). -/
def State.guarantees (s : State) : State :=
  let full := decide (128 ≤ s.hif.placed)
  let s : State := if full then
    { s with hif := { s.hif with ports := s.hif.ports.mapIdx (fun port p =>
      { p with deferred := satAdd 16 p.deferred (if p.bme then
        (s.hif.compl.filter (fun c => decide (c.port = port) && decide (s.hif.complFate s.regs c = .placed))).length +
        (p.queue.filter (fun q => decide (2 ≤ (p.rings.nth q.ring).eventRoom (ringSize s.regs port q.ring)))).length else 0) }) } }
    else s
  let safety := s.regs.HIF_CFG_SAFETY_PORT
  let a := s.hif.g3.tick safety 3 s.breach3 s.time.tick
  let b0 := (s.hif.g5.nth 0).tick 0 5 (s.breach5 0) s.time.tick
  let b1 := (s.hif.g5.nth 1).tick 1 5 (s.breach5 1) s.time.tick
  let w0 := s.bulkTick 0
  let s := { s with hif := w0.1 }
  let w1 := s.bulkTick 1
  let s := { s with hif := w1.1 }
  let c0 := (s.hif.g6.nth 0).tick 0 6 w0.2 s.time.tick
  let c1 := (s.hif.g6.nth 1).tick 1 6 w1.2 s.time.tick
  let s : State := { s with hif := { s.hif with g3 := a.1, g5 := (s.hif.g5.put 0 b0.1).put 1 b1.1, g6 := (s.hif.g6.put 0 c0.1).put 1 c1.1 } }
  s.posts (a.2 ++ b0.2 ++ b1.2 ++ c0.2 ++ c1.2)

end Sys2Proof.Machine
end

