-- ==== Sys2Proof/Machine/Hif.lean ====
section
/-! DEFINITION. The host interface (chapter 14): rings, jets, descriptor fetch, the command tracker, port resets, configuration
requests, cistern pages and the HIF commands. -/

namespace Sys2Proof.Machine

/-- PCIE_A_EN and PCIE_B_EN (R454). -/
def portEnabled (straps port : Nat) : Bool := straps.testBit (5 + port)

/-- The core runs and the configuration is committed (R438). -/
def State.up (s : State) : Bool := s.cfg.committed

/-- Requests of a port reach the block: its link is up and its strap enables it (R454). -/
def State.portLive (port : Nat) (s : State) : Bool :=
  decide (port < 2) && (s.hif.ports.nth port).linkUp && portEnabled s.boot.straps port

/-- A ring enters ERROR (R342): the completions of its commands in flight will be discarded. -/
def State.ringError (port r cause : Nat) (s : State) : State :=
  let h := s.hif.port port (fun p => p.ring r (fun x => { x with st := .error, errCause := cause, asked := 0 }))
  let mine := fun (t : Tracked) => decide (t.job.cmd.port = port) && decide (t.job.cmd.ring = r)
  let s : State := { s with hif := { h with tracker := h.tracker.map (fun t => if mine t then { t with orphan := true } else t) } }
  s.post ⟨0x0D03, p1 r ++ p1 cause, some port⟩

/-- A jet that is ignored (R344). -/
def State.jetIgnored (port : Nat) (s : State) : State :=
  { s with hif := s.hif.port port (fun p => { p with jetsIgnored := satInc 16 p.jetsIgnored }) }

/-- A consumer index passes the producer's (R344): it lies outside old consumer to producer. -/
def passes (size old new producer : Nat) : Bool := decide (ringUsed size producer old < ringUsed size new old)

/-- JET_TAIL of a ring (R343, R344). -/
def State.jetTail (port r : Nat) (value : Word) (s : State) : State :=
  if !s.up ∨ !s.portLive port then s else
  let x := s.hif.ringOf port r
  if x.st ≠ .running then s.jetIgnored port else
  let size := ringSize s.regs port r
  let v := value.toNat
  if size ≤ v then s.ringError port r 1 else
  if ringIsEvent s.regs port r then
    if passes size x.host v x.dev then s.ringError port r 5
    else { s with hif := s.hif.port port (fun p => p.ring r (fun x => { x with host := v })) }
  else { s with hif := s.hif.port port (fun p => p.ring r (fun x => { x with host := v })) }

/-- JET_CQ of a ring (R343, R344). -/
def State.jetCq (port r : Nat) (value : Word) (s : State) : State :=
  if !s.up ∨ !s.portLive port then s else
  let x := s.hif.ringOf port r
  if x.st ≠ .running then s.jetIgnored port
  else if ringIsEvent s.regs port r then s
  else
    let size := ringSize s.regs port r
    let v := value.toNat
    if size ≤ v then s.ringError port r 1
    else if passes size x.cqHost v x.cqDev then s.ringError port r 5
    else { s with hif := s.hif.port port (fun p => p.ring r (fun x => { x with cqHost := v })) }

/-- HIF_R_CTRL.ENABLE (R342). -/
def State.ringEnable (port r : Nat) (s : State) : State :=
  if !s.up then s else
  { s with hif := s.hif.port port (fun p => p.ring r (fun x =>
    if x.st = .disabled then { Ring.reset with st := .running } else x)) }

/-- HIF_R_CTRL.DISABLE (R342). -/
def State.ringDisable (port r : Nat) (s : State) : State :=
  let ev := ringIsEvent s.regs port r
  let s : State := { s with hif := s.hif.port port (fun p => p.ring r (fun x =>
    match x.st with
    | .running => { x with st := if ev then .disabled else .draining, asked := 0 }
    | .error => { x with st := .disabled, asked := 0 }
    | .disabled | .draining => x)) }
  { s with hif := s.hif.drained }

/-- Tracker entries of a port outside the reserve, and reserved entries in use (R349). -/
def Hif.shared (h : Hif) (port : Nat) : Nat := (h.tracker.filter (fun t => !t.reserved && decide (t.job.cmd.port = port))).length

/-- Reserved entries in use (R349). -/
def Hif.reserved (h : Hif) : Nat := (h.tracker.filter (fun t => t.reserved)).length

/-- The rings of a port with an open fetch read. -/
def Hif.fetching (h : Hif) (port : Nat) : List Ring := ((h.ports.nth port).rings.toList).filter (fun x => decide (x.asked ≠ 0))

/-- Reserved tracker entries held ready for open fetches of both ports (R349). -/
def Hif.bookedRes (h : Hif) : Nat := (h.fetching 0 ++ h.fetching 1).foldl (fun n x => n + x.askedRes) 0

/-- Other tracker entries of a port held ready for its open fetches (R349). -/
def Hif.booked (h : Hif) (port : Nat) : Nat := (h.fetching port).foldl (fun n x => n + (x.asked - x.askedRes)) 0

/-- Reserved entries a ring may still take (R349). -/
def Hif.resRoom (rf : RegFile) (h : Hif) (port r : Nat) : Nat := if ringClass rf port r = 0 then 32 - (h.reserved + h.bookedRes) else 0

/-- Tracker entries a ring may still take beside those that open fetches will take (R5, R349). -/
def Hif.trackerRoom (rf : RegFile) (h : Hif) (port r : Nat) : Nat := (112 - (h.shared port + h.booked port)) + h.resRoom rf port r

/-- Commands of a ring in flight: fetched, their completion not written. -/
def Hif.inFlight (h : Hif) (port r : Nat) : Nat :=
  (h.tracker.filter (fun t => decide (t.job.cmd.port = port) && decide (t.job.cmd.ring = r))).length

/-- Completion slots of a ring that commands in flight hold (R348). -/
def Hif.slotsHeld (h : Hif) (port r : Nat) : Nat :=
  (h.tracker.filter (fun t => !t.orphan && decide (t.job.cmd.port = port) && decide (t.job.cmd.ring = r))).length

/-- Descriptors that one read may carry from the place a ring stands at: eight (R350), the port's max read request, up to the next
4 KiB boundary (R337), up to the ring's end. -/
def readSpan (rf : RegFile) (p : Port) (port r dev : Nat) : Nat :=
  let room := (4096 - (rf.HIF_R_BASE_LO_ADDR (64 * port + r) + 32 * dev) % 4096) / 32
  min (min 8 (p.mrrs / 32)) (min room (ringSize rf port r - dev))

/-- Read tags of a port (R334, R350). -/
def Hif.tags (h : Hif) (port : Nat) : Nat := if (h.ports.nth port).extTag then 64 else 32

/-- Outstanding fetch reads of a port. -/
def Hif.fetchReads (h : Hif) (port : Nat) : Nat := (h.fetching port).length

/-- Outstanding PAGE_IN reads of a port: at most 40, or 16 with 5-bit tags, never into the eight tags kept for SAFETY fetches nor into
those that fetches hold (R5, R350); of at most MRRS bytes each (R337). -/
def Hif.pageReads (h : Hif) (port : Nat) : Nat :=
  let p := h.ports.nth port
  let left := h.pages.foldl (fun n r => if r.isIn ∧ r.job.cmd.port = port ∧ r.doneAt = 0 then
    n + ((r.count - r.moved) * 4096 - r.got + p.mrrs - 1) / max p.mrrs 1 else n) 0
  min left (min (if p.extTag then 40 else 16) (h.tags port - max 8 (h.fetchReads port)))

/-- A read tag is free for a fetch from a ring: eight are kept for SAFETY rings (R350). -/
def Hif.tagFree (rf : RegFile) (h : Hif) (port r : Nat) : Bool :=
  let all := h.tags port
  let used := h.pageReads port + h.fetchReads port
  if ringClass rf port r = 0 then decide (used < all) else decide (used < all - 8)

/-- How many descriptors a fetch from a ring may carry now (R337, R348, R350); 0 where none is allowed. -/
def Hif.fetchCount (rf : RegFile) (h : Hif) (port r : Nat) : Nat :=
  let p := h.ports.nth port
  let x := p.rings.nth r
  let size := ringSize rf port r
  if x.st ≠ .running ∨ ringIsEvent rf port r ∨ !p.bme ∨ x.asked ≠ 0 ∨ !h.tagFree rf port r then 0 else
  min (min (readSpan rf p port r x.dev) (ringUsed size x.host x.dev)) (min (h.trackerRoom rf port r) (x.complRoom size - h.slotsHeld port r))

/-- The ring whose turn it is: SAFETY before CONTROL before BULK, rings of a class in turn (R350). -/
def Hif.turn (rf : RegFile) (h : Hif) (port : Nat) : Option Nat :=
  let ok := fun (k r : Nat) => decide (ringClass rf port r = k) && decide (h.fetchCount rf port r ≠ 0)
  let pick := fun (k : Nat) =>
    let last := (h.ports.nth port).served.nth k
    ((List.range 64).map (fun i => (last + 1 + i) % 64)).find? (ok k)
  match pick 0 with
  | some r => some r
  | none => match pick 1 with
    | some r => some r
    | none => pick 2

/-- A descriptor fetch read is issued from a ring whose turn it is (R348, R350). A CONTROL ring that finds no tag holds up BULK reads
(R363). -/
def State.fetch (port r : Nat) (s : State) : State :=
  let h := s.hif
  if !s.portLive port ∨ !s.up then s
  else if h.turn s.regs port = some r then
    let n := h.fetchCount s.regs port r
    let x := h.ringOf port r
    let k := ringClass s.regs port r
    { s with out := .fetchRead port r x.dev n :: s.out,
             hif := h.port port (fun p =>
               { (p.ring r (fun x => { x with asked := n, askedRes := min n (h.resRoom s.regs port r) })) with served := p.served.put k r }) }
  else if ringClass s.regs port r = 1 ∧ (h.ringOf port r).st = .running ∧ !h.tagFree s.regs port r then
    { s with hif := { h with bulkHeld := h.bulkHeld.put port true } }
  else s

/-- Blocks that accept commands (R346). -/
def blockTakes (b : Nat) : Bool :=
  decide (b = 2) || decide (b = 4) || decide (b = 7) || (decide (9 ≤ b) && decide (b ≤ 16))

/-- A descriptor as its eight words give it (R345). -/
def descCmd (port r : Nat) (d : List Word) : Cmd :=
  let w0 := (d.nth 0).toNat
  ⟨port, r, bitsOf w0 18 16, bitsOf w0 31 24, d.nth 1, (d.nth 2).toNat + 4294967296 * (d.nth 3).toNat, d.nth 4,
   (d.nth 5).toNat % 65536⟩

/-- BLOCK and CODE of a descriptor (R345). -/
def descBlock (d : List Word) : Nat := (d.nth 0).toNat % 256
/-- CODE of a descriptor (R345). -/
def descCode (d : List Word) : Nat := bitsOf (d.nth 0).toNat 15 8

/-- The checks of R346. -/
def descOk (d : List Word) : Bool :=
  let w0 := (d.nth 0).toNat
  let uses := decide (descBlock d = 13) && (decide (descCode d = 5) || decide (descCode d = 6))
  decide (bitsOf w0 23 19 = 0) && decide (bitsOf w0 18 16 ≤ 4) && blockTakes (descBlock d) &&
    decide (bitsOf (d.nth 5).toNat 31 16 = 0) && decide (d.nth 6 = 0) && decide (d.nth 7 = 0) &&
    (uses || (decide (d.nth 2 = 0) && decide (d.nth 3 = 0)))

/-- First word of a command's tracker entry in memory 0 (R37): its place by its number is the model's (log 12). -/
def trackerWord (id : Nat) : Nat := 0x84400 + 8 * (id % 256)

/-- A fetched descriptor enters the tracker (R345 to R349): in a reserved entry where one is neither in use nor held ready for another
fetch. -/
def State.track (port r : Nat) (s : State) (d : List Word) : State :=
  let h := s.hif
  let id := h.nextId
  let res := decide (ringClass s.regs port r = 0) && decide (h.reserved + h.bookedRes < 32)
  let t : Tracked := ⟨⟨id, s.time.tick, descCmd port r d⟩, descBlock d, descCode d, res, !descOk d, false, false, false⟩
  let tr := h.tracker ++ [t]
  let ws := (List.range 4).map (fun i => (BitVec.ofNat 64 ((d.nth (2 * i)).toNat + 4294967296 * (d.nth (2 * i + 1)).toNat), false))
  { s with
    mem0 := s.mem0.writeWords 0 14 (trackerWord id) ws
    hif := { (h.port port (fun p => p.ring r (fun x => { x with dev := (x.dev + 1) % ringSize s.regs port r }))) with
      tracker := tr, nextId := id + 1, hwm := max h.hwm tr.length } }

/-- A fetch read completes (R346, R348, R362). -/
def State.fetched (port r : Nat) (descs : List (List Word)) (failed : Bool) (us : Nat) (s : State) : State :=
  let x := s.hif.ringOf port r
  if x.asked = 0 ∨ x.st ≠ .running then s else
  let late := decide (8 < us)
  let tell := late && (decide (x.lateAt = 0) || decide (x.lateAt + 20000 ≤ s.time.tick + 1))
  let s : State := if late then
      { s with hif := s.hif.port port (fun p => { (p.ring r (fun x => if tell then { x with lateAt := s.time.tick + 1 } else x)) with
          lateFetch := satInc 16 p.lateFetch }) }
    else s
  let s := if tell then s.post ⟨0x0D08, p1 r ++ p4 (us : Nat), some port⟩ else s
  if failed then s.ringError port r 2 else
  let s : State := { s with hif := s.hif.port port (fun p => p.ring r (fun x => { x with asked := 0 })) }
  (descs.take x.asked).foldl (State.track port r) s

/-- Commands in the order of R94: SAFETY rings, port A, port B, each in the order the tracker received them. -/
def orderJobs (rf : RegFile) (l : List Tracked) : List Tracked :=
  let saf := fun (t : Tracked) => decide (ringClass rf t.job.cmd.port t.job.cmd.ring = 0)
  l.filter saf ++ l.filter (fun t => !saf t && decide (t.job.cmd.port = 0)) ++ l.filter (fun t => !saf t && decide (t.job.cmd.port ≠ 0))

/-- Owner of a page: 0 DEVICE, 1 HOST_A, 2 HOST_B (R365). -/
def Hif.owner (h : Hif) (k : Nat) : Nat := if h.ownA.testBit k then 1 else if h.ownB.testBit k then 2 else 0

/-- A page changes its owner (R369). -/
def Hif.setOwner (k o : Nat) (h : Hif) : Hif :=
  { h with ownA := setBit h.ownA k (decide (o = 1)), ownB := setBit h.ownB k (decide (o = 2)) }

/-- The mask of a range of pages. -/
def pageMask (first count : Nat) : Nat := (2 ^ count - 1) * 2 ^ first

/-- A range of pages becomes busy, or ceases to be (R365). -/
def Hif.setBusy (first count : Nat) (b : Bool) (h : Hif) : Hif :=
  { h with busy := if b then h.busy ||| pageMask first count else andNot h.busy (pageMask first count) }

/-- Owner of a range of pages changed. -/
def Hif.setOwners (first count o : Nat) (h : Hif) : Hif := (List.range count).foldl (fun h i => h.setOwner (first + i) o) h

/-- Any page of a range is busy. -/
def Hif.anyBusy (h : Hif) (first count : Nat) : Bool := decide (h.busy &&& pageMask first count ≠ 0)

/-- Every page of a range has this owner. -/
def Hif.allOwned (h : Hif) (first count o : Nat) : Bool := (List.range count).all (fun i => decide (h.owner (first + i) = o))

/-- The owner number of a port's host. -/
def hostOf (port : Nat) : Nat := port + 1

/-- A page transfer ends (R368): its pages cease to be busy. -/
def State.pageEnd (r : PageRun) (status : Nat) (s : State) : State :=
  ({ s with hif := { (s.hif.setBusy r.first r.count false) with pages := s.hif.pages.filter (fun x => decide (x.job ≠ r.job ∨ x.first ≠ r.first)) } } :
    State).finish ⟨r.job, status, r.moved % 256⟩

/-- The completion of a page transfer whose data have all moved. -/
def State.pageFinish (r : PageRun) (s : State) : State := s.pageEnd r (if r.poison then 3 else 0)

/-- A changed page transfer put back. -/
def Hif.putPage (r : PageRun) (h : Hif) : Hif :=
  { h with pages := h.pages.map (fun x => if x.job = r.job ∧ x.first = r.first then r else x) }

/-- Bytes cut into writes of at most a maximum payload. -/
def chunks (n : Nat) : Nat → List Byte → List (List Byte)
  | 0, _ => []
  | k + 1, l => if l.isEmpty then [] else l.take n :: chunks n k (l.drop n)

/-- One page of a PAGE_OUT is written to host memory (R337, R368, R380). -/
def State.pageOutOne (r : PageRun) (s : State) : State × PageRun :=
  let port := r.job.cmd.port
  let rd := s.mem0.useWords s.regs 0 5 ((r.first + r.moved) * 512) 512
  let mps := max (s.hif.ports.nth port).mps 1
  let base := r.job.cmd.addr + 4096 * r.moved
  let parts := chunks mps 4096 (wordBytes rd.2)
  let msgs := (parts.foldl (fun (a : List OutMsg × Nat) c => (.data port a.2 c :: a.1, a.2 + c.length)) ([], base)).1
  let bulk := ringClass s.regs port r.job.cmd.ring = 2
  let r := { r with moved := r.moved + 1, poison := r.poison || rd.2.any (fun x => x.2) }
  ({ s with mem0 := rd.1, out := msgs ++ s.out,
            hif := { s.hif with bulkBytes := if bulk then s.hif.bulkBytes.upd port (· + 4096) else s.hif.bulkBytes } }, r)

/-- Pages a PAGE_OUT writes in one tick: the rate is the model's, above the figure of guarantee 6 (log 12). -/
def pageRate : Nat := 4

/-- Some pages of a PAGE_OUT. -/
def State.pageOutRun (s : State) (r : PageRun) : Nat → State × PageRun
  | 0 => (s, r)
  | n + 1 =>
    if r.count ≤ r.moved then (s, r) else
    let x := s.pageOutOne r
    x.1.pageOutRun x.2 n

/-- One tick of a page transfer in stage 11 (R347, R368). -/
def State.pageTick (s : State) (r : PageRun) : State :=
  let tick := s.time.tick
  if r.doneAt ≠ 0 ∧ r.doneAt ≤ tick then s.pageFinish r
  else if r.job.cmd.limit ≠ 0 ∧ r.job.born + 20 * r.job.cmd.limit ≤ tick then s.pageEnd r 4
  else if r.isIn ∨ r.doneAt ≠ 0 ∨ !(s.hif.ports.nth r.job.cmd.port).bme then s
  else
    let x := s.pageOutRun r pageRate
    let r' := { x.2 with doneAt := if x.2.count ≤ x.2.moved then tick + 1 else 0 }
    { x.1 with hif := x.1.hif.putPage r' }

/-- The transfer that starts at a page of a port. -/
def Hif.pageRun (h : Hif) (port page : Nat) : Option PageRun :=
  h.pages.find? (fun r => decide (r.job.cmd.port = port) && decide (r.first = page))

/-- A page transfer finishes its transfers and completes (R368): a PAGE_OUT moves what is left, a PAGE_IN has all its data. -/
def State.pageDone (port page : Nat) (s : State) : State :=
  match s.hif.pageRun port page with
  | none => s
  | some r =>
    if r.isIn then (if r.count ≤ r.moved then s.pageFinish r else s)
    else if !(s.hif.ports.nth port).bme ∧ r.moved < r.count then s
    else
      let x := s.pageOutRun r 255
      x.1.pageFinish x.2

/-- A read completion of a running PAGE_IN arrives (R368, R379). -/
def State.pageData (port page offset : Nat) (data : List Byte) (ep : Bool) (s : State) : State :=
  match s.hif.pages.find? (fun r => r.isIn && decide (r.job.cmd.port = port) && decide (r.doneAt = 0) && decide (r.first ≤ page) &&
      decide (page < r.first + r.count)) with
  | none => s
  | some r =>
    if 4096 < offset + data.length ∨ data.isEmpty then s else
    let addr := 4096 * page + offset
    let m := s.mem0.writeData s.regs 0 14 addr data ep
    let got := r.got + data.length
    let r := { r with moved := r.moved + got / 4096, got := got % 4096, poison := r.poison || ep,
                      doneAt := if r.count ≤ r.moved + got / 4096 then s.time.tick + 1 else 0 }
    let bulk := ringClass s.regs port r.job.cmd.ring = 2
    let h := s.hif.putPage r
    { s with mem0 := m,
             hif := { h with bulkBytes := if bulk then h.bulkBytes.upd port (· + data.length) else h.bulkBytes } }

/-- A HIF command is judged and carried out (R368, R369). -/
def State.hifCmd (job : Job) (code : Nat) (s : State) : State :=
  let c := job.cmd
  let w := c.param.toNat
  let first := bitsOf w 21 12
  let count := bitsOf w 31 24
  let me := hostOf c.port
  let h := s.hif
  let answer := fun (st : Nat) => s.finish ⟨job, st, 0⟩
  if c.level ≠ 4 ∨ c.index ≠ 0 then answer 2
  else if code = 1 then (if w = 0 then answer 0 else answer 2)
  else if code = 0 ∨ 6 < code ∨ bitsOf w 11 0 ≠ 0 ∨ bitsOf w 23 22 ≠ 0 ∨ count = 0 ∨ 1024 < first + count then answer 2
  else
    let from' := if code = 2 then 0 else me
    if code ≠ 6 ∧ !h.allOwned first count from' then answer 2
    else if code = 4 ∧ ((h.ports.nth (1 - c.port)).inReset ∨ !(h.ports.nth (1 - c.port)).linkUp) then answer 2
    else if (code = 5 ∨ code = 6) ∧ c.addr % 4096 ≠ 0 then answer 2
    else if h.anyBusy first count then answer 1
    else if code = 2 then ({ s with hif := h.setOwners first count me } : State).finish ⟨job, 0, 0⟩
    else if code = 3 then ({ s with hif := h.setOwners first count 0 } : State).finish ⟨job, 0, 0⟩
    else if code = 4 then ({ s with hif := h.setOwners first count (3 - me) } : State).finish ⟨job, 0, 0⟩
    else { s with hif := { (h.setBusy first count true) with
                           pages := h.pages ++ [⟨job, decide (code = 5), first, count, 0, 0, false, 0⟩] } }

/-- A page violation is counted; its event follows in stage 11 (R366). -/
def State.violation (port page : Nat) (s : State) : State :=
  { s with hif := s.hif.port port (fun p =>
    { p with pageViol := satInc 16 p.pageViol, violPage := if p.violCount = 0 then page else p.violPage,
             violCount := satInc 32 p.violCount }) }

/-- The page violations of a tick (R366, R370). -/
def State.violations (s : State) : State :=
  (List.range 2).foldl (fun (s : State) port =>
    let p := s.hif.ports.nth port
    if p.violCount = 0 then s else
    ({ s with hif := s.hif.port port (fun p => { p with violCount := 0, violPage := 0 }) } : State).post
      ⟨0x0D05, p4 (p.violPage : Nat) ++ p4 (p.violCount : Nat), some port⟩) s

/-- A host write through BAR2 (R366). -/
def State.bar2Write (port addr : Nat) (data : List Byte) (s : State) : State :=
  if !s.portLive port ∨ data.isEmpty ∨ 0x400000 < addr + data.length ∨ addr / 4096 ≠ (addr + data.length - 1) / 4096 then s else
  let page := addr / 4096
  if s.hif.owner page ≠ hostOf port ∨ s.hif.busy.testBit page then s.violation port page
  else { s with mem0 := s.mem0.writeBytes s.regs 0 (15 + port) addr data }

/-- A host read through BAR2 (R366, R380). -/
def State.bar2Read (port addr len : Nat) (s : State) : State :=
  if !s.portLive port ∨ len = 0 ∨ 0x400000 < addr + len then s else
  let r := s.mem0.useWords s.regs 0 (6 + port) (addr / 8) ((addr % 8 + len + 7) / 8)
  { s with mem0 := r.1,
           out := .readData port (((wordBytes r.2).drop (addr % 8)).take len) (r.2.any (fun x => x.2)) :: s.out }

/-- CLASS of a ring set. -/
def RegFile.setClass (i k : Nat) (f : RegFile) : RegFile :=
  let w := (f.word Reg.HIF_R_CFG i).toNat
  f.setWord Reg.HIF_R_CFG i (BitVec.ofNat 32 (w - 4 * bitsOf w 3 2 + 4 * k))

/-- Rings 0 to 3 follow SAFETY_PORT (R340): CLASS 0 on the safety port; CLASS 1 on the other port where it reads 0. -/
def RegFile.safetyClasses (f : RegFile) : RegFile :=
  let p := f.HIF_CFG_SAFETY_PORT
  (List.range 4).foldl (fun (f : RegFile) r =>
    let f := f.setClass (64 * p + r) 0
    let o := 64 * (1 - p) + r
    if f.HIF_R_CFG_CLASS o = 0 then f.setClass o 1 else f) f

/-- A row of a port's HIF registers. -/
def portReg (port off : Nat) : Bool := decide (0xD1000 + 0x4000 * port ≤ off) && decide (off < 0xD5000 + 0x4000 * port)

/-- The register words of a port and its rings at their reset values (R338). -/
def RegFile.resetPort (port : Nat) (f : RegFile) : RegFile :=
  ({ f with vals := f.vals.filter (fun w => !portReg port w.1) } : RegFile).safetyClasses

/-- A port reset (R338), but for the block's other parts that hold something of the port. -/
def State.portResetHif (port : Nat) (kind : PortResetKind) (s : State) : State :=
  let h := s.hif
  let p := h.ports.nth port
  let pages := indices 1024 (fun k => decide (h.owner k = hostOf port))
  let down := match kind with
    | .flr | .d3hot => false
    | .hotReset | .linkDown | .perst => true
  let gone := h.pages.filter (fun r => decide (r.job.cmd.port = port))
  let h := gone.foldl (fun (h : Hif) r => h.setBusy r.first r.count false) h
  let q : Port := { Port.reset with
    linkUp := p.linkUp && !down, width := if down then 0 else p.width, speed := if down then 0 else p.speed,
    inReset := down, upOwed := true }
  let h : Hif := { h with
    ports := h.ports.put port q
    tracker := h.tracker.filter (fun t => decide (t.job.cmd.port ≠ port))
    compl := h.compl.filter (fun c => decide (c.port ≠ port))
    pages := h.pages.filter (fun r => decide (r.job.cmd.port ≠ port))
    ownA := if port = 0 then 0 else h.ownA
    ownB := if port = 0 then h.ownB else 0
    bulkBytes := h.bulkBytes.put port 0, bulkTicks := h.bulkTicks.put port 0, bulkHeld := h.bulkHeld.put port false }
  ({ s with hif := h, regs := s.regs.resetPort port } : State).post ⟨0x0D06, p1 port ++ p4 (pages.length : Nat), some (1 - port)⟩

/-- HIF_PORT_UP goes to the other port once the link is up and Bus Master Enable is 1 (R338). -/
def State.tellUp (port : Nat) (s : State) : State :=
  let p := s.hif.ports.nth port
  if p.upOwed ∧ p.linkUp ∧ p.bme then
    ({ s with hif := s.hif.port port (fun p => { p with upOwed := false }) } : State).post ⟨0x0D07, p1 port, some (1 - port)⟩
  else s

/-- A port's link is up (R338, R454). -/
def State.portUp (port width speed : Nat) (s : State) : State :=
  if !portEnabled s.boot.straps port ∨ s.boot.phase = .testMode ∨ s.boot.phase = .deviceReset ∨ s.boot.phase = .coreReset then s else
  ({ s with hif := s.hif.port port (fun p => { p with linkUp := true, width := width, speed := speed, inReset := false }) } : State).tellUp port

/-- Revision ID of both functions (R335). -/
def revisionId : Nat := Config.dieRev.toNat % 16

/-- Messages whose pending bits stand are sent once their vectors are unmasked and the port issues requests (R337, R361). -/
def State.msixSend (port : Nat) (s : State) : State :=
  let p := s.hif.ports.nth port
  let due := indices 32 (fun v => p.bme && p.msixPend.testBit v && !p.masked.testBit v)
  { s with out := (due.map (fun v => OutMsg.msix port v)).reverse ++ s.out
           hif := s.hif.port port (fun p => { p with msixPend := due.foldl (fun w v => setBit w v false) p.msixPend }) }

/-- A configuration request (R334, R335, R438): answered with retry status until the core is out of reset. -/
def State.pcieConfig (port : Nat) (req : CfgReq) (s : State) : State :=
  let rdy := match s.boot.phase with
    | .deviceReset | .coreReset | .testMode => false
    | .linkUp _ | .first | .running => true
  if !s.portLive port then s
  else if !rdy then { s with out := .config port 0 true :: s.out }
  else
    let say := fun (v : Nat) => { s with out := .config port v false :: s.out }
    let set := fun (f : Port → Port) => { s with hif := s.hif.port port f }
    match req with
    | .readId => say ((if port = 0 then 0x2480 else 0x2481) * 65536 + 0x1C7E)
    | .readClass => say (0x118000 * 256 + revisionId)
    | .readSubsys => say (s.regs.HIF_SUBSYS_SSID * 65536 + s.regs.HIF_SUBSYS_SSVID)
    | .setBme on => ((set (fun p => { p with bme := on })).msixSend port).tellUp port
    | .setExtTag on => set (fun p => { p with extTag := on })
    | .setMps n => if n = 128 ∨ n = 256 ∨ n = 512 then set (fun p => { p with mps := n }) else s
    | .setMrrs n => if n = 128 ∨ n = 256 ∨ n = 512 then set (fun p => { p with mrrs := n })
      else if 512 < n then set (fun p => { p with mrrs := 512 }) else s
    | .other => s

/-- A write of a vector's mask (R336, R361): unmasking a vector whose pending bit is set sends its message. -/
def State.msixMask (port v : Nat) (masked : Bool) (s : State) : State :=
  if !s.portLive port ∨ 32 ≤ v then s else
  let p := s.hif.ports.nth port
  let send := !masked && p.bme && p.msixPend.testBit v
  { s with out := if send then .msix port v :: s.out else s.out,
           hif := s.hif.port port (fun p => { p with masked := setBit p.masked v masked,
                                                     msixPend := if send then setBit p.msixPend v false else p.msixPend }) }

/-- A non-posted read gets no completion in time (R342, R368). -/
def State.readTimeout (port : Nat) (isPageIn : Bool) (which : Nat) (s : State) : State :=
  if isPageIn then
    match s.hif.pageRun port which with
    | none => s
    | some r => if r.isIn ∧ r.doneAt = 0 then s.pageEnd r 4 else s
  else if 64 ≤ which ∨ (s.hif.ringOf port which).asked = 0 then s
  else s.ringError port which 3

end Sys2Proof.Machine
end

