-- ==== Sys2Proof/Machine/Can.lean ====
section
/-! DEFINITION. Network time (R55 to R61) and the CAN controllers (chapter 13): objects, transmission order, errors, events, commands.
The protocol on the wire is the environment's: its happenings are commands. -/

namespace Sys2Proof.Machine

/-- Nominal core clocks per NTU of the source controller, 16.16 (R55, R312). -/
def nominalRate (rf : RegFile) : Nat :=
  let c := rf.TCK_NT_CFG_SRC
  65536 * 5 * (rf.CAN_C_NBT_NBRP c + 1) * (3 + rf.CAN_C_NBT_NTSEG1 c + rf.CAN_C_NBT_NTSEG2 c)

/-- TCK_NT_RATE: nominal until two anchors exist (R56); nominal too where the measured quotient is 0 (DESIGN CHOICE, log 43). -/
def Time.rateNow (rf : RegFile) (t : Time) : Nat := if t.anchors < 2 ∨ t.rate = 0 then nominalRate rf else t.rate

/-- nt(dtc) of R56, modulo 2^32. -/
def Time.ntFrom (rf : RegFile) (t : Time) (dtc : Nat) : Nat :=
  let r : Int := (t.rateNow rf : Nat)
  if r = 0 then 0 else pattern 32 ((t.anchorNt : Int) + ((dtc : Int) - t.anchorDtc) * 65536 / r)

/-- NT in master mode (R59). -/
def masterNt (rf : RegFile) (dtc : Nat) : Nat :=
  let r := nominalRate rf
  if r = 0 then 0 else dtc * 65536 / r % 4294967296

/-- The NT stamp of a record, a capture or a frame on a controller that is not the source (R56, R58, R61): NT, valid. In
master mode NT counts as not valid, since no anchor is ever taken (DESIGN CHOICE, log 43). -/
def Time.stamp (rf : RegFile) (t : Time) (dtc : Nat) : Nat × Bool :=
  if rf.TCK_NT_CFG_MODE = 0 then (0, false)
  else if rf.TCK_NT_CFG_MODE = 2 then (masterNt rf dtc, t.ntValid)
  else (t.ntFrom rf dtc, t.ntValid)

/-- The NT stamp of a frame on a controller (R329). -/
def Time.canStamp (rf : RegFile) (t : Time) (ctl dtc : Nat) : Nat × Bool :=
  if rf.TCK_NT_CFG_MODE = 2 ∧ rf.TCK_NT_CFG_SRC = ctl then (masterNt rf dtc, true) else t.stamp rf dtc

/-- An identifier as its register holds it: an 11-bit one sits in bits 10:0. -/
def identOf (ide id : Nat) : Bool × Nat := (decide (ide = 1), if ide = 1 then id else id % 2048)

/-- A frame with the identifier of TCK_NT_REF_ID and at least four data bytes (R55). -/
def isReference (rf : RegFile) (f : CanFrame) : Bool :=
  decide ((f.ide, f.id) = identOf rf.TCK_NT_REF_ID_IDE rf.TCK_NT_REF_ID_ID) && !f.rtr && decide (4 ≤ f.data.length)

/-- A reference message received in slave mode (R56 to R58): the time, events. Two anchors with one NT leave the rate as it was
(DESIGN CHOICE, log 43). -/
def Time.reference (rf : RegFile) (f : CanFrame) (sof : Nat) (t : Time) : Time × List (Nat × List Byte) :=
  let nt := ofLe (f.data.take 4)
  let t' := { t with lastRefDtc := sof + 1, refAge := 0 }
  if t.lastRefDtc = 0 then (t', []) else
  let dtc := t.lastRefDtc - 1
  let step := signed 32 (nt + 4294967296 - t.ntFrom rf dtc)
  let e1 : List (Nat × List Byte) :=
    if t.anchors ≠ 0 ∧ rf.TCK_NT_STEPLIM_LIMIT < step.natAbs then [(0x0106, p4 step)] else []
  let gap := (nt + 4294967296 - t.anchorNt) % 4294967296
  let rate := if t.anchors = 0 ∨ gap = 0 then t.rate else (dtc - t.anchorDtc) * 65536 / gap % 4294967296
  let valid := decide (1 ≤ t.anchors)
  ({ t' with anchorNt := nt, anchorDtc := dtc, rate := rate, anchors := min (t.anchors + 1) 2, ntValid := t.ntValid || valid },
   e1 ++ (if valid && !t.ntValid then [(0x0104, p1 rf.TCK_NT_CFG_SRC)] else []))

/-- NT becomes invalid (R58). -/
def Time.ntTimeout (rf : RegFile) (t : Time) : Time × List (Nat × List Byte) :=
  if t.ntValid then ({ t with ntValid := false }, [(0x0105, p1 rf.TCK_NT_CFG_SRC)]) else (t, [])

/-- Value of a map by object. -/
def objCount (l : List (Nat × Nat)) (o : Nat) : Nat := (lookupKey o l).getD 0

/-- A map by object with one value set; zero is not listed. -/
def setCount (o n : Nat) (l : List (Nat × Nat)) : List (Nat × Nat) := if n = 0 then eraseKey o l else insertKey o n l

/-- Object 127 of the source controller belongs to the time master (R330). -/
def masterObj (rf : RegFile) (ctl o : Nat) : Bool :=
  decide (rf.TCK_NT_CFG_MODE = 2) && decide (rf.TCK_NT_CFG_SRC = ctl) && decide (o = 127)

/-- The bit of an object in CAN_C_OBJ_EN (R315). -/
def objEnabled (rf : RegFile) (ctl o : Nat) : Bool :=
  masterObj rf ctl o || (rf.CAN_C_OBJ_EN_EN (4 * ctl + o / 32)).testBit (o % 32)

/-- The object sends (DIR 1). -/
def objTx (rf : RegFile) (ctl o : Nat) : Bool := masterObj rf ctl o || decide (rf.CAN_O_CFG_DIR (128 * ctl + o) = 1)

/-- IDE and identifier of an object. -/
def objIdent (rf : RegFile) (ctl o : Nat) : Bool × Nat :=
  if masterObj rf ctl o then identOf rf.TCK_NT_REF_ID_IDE rf.TCK_NT_REF_ID_ID
  else identOf (rf.CAN_O_ID_IDE (128 * ctl + o)) (rf.CAN_O_ID_ID (128 * ctl + o))

/-- FDF and BRS of an object. -/
def objFormat (rf : RegFile) (ctl o : Nat) : Bool × Bool :=
  if masterObj rf ctl o then (false, false)
  else (decide (rf.CAN_O_CFG_FDF (128 * ctl + o) = 1), decide (rf.CAN_O_CFG_BRS (128 * ctl + o) = 1))

/-- RETRY of an object. -/
def objRetry (rf : RegFile) (ctl o : Nat) : Nat := if masterObj rf ctl o then 15 else rf.CAN_O_CFG_RETRY (128 * ctl + o)

/-- EVT of an object. -/
def objEvt (rf : RegFile) (ctl o : Nat) : Bool := !masterObj rf ctl o && decide (rf.CAN_O_CFG_EVT (128 * ctl + o) = 1)

/-- Place in arbitration: the lower wins (R318). -/
def arbKey (id : Bool × Nat) : Nat :=
  if id.1 then (id.2 / 262144) * 524288 + 262144 + id.2 % 262144 else (id.2 % 2048) * 524288

/-- Data bytes of a DLC (R310, R328). -/
def dlcLen (fdf : Bool) (dlc : Nat) : Nat :=
  if dlc ≤ 8 then dlc
  else if !fdf then 8
  else [12, 16, 20, 24, 32, 48, 64].nth (dlc - 9)

/-- CAN_C_STATUS.STATE. -/
def CanCtl.state (c : CanCtl) : Nat :=
  if c.mode = 0 then 3 else if c.busOff then 2 else if 128 ≤ c.tec ∨ 128 ≤ c.recv then 1 else 0

/-- CAN_C_STATUS.WARNING. -/
def CanCtl.warning (c : CanCtl) : Bool := decide (96 ≤ c.tec) || decide (96 ≤ c.recv)

/-- A happening for stage 11 (R331). -/
def CanCtl.note (code : Nat) (body : List Byte) (c : CanCtl) : CanCtl := { c with happen := c.happen ++ [(code, body)] }

/-- CAN_STATE where STATE or WARNING changed (chapter 13, error handling). -/
def CanCtl.watch (ctl : Nat) (old c : CanCtl) : CanCtl :=
  if old.state = c.state ∧ old.warning = c.warning then c
  else c.note 0x0C01 (p1 ctl ++ p1 old.state ++ p1 c.state ++ p1 (b2n c.warning) ++ p4 (c.tec : Nat) ++ p4 (c.recv : Nat))

/-- ALONE clears (R323). -/
def CanCtl.notAlone (ctl : Nat) (c : CanCtl) : CanCtl :=
  if c.alone then ({ c with alone := false } : CanCtl).note 0x0C07 (p1 ctl ++ p1 0) else c

/-- The controller takes part in bus traffic. -/
def CanCtl.onBus (c : CanCtl) : Bool := decide (c.mode ≠ 0) && !c.busOff

/-- Change of one controller. -/
def State.can (ctl : Nat) (f : CanCtl → CanCtl) (s : State) : State := { s with cans := s.cans.upd ctl f }

/-- First word of an object's slot in the message memory (R37). -/
def canWord (ctl o : Nat) : Nat := 0x82400 + 0x800 * ctl + 16 * o

/-- ID and FRAME words of a frame, with NT_VALID (R327). -/
def frameHead (f : CanFrame) (ntValid : Bool) : DWord :=
  BitVec.ofNat 64 (f.id + 536870912 * b2n f.ide +
    4294967296 * (f.dlc + 16 * b2n f.fdf + 32 * b2n f.brs + 64 * b2n f.esi + 2048 * b2n ntValid))

/-- The slot of a frame (R327). -/
def frameSlot (f : CanFrame) (dtc nt : Nat) (ntValid : Bool) : List DWord :=
  [frameHead f ntValid, BitVec.ofNat 64 dtc, BitVec.ofNat 64 nt, 0, 0, 0, 0, 0] ++ bytesWords 8 f.data

/-- The enabled receive object whose identifier is a frame's (R315). -/
def rxObject (rf : RegFile) (ctl : Nat) (f : CanFrame) : Option Nat :=
  (List.range 128).find? (fun o => objEnabled rf ctl o && !objTx rf ctl o && decide (objIdent rf ctl o = (f.ide, f.id)))

/-- REC after a frame received without error: between 119 and 127 where it stood above 127, which of them ISO 11898-1 leaves open. -/
def recAfter (n v : Nat) : Nat := if 127 < n then 119 + v % 9 else n - 1

/-- A frame is stored in a receive object (R317). -/
def State.canStore (ctl o : Nat) (f : CanFrame) (sof : Nat) (s : State) : State :=
  let nt := s.time.canStamp s.regs ctl sof
  let s := { s with mem0 := s.mem0.writeWords 0 14 (canWord ctl o) ((frameSlot f sof nt.1 nt.2).map (fun d => (d, false))) }
  s.can ctl (fun c =>
    let again := c.new.testBit o
    { c with new := setBit c.new o true, lost := if again then setBit c.lost o true else c.lost,
             lostCnt := if again then setCount o (satInc 16 (objCount c.lostCnt o)) c.lostCnt else c.lostCnt,
             poisoned := setBit c.poisoned o false, received := satInc 16 c.received,
             rxSince := if objEvt s.regs ctl o then setCount o (objCount c.rxSince o + 1) c.rxSince else c.rxSince })

/-- A reference message received on the source controller (R55 to R59): an anchor in slave mode, a conflict in master mode. -/
def State.refReceived (f : CanFrame) (sof : Nat) (s : State) : State :=
  let ctl := s.regs.TCK_NT_CFG_SRC
  let mode := s.regs.TCK_NT_CFG_MODE
  if mode = 0 ∨ !isReference s.regs f then s else
  let r := if mode = 1 then s.time.reference s.regs f sof else ({ s.time with lastRefDtc := sof + 1 }, [(0x0107, p1 ctl ++ p8 sof)])
  ({ s with time := r.1 } : State).can ctl (fun c => { c with refs := satInc 16 c.refs, happen := c.happen ++ r.2 })

/-- An error in a frame being received: REC by ISO 11898-1; unchanged in RESTRICTED (R313). Arbitration for a frame of its own is lost. -/
def CanCtl.rxError (ctl lec : Nat) (dominantAfter : Bool) (c : CanCtl) : CanCtl :=
  if !c.onBus then c
  else if c.mode = 2 then { c with lec := lec }
  else CanCtl.watch ctl c { c with tx := none, lec := lec, recv := min (c.recv + (if dominantAfter then 8 else 1)) 255 }

/-- A valid frame is received (R315, R317, R323, R329; R55 to R60 on the source controller). A controller that had started a frame of its
own has lost arbitration (R318). With FD_EN 0 an FD frame is a form error (R311). -/
def State.canReceive (ctl : Nat) (f : CanFrame) (sof : Nat) (s : State) : State :=
  let c0 := s.cans.nth ctl
  if !c0.onBus then s
  else if f.fdf ∧ s.regs.CAN_C_CFG_FD_EN ctl = 0 then s.can ctl (CanCtl.rxError ctl 2 false)
  else
  let big := decide (127 < c0.recv)
  let v := Config.freeValue s.freeCount
  let s := s.can ctl (fun c => CanCtl.watch ctl c (({ c with tx := none, recv := recAfter c.recv v } : CanCtl).notAlone ctl))
  let s : State := if big then { s with freeCount := s.freeCount + 1 } else s
  let s := if s.regs.TCK_NT_CFG_SRC = ctl then s.refReceived f sof else s
  if f.rtr then s.can ctl (fun c => { c with unmatched := satInc 16 c.unmatched }) else
  match rxObject s.regs ctl f with
  | some o => s.canStore ctl o f sof
  | none => s.can ctl (fun c => { c with unmatched := satInc 16 c.unmatched })

/-- The request that would win arbitration (R318). -/
def CanCtl.winner (rf : RegFile) (ctl : Nat) (c : CanCtl) : Option Nat :=
  (indices 128 (fun o => c.txreq.testBit o && objEnabled rf ctl o && objTx rf ctl o)).foldl (fun (b : Option Nat) o =>
    match b with
    | none => some o
    | some p => if arbKey (objIdent rf ctl o) < arbKey (objIdent rf ctl p) then some o else some p) none

/-- The frame of an object as its slot and registers give it (R328). -/
def objFrame (rf : RegFile) (ctl o : Nat) (esi : Bool) (head : DWord) (data : List Byte) : CanFrame :=
  let fm := objFormat rf ctl o
  let id := objIdent rf ctl o
  let dlc := bitsOf head.toNat 35 32
  ⟨id.1, id.2, false, fm.1, fm.1 && fm.2, fm.1 && esi, dlc, data.take (dlcLen fm.1 dlc)⟩

/-- The reference message of the time master (R330). -/
def masterFrame (rf : RegFile) (nt : Nat) : CanFrame :=
  ⟨decide (rf.TCK_NT_REF_ID_IDE = 1), rf.TCK_NT_REF_ID_ID, false, false, false, false, 8, leBytes 8 nt⟩

/-- A frame starts with the request that wins; one whose stored frame holds poison is set aside and the choice made again (R318, R320).
The number bounds the choices. -/
def State.canStart (ctl clk : Nat) (s : State) : Nat → State
  | 0 => s
  | n + 1 =>
    let c := s.cans.nth ctl
    if c.mode ≠ 1 ∨ c.busOff ∨ c.tx.isSome then s else
    match c.winner s.regs ctl with
    | none => s
    | some o =>
      let sof := 10000 * s.time.tick + clk
      let begin' := fun (f : CanFrame) (s : State) =>
        ({ s with out := .canFrame ctl f :: s.out } : State).can ctl (fun c => { c with tx := some ⟨o, sof, f, false⟩ })
      if masterObj s.regs ctl o then
        let f := masterFrame s.regs s.time.lastSentNt
        begin' f { s with mem0 := s.mem0.writeWords 0 14 (canWord ctl o) ((frameSlot f 0 0 false).map (fun d => (d, false))) }
      else
        let h := s.mem0.use s.regs 0 4 (canWord ctl o)
        let len := dlcLen (objFormat s.regs ctl o).1 (bitsOf h.2.data.toNat 35 32)
        let d := h.1.useWords s.regs 0 4 (canWord ctl o + 8) ((len + 7) / 8)
        let s := { s with mem0 := d.1 }
        if h.2.bad ∨ d.2.any (fun x => x.2) then
          (s.can ctl (fun c => ({ c with txreq := setBit c.txreq o false, poisoned := setBit c.poisoned o true } : CanCtl).note 0x0C06
            (p1 ctl ++ p1 o))).canStart ctl clk n
        else begin' (objFrame s.regs ctl o (decide (c.state = 1)) h.2.data (wordBytes d.2)) s

/-- A frame has been sent and acknowledged (R319, R323, R329, R330); the DTC of a reference message is captured (R55). The request of a
TX_SEND that came during the attempt stands: its data are for the next one (R326; DEDUCED, log 46). -/
def State.canSent (ctl tdcv : Nat) (s : State) : State :=
  let c := s.cans.nth ctl
  match c.tx with
  | none => s
  | some t =>
    let nt := s.time.canStamp s.regs ctl t.sof
    let w := canWord ctl t.obj
    let h := s.mem0.read s.regs 0 14 w
    let head : DWord := BitVec.ofNat 64 (setBit h.2.data.toNat 43 nt.2)
    let m := if h.2.bad then h.1 else h.1.writeFull 0 14 w head
    let m := (m.writeFull 0 14 (w + 1) (BitVec.ofNat 64 t.sof)).writeFull 0 14 (w + 2) (BitVec.ofNat 64 nt.1)
    let master := masterObj s.regs ctl t.obj
    let ref := decide (s.regs.TCK_NT_CFG_SRC = ctl) && decide (s.regs.TCK_NT_CFG_MODE ≠ 0) && isReference s.regs t.frame
    let s : State := { s with
      mem0 := m
      time := { s.time with lastRefDtc := if ref then t.sof + 1 else s.time.lastRefDtc
                            lastSentNt := if master then nt.1 else s.time.lastSentNt } }
    s.can ctl (fun c =>
      let d : CanCtl := { c with
        tx := none, tec := c.tec - 1, txreq := if t.renewed then c.txreq else setBit c.txreq t.obj false
        retries := setCount t.obj 0 c.retries, sent := satInc 16 c.sent, refs := if ref then satInc 16 c.refs else c.refs,
        tdcv := if s.regs.CAN_C_TDC_TDC_EN ctl = 1 ∧ t.frame.fdf ∧ t.frame.brs then tdcv % 128 else c.tdcv }
      let d := if objEvt s.regs ctl t.obj then d.note 0x0C04 (p1 ctl ++ p1 t.obj ++ p8 t.sof) else d
      CanCtl.watch ctl c (d.notAlone ctl))

/-- A failed attempt of an object (R319). -/
def CanCtl.failed' (rf : RegFile) (ctl o lec : Nat) (c : CanCtl) : CanCtl :=
  let n := objCount c.retries o + 1
  let c : CanCtl := { c with retries := setCount o n c.retries, failed := satInc 16 c.failed, lec := lec }
  let lim := objRetry rf ctl o
  if lim < 15 ∧ lim < n then
    ({ c with txreq := setBit c.txreq o false, txfail := setBit c.txfail o true } : CanCtl).note 0x0C05
      (p1 ctl ++ p1 o ++ p4 (n : Nat) ++ p1 lec)
  else c

/-- TEC has passed 255: bus-off (error handling of chapter 13, R321). -/
def CanCtl.checkOff (ctl tick : Nat) (c : CanCtl) : CanCtl :=
  if 255 < c.tec ∧ ¬c.busOff then
    ({ c with busOff := true, offSince := tick, recover := 0, tx := none, busOffs := satInc 16 c.busOffs } : CanCtl).notAlone ctl
  else c

/-- A transmission ends in an error frame (R319, R323). noCount: ISO 11898-1 leaves TEC unchanged for another reason. -/
def CanCtl.txError (rf : RegFile) (ctl tick lec : Nat) (noDominant noCount : Bool) (c : CanCtl) : CanCtl :=
  match c.tx with
  | none => c
  | some t =>
    let lone := decide (lec = 3) && decide (c.state = 1) && noDominant
    let d := ({ c with tx := none } : CanCtl).failed' rf ctl t.obj lec
    let d : CanCtl := if noCount || lone then d else { d with tec := min (d.tec + 8) 256 }
    let d := if lone && !d.alone then ({ d with alone := true } : CanCtl).note 0x0C07 (p1 ctl ++ p1 1) else d
    CanCtl.watch ctl c (d.checkOff ctl tick)

/-- The end of bus-off at the 128th recessive sequence (R321, R322). -/
def CanCtl.recovered (ctl tick : Nat) (c : CanCtl) : CanCtl :=
  if !c.busOff then c else
  CanCtl.watch ctl c (({ c with busOff := false, tec := 0, recv := 0, retries := [], recover := 128 } : CanCtl).note 0x0C02
    (p1 ctl ++ p4 ((tick - c.offSince : Nat) : Int)))

/-- A protocol exception (R310, R324). -/
def CanCtl.exception (c : CanCtl) : CanCtl :=
  if !c.onBus then c else { c with px := satInc 16 c.px, pxTick := c.pxTick + 1 }

/-- The requested mode takes effect (R313, R314). -/
def CanCtl.toMode (ctl m : Nat) (c : CanCtl) : CanCtl :=
  let fresh := decide (c.mode = 0) || decide (m = 0)
  let d : CanCtl := { c with mode := m, asked := false, tec := if fresh then 0 else c.tec, recv := if fresh then 0 else c.recv }
  let d := if m = 0 then d.notAlone ctl else d
  CanCtl.watch ctl c (if c.mode = m then d else d.note 0x0C09 (p1 ctl ++ p1 m))

/-- At bus idle a requested mode takes effect (R314); a frame of its own completes first. -/
def State.canMode (ctl : Nat) (s : State) : State :=
  s.can ctl (fun c => if c.asked ∧ c.tx.isNone ∧ ¬c.busOff then c.toMode ctl (s.regs.CAN_C_MODE_MODE ctl) else c)

/-- The time master asks for a reference message (R330). -/
def State.masterPeriod (s : State) : State :=
  if s.regs.TCK_NT_CFG_MODE ≠ 2 then s else
  let ctl := s.regs.TCK_NT_CFG_SRC
  ({ s with time := { s.time with masterAge := 0 } } : State).can ctl (fun c =>
    if c.mode = 2 ∨ c.mode = 3 then { c with missed := satInc 16 c.missed }
    else { c with txreq := setBit c.txreq 127 true,
                  missed := if c.txreq.testBit 127 then satInc 16 c.missed else c.missed })

/-- No reference message for TIMEOUT (R58). -/
def State.ntLost (s : State) : State :=
  let r := s.time.ntTimeout s.regs
  ({ s with time := r.1 } : State).says r.2

/-- Network time in one tick (R58, R59). -/
def State.ntTick (s : State) : State :=
  let mode := s.regs.TCK_NT_CFG_MODE
  if mode = 1 then
    let age := s.time.refAge + 1
    let s := { s with time := { s.time with refAge := age } }
    if s.time.ntValid ∧ 20 * max s.regs.TCK_NT_CFG_TIMEOUT 1 ≤ age then s.ntLost else s
  else if mode = 2 then
    let age := s.time.masterAge + 1
    if 20 * max s.regs.TCK_NT_CFG_PERIOD 1 ≤ age then s.masterPeriod
    else { s with time := { s.time with masterAge := age } }
  else s

/-- RECOVER of the controllers in bus-off over one tick (R321): how many recessive sequences the bus showed is free, at most the five that
begin in a tick of 50 bits (log 46). -/
def State.canRecover (s : State) : State :=
  (List.range 4).foldl (fun (s : State) ctl =>
    if (s.cans.nth ctl).busOff then
      ({ s with freeCount := s.freeCount + 1 } : State).can ctl (fun c => { c with
        recover := min 127 (c.recover + Config.freeValue s.freeCount % 6) })
    else s) s

/-- The CAN events of a tick (R324, R331). -/
def State.canPosts (s : State) : State :=
  (List.range 4).foldl (fun (s : State) ctl =>
    let c := s.cans.nth ctl
    let rx := c.rxSince.map (fun x => ((0x0C03 : Nat), p1 ctl ++ p1 x.1 ++ p4 (x.2 : Nat) ++ p1 (b2n (c.lost.testBit x.1))))
    let px : List (Nat × List Byte) := if c.pxTick = 0 then [] else [(0x0C08, p1 ctl ++ p4 (c.pxTick : Nat))]
    (s.can ctl (fun c => { c with happen := [], rxSince := [], pxTick := 0 })).says (c.happen ++ rx ++ px)) s

/-- A port may issue CAN commands to a controller (R325). -/
def canAuth (rf : RegFile) (ctl port : Nat) : Bool :=
  if port = 0 then decide (rf.CAN_C_AUTH_PORT_A ctl = 1) else decide (rf.CAN_C_AUTH_PORT_B ctl = 1)

/-- TX_SEND of one object from its page slot (R325, R327, R328): the state, whether a word taken was poisoned. -/
def State.txLoad (ctl o slotWord : Nat) (s : State) : State × Bool :=
  let fm := objFormat s.regs ctl o
  let id := objIdent s.regs ctl o
  let h := s.mem0.read s.regs 0 14 slotWord
  let dlc := bitsOf h.2.data.toNat 35 32
  let len := dlcLen fm.1 dlc
  let d := h.1.readWords s.regs 0 14 (slotWord + 8) ((len + 7) / 8)
  let data := (wordBytes d.2).take len
  let f : CanFrame := ⟨id.1, id.2, false, fm.1, fm.1 && fm.2, false, dlc, data⟩
  let bads := d.2.map (fun x => x.2)
  let ws := (bytesWords 8 data).mapIdx (fun i x => (x, bads.nth i))
  let m := d.1.writeCopy 0 14 (canWord ctl o) (frameHead f false) h.2.bad
  let m := m.writeWords 0 14 (canWord ctl o + 8) ws
  let bad := h.2.bad || bads.any id'
  (({ s with mem0 := m } : State).can ctl (fun c =>
    { c with tx := c.tx.map (fun t => { t with renewed := t.renewed || decide (t.obj = o) })
             txreq := setBit c.txreq o true, retries := setCount o 0 c.retries, txfail := setBit c.txfail o false,
             poisoned := if bad then c.poisoned else setBit c.poisoned o false }), bad)
where
  /-- A flag itself. -/
  id' (b : Bool) : Bool := b

/-- RX_READ of one object to its page slot (R325, R327): the state, whether a word copied was poisoned. -/
def State.rxCopy (ctl o slotWord : Nat) (s : State) : State × Bool :=
  let c := s.cans.nth ctl
  let r := s.mem0.readWords s.regs 0 14 (canWord ctl o) 16
  let head := (r.2.nth 0).1.toNat
  let head := head % 1099511627776 + bitsOf head 43 43 * 8796093022208 +
    (b2n (c.new.testBit o) + 2 * b2n (c.lost.testBit o) + 4 * b2n (c.poisoned.testBit o)) * 1099511627776 +
    objCount c.lostCnt o * 281474976710656
  let ws := r.2.mapIdx (fun i x => if i = 0 then (BitVec.ofNat 64 head, x.2) else x)
  let m := r.1.writeWords 0 14 slotWord ws
  (({ s with mem0 := m } : State).can ctl (fun c => { c with new := setBit c.new o false, lost := setBit c.lost o false }),
   r.2.any (fun x => x.2))

/-- A CAN command is judged and carried out (R325, R326). -/
def State.canCmd (job : Job) (code : Nat) (s : State) : State :=
  let c := job.cmd
  let w := c.param.toNat
  let ctl := bitsOf w 23 22
  let page := bitsOf w 21 12
  let obj := bitsOf w 6 0
  let count := bitsOf w 31 24
  let answer := fun (st : Nat) (s : State) => s.finish ⟨job, st, 0⟩
  let objs := (List.range count).map (· + obj)
  if c.level ≠ 4 ∨ c.index ≠ 0 ∨ bitsOf w 11 7 ≠ 0 ∨ count = 0 ∨ 32 < count ∨ 128 < obj + count ∨ !canAuth s.regs ctl c.port ∨
      code = 0 ∨ 3 < code then answer 2 s
  else if code = 3 then
    if page ≠ 0 ∨ objs.any (masterObj s.regs ctl) then answer 2 s
    else answer 0 (s.can ctl (fun x => { x with txreq := objs.foldl (fun m o =>
      if objTx s.regs ctl o then setBit m o false else m) x.txreq }))
  else if s.hif.owner page ≠ 0 then answer 2 s
  else if s.hif.busy.testBit page then answer 1 s
  else if code = 1 ∧ objs.any (fun o => !objEnabled s.regs ctl o || !objTx s.regs ctl o || masterObj s.regs ctl o) then answer 2 s
  else
    let go := fun (s : State) (o : Nat) =>
      let slot := 512 * page + 16 * (o - obj)
      if code = 1 then s.txLoad ctl o slot else s.rxCopy ctl o slot
    let r := objs.foldl (fun (a : State × Bool) o => let x := go a.1 o; (x.1, a.2 || x.2)) (s, false)
    let s := { r.1 with hif := r.1.hif.setOwner page (hostOf c.port) }
    answer (if r.2 then 3 else 0) s

end Sys2Proof.Machine
end

