-- ==== Sys2Proof/Machine/Patina.lean ====
section
/-! DEFINITION. The ageing tracker (chapter 10): samples, trends, re-planned quantities, proposals and their commands, saving; and the
writes of armature words (R139). -/

namespace Sys2Proof.Machine

/-- Change of one leaf. -/
def State.leaf (l : Nat) (f : Leaf → Leaf) (s : State) : State := { s with leaves := s.leaves.upd l f }

/-- Change of the patina. -/
def State.patMod (f : Pat → Pat) (s : State) : State := { s with pat := f s.pat }

/-- Byte address of an armature word (R37). -/
def armAddr (l dir b : Nat) : Nat := 0x400000 + 0x1000 * l + 0x800 * dir + 4 * b

/-- A stroke or reaction runs on a leaf in a direction (R139). -/
def State.runsIn (l dir : Nat) (s : State) : Bool :=
  let o := (s.leaves.nth l).obs
  (o.stroke && decide (o.dir = dir)) || (decide (o.react ≠ .none) && decide (o.reactDir = dir))

/-- The armature word of a bin as the patina sees it, writes held back laid over; none where it is poisoned. -/
def State.armWord (l dir b : Nat) (s : State) : Option Nat :=
  match lookupKey (512 * dir + b) (s.leaves.nth l).obs.heldArm with
  | some w => some w
  | none =>
    let x := s.mem0.store.word (armAddr l dir b / 8)
    match x.cls with
    | .poison | .ue => none
    | .unwritten => some 0
    | .clean => some (halfWord x.data (armAddr l dir b))
    | .ce => some (halfWord x.fixed (armAddr l dir b))

/-- An armature word put in place; a poisoned word is not overwritten (R142). -/
def State.armStore (l dir b w : Nat) (s : State) : State :=
  let a := armAddr l dir b
  match (s.mem0.store.word (a / 8)).cls with
  | .poison | .ue => s
  | .unwritten | .clean | .ce => { s with mem0 := s.mem0.writeBytes s.regs 0 14 a (leBytes 4 w) }

/-- A write of an armature word by the patina: held back while the leaf runs in its direction (R139). -/
def State.armWrite (l dir b w : Nat) (s : State) : State :=
  if s.runsIn l dir then s.leaf l (fun x => { x with obs := { x.obs with heldArm := insertKey (512 * dir + b) w x.obs.heldArm } })
  else s.armStore l dir b w

/-- Writes held back are applied once the leaf no longer runs in their direction (R139). -/
def State.armRelease (l : Nat) (s : State) : State :=
  let held := (s.leaves.nth l).obs.heldArm
  let due := held.filter (fun x => !s.runsIn l (x.1 / 512))
  let s := s.leaf l (fun x => { x with obs := { x.obs with heldArm := held.filter (fun y => !due.contains y) } })
  due.foldl (fun (s : State) x => s.armStore l (x.1 / 512) (x.1 % 512) x.2) s

/-- A bin of the patina; a bin it has not touched stands at the armature in use (R255, R259). -/
def State.patBin (l dir b : Nat) (s : State) : Option PatBin :=
  match lookupKey b (((s.pat.st.leaves.nth l).arm.nth dir).bins) with
  | some x => some x
  | none => (s.armWord l dir b).map (fun w =>
    ⟨256 * armExpect w, 1024 * (armMargin w : Int) / (max s.regs.PAT_ARM_CFG_MARGIN_K 1 : Nat), armExpect w, armMargin w, 0⟩)

/-- Change of the patina of one leaf. -/
def State.patLeaf (l : Nat) (f : PatLeaf → PatLeaf) (s : State) : State :=
  s.patMod (fun p => { p with st := { p.st with leaves := p.st.leaves.upd l f } })

/-- Change of the patina of one portal. -/
def State.patPortal (p : Nat) (f : PatPortal → PatPortal) (s : State) : State :=
  s.patMod (fun x => { x with st := { x.st with portals := x.st.portals.upd p f } })

/-- A bin stored. -/
def State.putBin (l dir b : Nat) (x : PatBin) (s : State) : State :=
  s.patLeaf l (fun p => { p with arm := p.arm.upd dir (fun a => { a with bins := insertKey b x a.bins }) })

/-- Division of a value with 8 fractional bits to the nearest unit. -/
def near8 (v : Int) : Int := divNear v 256

/-- A scalar trend after a sample with 8 fractional bits (R255, R257). The reference is formed once, by the MIN_SAMPLES-th sample since
the state reset, or by the next one where MIN_SAMPLES was lowered past it. -/
def Trend.add (rf : RegFile) (x : Int) (t : Trend) : Trend :=
  let v := if t.n = 0 then x else t.v + (x - t.v) / (2 ^ rf.PAT_FILT_SHIFT_SCAL : Int)
  ⟨t.n + 1, v, t.total + 1, if t.ref.isNone ∧ max rf.PAT_FILT_MIN_SAMPLES 1 ≤ t.total + 1 then some v else t.ref⟩

/-- The trend restarts with its next sample (R263); its alarm reference stands (R257). -/
def Trend.restart (t : Trend) : Trend := { t with n := 0, v := 0 }

/-- The trend has departed from its alarm reference (R257). -/
def Trend.alarms (rf : RegFile) (t : Trend) : Bool :=
  match t.ref with
  | none => false
  | some r => decide ((rf.PAT_TO_LIM_ALARM_PCT * r.natAbs : Nat) < 100 * (t.v - r).natAbs)

/-- PAT_ALARM (R266). -/
def alarmEvent (obj cause : Nat) (ref v : Int) : Nat × List Byte := (0x0905, p1 obj ++ p1 cause ++ p4 ref ++ p4 v)

/-- A sample of a leaf's scalar measure k (R255, R257). -/
def State.leafSample (l k : Nat) (x : Int) (s : State) : State :=
  let t := ((s.pat.st.leaves.nth l).trends.nth k).add s.regs x
  let ring := t.alarms s.regs && !(s.pat.st.leaves.nth l).alarm.testBit k
  let s := s.patLeaf l (fun p => { p with trends := p.trends.put k t, alarm := if ring then setBit p.alarm k true else p.alarm })
  if ring then s.says [alarmEvent l k (near8 (t.ref.getD 0)) (near8 t.v)] else s

/-- A sample of a portal's scalar measure k. -/
def State.portalSample (p k : Nat) (x : Int) (s : State) : State :=
  let t := ((s.pat.st.portals.nth p).trends.nth k).add s.regs x
  let ring := t.alarms s.regs && !(s.pat.st.portals.nth p).alarm.testBit k
  let s := s.patPortal p (fun q => { q with trends := q.trends.put k t, alarm := if ring then setBit q.alarm k true else q.alarm })
  if ring then s.says [alarmEvent p k (near8 (t.ref.getD 0)) (near8 t.v)] else s

/-- A sample where there is one. -/
def State.portalSample? (p k : Nat) (x : Option Int) (s : State) : State :=
  match x with
  | some v => s.portalSample p k v
  | none => s

/-- Ticks as ms with 8 fractional bits. -/
def ms8 (ticks : Nat) : Int := ((ticks * 256 / 20 : Nat) : Int)

/-- The samples of one valid stroke (R255, R256). -/
def State.strokeSamples (l : Nat) (s : State) (k : Stroke) : State :=
  let rf := s.regs
  let dir := k.dir
  let xs := k.bins.filterMap (fun b => (s.patBin l dir b.1).map (fun p => (b.1, p, b.2.1 * 256 / ((max b.2.2 1 : Nat) : Int))))
  let out := xs.filter (fun x => decide ((256 * rf.PAT_FILT_OUTLIER : Nat) < (x.2.2 - x.2.1.trend).natAbs))
  if rf.PAT_ARM_CFG_OUT_MAX < out.length then
    let n := (s.pat.st.leaves.nth l).rejConsec + 1
    let s := s.patLeaf l (fun p => { p with rejConsec := min n 65535, rejTotal := satInc 16 p.rejTotal,
                                            alarm := if n = 16 then setBit p.alarm 6 true else p.alarm })
    s.says ((0x0906, p1 l ++ p1 dir ++ p4 (out.length : Nat)) :: (if n = 16 then [alarmEvent l 6 0 16] else []))
  else
    let sh : Int := 2 ^ rf.PAT_FILT_SHIFT_ARM
    let s := s.patLeaf l (fun p => { p with rejConsec := 0 })
    let s := xs.foldl (fun (s : State) x =>
      let p := x.2.1
      if (256 * rf.PAT_FILT_OUTLIER : Nat) < (x.2.2 - p.trend).natAbs then s else
      s.putBin l dir x.1 { p with trend := p.trend + (x.2.2 - p.trend) / sh,
                                  dev := p.dev + (((x.2.2 - p.trend).natAbs : Int) - p.dev) / sh, n := p.n + 1 }) s
    let fric := if 200 ≤ k.fricN then some (k.fricSum * 256 / (k.fricN : Int)) else none
    let s := match fric with
      | some f => s.leafSample l (if dir = 0 then 2 else 3) f
      | none => s
    if dir = 0 then
      let s := (s.leafSample l 0 (k.energy * 256 / 10000)).leafSample l 1 (ms8 k.ms)
      match k.contact with
      | some c => s.leafSample l 7 (256 * c)
      | none => s
    else s

/-- A relief in force sets the field at this place of a register (R262). -/
def State.reliefHolds (off lsb : Nat) (s : State) : Bool := s.cfg.saved.any (fun e => decide (e.off = off) && decide (e.lsb = lsb))

/-- The register field a quantity is commissioned in: row, instance, lowest bit (R258). Q4: of the leaf; Q5 to Q11: of the portal. -/
def quantField (rf : RegFile) (q obj : Nat) : Option (RegRow × Nat × Nat) :=
  match q with
  | 4 => some (Reg.MPG_A_Sk_CUSHION, 4 * obj + 1, 0)
  | 5 => some (Reg.SEQ_P_TIMER0, obj, 0)
  | 6 => some (Reg.SEQ_P_TIMER0, obj, 16)
  | 7 => some (Reg.SEQ_P_TIMER1, obj, 0)
  | 8 => some (Reg.SEQ_P_LOCK, obj, 16)
  | 9 => some (Reg.SEQ_P_TIMER3, obj, 16)
  | 10 => if rf.SEQ_P_CHMAP_LOCK_CH obj < 48 then some (Reg.LSW_C_TIME, rf.SEQ_P_CHMAP_LOCK_CH obj, 0) else none
  | 11 => if rf.SEQ_P_CHMAP_REL_CH obj < 48 then some (Reg.LSW_C_TIME, rf.SEQ_P_CHMAP_REL_CH obj, 0) else none
  | _ => none

/-- Width of a quantity's field. -/
def quantWidth (q : Nat) : Nat := if q = 4 then 32 else if 10 ≤ q then 8 else 16

/-- The value the register of a quantity holds. -/
def quantReg (rf : RegFile) (q obj : Nat) : Nat :=
  match quantField rf q obj with
  | some (r, i, lsb) => rf.fld r i (lsb + quantWidth q - 1) lsb
  | none => 0

/-- The commissioned value: what the register holds, or held before a relief (R262, R420). -/
def State.commissioned (q obj : Nat) (s : State) : Nat :=
  match quantField s.regs q obj with
  | some (r, i, lsb) =>
    match s.cfg.saved.find? (fun e => decide (e.off = r.addr i) && decide (e.lsb = lsb)) with
    | some e => e.value
    | none => quantReg s.regs q obj
  | none => 0

/-- A scalar quantity of the patina: Q4 of a leaf, Q5 to Q11 of a portal. -/
def State.quant (q obj : Nat) (s : State) : Quant :=
  if q = 4 then (s.pat.st.leaves.nth obj).cush else (s.pat.st.portals.nth obj).qs.nth (q - 5)

/-- A scalar quantity stored. -/
def State.setQuant (q obj : Nat) (x : Quant) (s : State) : State :=
  if q = 4 then s.patLeaf obj (fun l => { l with cush := x }) else s.patPortal obj (fun p => { p with qs := p.qs.put (q - 5) x })

/-- The patina's value in use (R259). -/
def State.inUse (q obj : Nat) (s : State) : Nat := ((s.quant q obj).inUse).getD (s.commissioned q obj)

/-- The datum (R259). -/
def State.datum (q obj : Nat) (s : State) : Nat := ((s.quant q obj).datum).getD (s.commissioned q obj)

/-- The value the chip uses: an active relief's goes first (R262). -/
def State.useQ (q obj : Nat) (s : State) : Nat :=
  match quantField s.regs q obj with
  | some (r, i, lsb) => if s.reliefHolds (r.addr i) lsb then quantReg s.regs q obj else s.inUse q obj
  | none => 0

/-- The CUSHION that a move of set k starts with (R189, R258 Q4: sets 1 and 3): of a relief, else the one accepted, else the commissioned. -/
def State.useCushion (a k : Nat) (s : State) : Nat :=
  let reg := s.regs.MPG_A_Sk_CUSHION_CUSHION (4 * a + k)
  if s.reliefHolds (Reg.MPG_A_Sk_CUSHION.addr (4 * a + k)) 0 then reg else ((s.quant 4 a).inUse).getD reg

/-- The trend of a scalar quantity (R258). -/
def State.quantTrend (q obj : Nat) (s : State) : Trend :=
  let t := fun k => (s.pat.st.portals.nth obj).trends.nth k
  match q with
  | 4 => (s.pat.st.leaves.nth obj).trends.nth 7
  | 5 => t 0
  | 6 => t 4
  | 7 => t 5
  | 8 => t 1
  | 9 => t 3
  | 10 => t 6
  | _ => t 7

/-- A trend × a factor in percent, rounded up. -/
def upPct (v : Int) (pct : Nat) : Int := -((-(v * (pct : Int))) / 25600)

/-- The candidate of a scalar quantity (R258). -/
def State.candidate (q obj : Nat) (s : State) : Int :=
  let v := (s.quantTrend q obj).v
  if q = 4 then near8 v + (s.regs.PAT_CUSH_CLR_CUSH_CLR : Nat)
  else if q < 10 then clampI 0 65535 (upPct v s.regs.PAT_TO_LIM_TO_FACTOR)
  else clampI 1 255 (upPct v s.regs.PAT_INR_LIM_INR_FACTOR)

/-- Step and drift limits of a scalar quantity with a datum (R258). -/
def quantLimits (rf : RegFile) (q datum : Nat) : Nat × Nat :=
  if q = 4 then (rf.PAT_CUSH_LIM_CUSH_STEP, rf.PAT_CUSH_LIM_CUSH_DRIFT)
  else if q < 10 then (max (datum * rf.PAT_TO_LIM_TO_STEP / 100) 1, datum * rf.PAT_TO_LIM_TO_DRIFT / 100)
  else (rf.PAT_INR_LIM_INR_STEP, rf.PAT_INR_LIM_INR_DRIFT)

/-- EN of a quantity (R259). -/
def quantOn (rf : RegFile) (q : Nat) : Bool := rf.PAT_CFG_EN.testBit q

/-- The portal of a quantity's object. -/
def quantPortal (q obj : Nat) : Nat := if q ≤ 4 then obj / 2 else obj

/-- The next proposal number of a portal (R263). -/
def State.nextPseq (p : Nat) (s : State) : Nat := ((s.pat.st.portals.nth p).pseq + 1) % 256

/-- Proposal events (R266). -/
def proposalEvent (obj q pseq : Nat) (inUse cand : Int) : Nat × List Byte :=
  (0x0901, p1 obj ++ p1 q ++ p4 (pseq : Nat) ++ p4 inUse ++ p4 cand)

/-- A pending proposal is withdrawn (R260, R261). -/
def State.withdraw (q obj : Nat) (s : State) : State :=
  let x := s.quant q obj
  (s.setQuant q obj { x with pending := false, prop := 0 }).says [(0x0902, p1 obj ++ p1 q ++ p4 (x.pseq : Nat))]

/-- One scalar quantity at a cycle end (R259 to R261). -/
def State.replan (q obj : Nat) (s : State) : State :=
  if (quantField s.regs q obj).isNone then s else
  let datum := s.datum q obj
  if !quantOn s.regs q then
    let s := if (s.quant q obj).pending then s.withdraw q obj else s
    let x := s.quant q obj
    s.setQuant q obj { x with inUse := x.datum }
  else
    let lim := quantLimits s.regs q datum
    let cand := s.candidate q obj
    let near := decide ((cand - (datum : Int)).natAbs ≤ lim.2)
    let s := if (s.quant q obj).pending ∧ near then s.withdraw q obj else s
    let x := s.quant q obj
    if (s.quantTrend q obj).n < max s.regs.PAT_FILT_MIN_SAMPLES 1 ∨ x.pending ∨ x.frozen then s else
    let use : Int := (s.inUse q obj : Nat)
    let step := clampI (-(lim.1 : Int)) (lim.1 : Int) (cand - use)
    if (use + step - (datum : Int)).natAbs ≤ lim.2 then
      if step = 0 then s else s.setQuant q obj { x with inUse := some (use + step).toNat, datum := some datum }
    else
      let p := quantPortal q obj
      let k := s.nextPseq p
      ((s.setQuant q obj { x with pending := true, pseq := k, prop := cand.toNat }).patPortal p (fun y => { y with pseq := k })).says
        [proposalEvent obj q k use cand]

/-- Q0 to Q3: which value of the armature word, and which direction. -/
def State.armQ (q l : Nat) (s : State) : ArmQ :=
  let a := (s.pat.st.leaves.nth l).arm.nth (q % 2)
  if q < 2 then a.expect else a.margin

/-- An armature quantity stored. -/
def State.setArmQ (q l : Nat) (x : ArmQ) (s : State) : State :=
  s.patLeaf l (fun p => { p with arm := p.arm.upd (q % 2) (fun a => if q < 2 then { a with expect := x } else { a with margin := x }) })

/-- The candidate of a bin (R258). -/
def armCand (rf : RegFile) (q : Nat) (b : PatBin) : Int :=
  if q < 2 then clampI (-32768) 32767 (near8 b.trend) else clampI 0 65535 (divNear (b.dev * (rf.PAT_ARM_CFG_MARGIN_K : Nat)) 1024)

/-- The value in use of a bin. -/
def armUse (q w : Nat) : Int := if q < 2 then armExpect w else (armMargin w : Int)

/-- The datum of a bin. -/
def armDatum (q : Nat) (b : PatBin) : Int := if q < 2 then b.datumE else (b.datumM : Int)

/-- An armature word with EXPECT or MARGIN replaced. -/
def armPut (q w : Nat) (v : Int) : Nat := if q < 2 then 65536 * (w / 65536 % 65536) + pattern 16 v else 65536 * pattern 16 v + w % 65536

/-- Step and drift limits of Q0 to Q3. -/
def armLimits (rf : RegFile) (q : Nat) : Nat × Nat :=
  if q < 2 then (rf.PAT_EXP_LIM_STEP, rf.PAT_EXP_LIM_DRIFT) else (rf.PAT_MAR_LIM_STEP, rf.PAT_MAR_LIM_DRIFT)

/-- A pending armature proposal is withdrawn. -/
def State.armWithdraw (q l : Nat) (s : State) : State :=
  let x := s.armQ q l
  (s.setArmQ q l { x with pending := false, words := [] }).says [(0x0902, p1 l ++ p1 q ++ p4 (x.pseq : Nat))]

/-- A step of one bin (R259): the state, and the first bin refused. -/
def State.armStep (q l : Nat) (a : State × Option (Nat × Int × Int)) (b : Nat) : State × Option (Nat × Int × Int) :=
  let s := a.1
  let dir := q % 2
  match s.patBin l dir b, s.armWord l dir b with
  | some x, some w =>
    if x.n < max s.regs.PAT_FILT_MIN_SAMPLES 1 then a else
    let lim := armLimits s.regs q
    let use := armUse q w
    let cand := armCand s.regs q x
    let step := clampI (-(lim.1 : Int)) (lim.1 : Int) (cand - use)
    if (use + step - armDatum q x).natAbs ≤ lim.2 then
      (if step = 0 then s else s.armWrite l dir b (armPut q w (use + step)), a.2)
    else (s, if a.2.isNone then some (b, use, cand) else a.2)
  | _, _ => a

/-- Q0 to Q3 of a leaf at a cycle end (R259 to R261). -/
def State.armReplan (q l : Nat) (s : State) : State :=
  let dir := q % 2
  let touched := ((s.pat.st.leaves.nth l).arm.nth dir).bins.map (fun b => b.1)
  if !quantOn s.regs q then
    let s := if (s.armQ q l).pending then s.armWithdraw q l else s
    touched.foldl (fun (s : State) b =>
      match s.patBin l dir b, s.armWord l dir b with
      | some x, some w => if armUse q w = armDatum q x then s else s.armWrite l dir b (armPut q w (armDatum q x))
      | _, _ => s) s
  else
    let lim := armLimits s.regs q
    let near := touched.all (fun b =>
      match s.patBin l dir b with
      | some x => decide ((armCand s.regs q x - armDatum q x).natAbs ≤ lim.2)
      | none => true)
    let s := if (s.armQ q l).pending ∧ near then s.armWithdraw q l else s
    let x := s.armQ q l
    if x.pending ∨ x.frozen then s else
    let r := touched.foldl (State.armStep q l) (s, none)
    match r.2 with
    | none => r.1
    | some (_, use, cand) =>
      let s := r.1
      let p := l / 2
      let k := s.nextPseq p
      let words := (List.range 512).map (fun b => match s.patBin l dir b with | some y => armCand s.regs q y | none => 0)
      ((s.setArmQ q l { x with pending := true, pseq := k, words := words }).patPortal p (fun y => { y with pseq := k })).says
        [proposalEvent l q k use cand]

/-- A saved state may be kept: an image is loaded and CFG_SKIP is 0 (R265, R455). -/
def State.patKeeps (s : State) : Bool := !s.cfg.noImage && !s.boot.straps.testBit 7

/-- The words in use of the armature bins that the patina tracks: leaf, direction, bin, word (R265). -/
def State.patArms (s : State) : List (Nat × Nat × Nat × Nat) :=
  (List.range 16).flatMap (fun l => (List.range 2).flatMap (fun dir =>
    (((s.pat.st.leaves.nth l).arm.nth dir).bins).filterMap (fun b => (s.armWord l dir b.1).map (fun w => (l, dir, b.1, w)))))

/-- A word of memory 1 belongs to the patina section of a bank (R408). -/
def inSection (bank w : Nat) : Bool :=
  decide (0x7C0000 + 0x20000 * bank + 0x14000 ≤ w) && decide (w < 0x7C0000 + 0x20000 * bank + 0x20000)

/-- The words of a bank's patina section that hold poison or an uncorrectable error. -/
def State.badSection (bank : Nat) (s : State) : List Nat :=
  (s.mem1.store.cells.filter (fun c => inSection bank c.1 && (decide (c.2.cls = .poison) || decide (c.2.cls = .ue)))).map (fun c => c.1)

/-- A section is written to a bank (R265, R408). Its words are full words, which clear what was bad and meet an injection armed for one of
them (R386); the spec lays out no bits of them, so their data are free (log 45). -/
def State.putSection (bank : Nat) (x : Section) (s : State) : State :=
  let u := s.mem1
  let hit := if u.activity = .injection ∧ (u.injAny ∨ inSection bank (u.injAddr / 8)) then
    [if u.injAny then 0x7C0000 + 0x20000 * bank + 0x14000 else u.injAddr / 8] else []
  let ws := hit ++ s.badSection bank
  let m := ws.foldl (fun (a : MemUnit × Nat) w => (a.1.writeFull 1 9 w (BitVec.ofNat 64 (Config.freeValue a.2)), a.2 + 1)) (u, s.freeCount)
  ({ s with mem1 := m.1, freeCount := m.2 } : State).patMod (fun p => { p with sections := p.sections.put bank (some x) })

/-- The patina saves its state to the active bank (R265). -/
def State.patSave (s : State) : State :=
  let s := s.patMod (fun p => { p with saveAsked := false, cycleEnds := 0 })
  if s.patKeeps then s.putSection s.cfg.bank ⟨s.cfg.id, true, s.pat.st, s.patArms⟩ else s

/-- The patina at start-up (R265), after the plinth. A section with a bad word fails its CRC. -/
def State.patRestore (s : State) : State :=
  let s := s.patMod (fun p => { p with portalRun := p.portalRun.map (fun r => { r with contactDf := s.regs.PAT_ARM_CFG_CONTACT_DF }) })
  let fresh := fun (s : State) => s.patMod (fun p => { p with st := .reset })
  if !s.patKeeps then fresh s else
  match s.pat.sections.nth s.cfg.bank with
  | none => fresh s
  | some x =>
    let bad := s.badSection s.cfg.bank
    let s : State := { s with mem1 := bad.foldl (fun (u : MemUnit) w => (u.use s.regs 1 9 w).1) s.mem1 }
    if !x.crcOk || !bad.isEmpty then (fresh s).says [(0x0907, p1 0xFF ++ p1 0xF)]
    else if x.id ≠ s.cfg.id then (fresh s).says [(0x0908, [])]
    else x.arms.foldl (fun (s : State) a => s.armStore a.1 a.2.1 a.2.2.1 a.2.2.2) (s.patMod (fun p => { p with st := x.state }))

/-- The word of memory 0 that holds a trend (part 0), a deviation (1) or a datum (2) of a quantity; Q0 to Q3 have one per bin. R37 keeps
them in working storage, where the spec leaves their places open: free (log 45). -/
def patWord (part q obj bin : Nat) : Nat := 0xA6000 + Config.patPlace part q obj bin % 0x5A000

/-- The words of a quantity that the patina reads at a cycle end (R264). -/
def State.quantWords (q obj : Nat) (s : State) : List Nat :=
  if q < 4 then
    (((s.pat.st.leaves.nth obj).arm.nth (q % 2)).bins).flatMap (fun b => [patWord 0 q obj b.1, patWord 1 q obj b.1, patWord 2 q obj b.1])
  else [patWord 0 q obj 0, patWord 2 q obj 0]

/-- A quantity is frozen (R263). -/
def State.frozen (q obj : Nat) (s : State) : Bool := if q < 4 then (s.armQ q obj).frozen else (s.quant q obj).frozen

/-- FROZEN of a quantity set or cleared. -/
def State.setFrozen (q obj : Nat) (v : Bool) (s : State) : State :=
  if q < 4 then s.setArmQ q obj { s.armQ q obj with frozen := v } else s.setQuant q obj { s.quant q obj with frozen := v }

/-- A poisoned word of a quantity freezes it (R264, R380 code 9). -/
def State.quantPoison (obj : Nat) (s : State) (q : Nat) : State :=
  if s.frozen q obj then s else
  let r := (s.quantWords q obj).foldl (fun (a : MemUnit × Bool) w =>
    let x := a.1.use s.regs 0 9 w
    (x.1, a.2 || x.2.bad)) (s.mem0, false)
  let s : State := { s with mem0 := r.1 }
  if r.2 then (s.setFrozen q obj true).says [(0x0907, p1 obj ++ p1 q)] else s

/-- THAW writes the words of a quantity whole, which clears their poison (R264); their data are free (log 45). -/
def State.quantClean (q obj : Nat) (s : State) : State :=
  let bad := (s.quantWords q obj).filter (fun w => decide ((s.mem0.store.word w).cls = .poison) || decide ((s.mem0.store.word w).cls = .ue))
  let m := bad.foldl (fun (a : MemUnit × Nat) w => (a.1.writeFull 0 9 w (BitVec.ofNat 64 (Config.freeValue a.2)), a.2 + 1)) (s.mem0, s.freeCount)
  { s with mem0 := m.1, freeCount := m.2 }

/-- The results of injections gathered of a leaf (R252, R255). -/
def State.injSamples (l : Nat) (s : State) : State :=
  let xs := (s.pat.leafRun.nth l).inj
  xs.foldl (fun (s : State) x => (s.leafSample l 4 x.1).leafSample l 5 x.2)
    (s.patMod (fun p => { p with leafRun := p.leafRun.upd l (fun r => { r with inj := [] }) }))

/-- A stroke of the present cycle still runs. -/
def LeafRun.inCycle (r : LeafRun) : Bool := (r.stroke.map (fun k => decide (k.part = 1))).getD false

/-- A cycle end leaves a leaf's gathered strokes: none but the one that still runs. -/
def LeafRun.endCycle (r : LeafRun) : LeafRun :=
  { r with done := [], allGood := true, stroke := r.stroke.map (fun k => { k with part := if k.part = 1 then 2 else k.part }) }

/-- The end of a cycle of a portal (R253, R255, R259, R264, R265). A stroke that still runs has not ended with outcome 0, so the cycle is
not valid; its own samples go to the next cycle end. -/
def State.cycleEnd (p : Nat) (s : State) : State :=
  let g := s.pat.portalRun.nth p
  let a := s.pat.leafRun.nth (2 * p)
  let b := s.pat.leafRun.nth (2 * p + 1)
  let valid := g.good && a.allGood && b.allGood && !a.inCycle && !b.inCycle
  let s := b.done.foldl (State.strokeSamples (2 * p + 1)) (a.done.foldl (State.strokeSamples (2 * p)) s)
  let s := (s.injSamples (2 * p)).injSamples (2 * p + 1)
  let s := s.patMod (fun x => { x with leafRun := (x.leafRun.upd (2 * p) LeafRun.endCycle).upd (2 * p + 1) LeafRun.endCycle })
  let ms := fun (x : Option Nat) => x.map ms8
  let s := if valid then
      let s := s.patPortal p (fun y => { y with sampled := satInc 16 y.sampled })
      let s := (((s.portalSample? p 0 (ms g.unlock)).portalSample? p 1 (ms g.lock)).portalSample? p 4 (ms g.opening)).portalSample? p 5
        (ms g.closing)
      let s := if s.regs.SEQ_P_CFG_STEP_MODE p = 0 then s else
        let s := if g.stepN = 0 then s else s.portalSample p 2 (256 * (g.stepSum : Int) / (g.stepN : Int))
        if g.step = 0 then s else s.portalSample p 3 (ms8 g.step)
      (s.portalSample? p 6 (ms g.lockSettle)).portalSample? p 7 (ms g.relSettle)
    else s.patPortal p (fun y => { y with excluded := satInc 16 y.excluded })
  let s := s.patMod (fun x => { x with portalRun := x.portalRun.upd p (fun r =>
    let n := if valid then r.sinceInj + 1 else r.sinceInj
    let due := decide (s.regs.PAT_CFG_INJ_EVERY ≠ 0) && decide (s.regs.PAT_CFG_INJ_EVERY ≤ n)
    { PortalRun.reset with
      sinceInj := if due then 0 else n
      want := if s.regs.PAT_CFG_INJ_EVERY = 0 then 0 else if due then 1 else r.want
      contactDf := s.regs.PAT_ARM_CFG_CONTACT_DF }) })
  let s := [2 * p, 2 * p + 1].foldl (fun (s : State) l =>
    let s := [0, 1, 2, 3, 4].foldl (State.quantPoison l) s
    (((s.armReplan 0 l).armReplan 1 l |>.armReplan 2 l).armReplan 3 l).replan 4 l) s
  let s := [5, 6, 7, 8, 9, 10, 11].foldl (State.quantPoison p) s
  let s := [5, 6, 7, 8, 9, 10, 11].foldl (fun (s : State) q => s.replan q p) s
  let s := s.patMod (fun x => { x with cycleEnds := x.cycleEnds + 1 })
  if s.pat.saveAsked ∨ max s.regs.PAT_CFG_SAVE_EVERY 1 ≤ s.pat.cycleEnds then s.patSave else s

/-- The conditions of R253 on a leaf in one tick. -/
def State.strokeClean (l : Nat) (s : State) : Bool :=
  let d := (s.leaves.nth l).drive
  let b := s.dies.nth (l / 4)
  !(s.leaves.nth l).obs.disturbed && !d.uvHold && !d.pwrLimited && !d.i2tOn && !d.tempDerate && !b.tempShut && !b.ovTrip && !b.uvHold &&
    (s.seq.portals.nth (l / 2)).ref

/-- One tick of a running stroke's samples (R252): one in which stage 4 saw the stroke. -/
def State.strokeTick (l : Nat) (k : Stroke) (s : State) : Stroke :=
  let o := (s.leaves.nth l).obs
  let m := s.moves.nth l
  let pos := (s.leaves.nth l).fbk.posUm
  let f := o.fDir
  let sgn : Int := if k.dir = 1 then 1 else -1
  let bin := armBin s.regs l pos
  let old := (lookupKey bin k.bins).getD (0, 0)
  let cruise := decide (m.phase = .cruise)
  let zone := inEndZone s.regs l 0 (obsDir s.regs l 0) pos
  let lim : Int := ((s.pat.st.leaves.nth l).trends.nth 2).v + 256 * ((s.pat.portalRun.nth (l / 2)).contactDf : Nat)
  { k with
    bins := insertKey bin (old.1 + f, old.2 + 1) k.bins, energy := k.energy + f * (sgn * (pos - k.lastPos)), lastPos := pos,
    fricSum := if cruise then k.fricSum + f else k.fricSum, fricN := if cruise then k.fricN + 1 else k.fricN,
    contact := if k.contact.isNone && decide (k.dir = 0) && zone && decide (lim < 256 * f) then some pos else k.contact,
    good := k.good && s.strokeClean l }

/-- A leaf's samples in one tick of stage 10 (R252, R253). -/
def State.leafGather (l : Nat) (s : State) : State :=
  let m := s.moves.nth l
  let tick := s.time.tick
  let r := s.pat.leafRun.nth l
  let r := match r.stroke with
    | none => r
    | some k =>
      if m.ended ≠ 0 ∧ m.endKind.strokeDir.isSome then
        let k := { s.strokeTick l k with ms := tick - k.start }
        let ok := k.good && decide (m.ended = 1)
        { r with stroke := none, done := if ok && k.plain && decide (k.part ≠ 0) then r.done ++ [k] else r.done
                 allGood := r.allGood && (ok || decide (k.part ≠ 1)) }
      else if m.strokeRuns then { r with stroke := some (s.strokeTick l k) }
      else r
  let r := if r.stroke.isNone && m.strokeRuns then
      let pos := (s.leaves.nth l).fbk.posUm
      let k : Stroke := ⟨(m.kind.strokeDir).getD 0, decide (m.kind = .open) || decide (m.kind = .close), [], 0, tick, 0, 0, 0, none,
        s.strokeClean l, pos, b2n (s.pat.portalRun.nth (l / 2)).opened⟩
      { r with stroke := some k }
    else r
  s.patMod (fun p => { p with leafRun := p.leafRun.put l r })

/-- The settle of a lock or release channel (R252): the wait after a tick, and what it gave. w: 0 none, 1 until the channel conducts,
t + 2 since tick t. -/
def settleTick (v : ChanView) (lim tick w : Nat) (out : Option Nat) : Nat × Option Nat :=
  if w = 0 then (0, out)
  else if w = 1 then (if v.cond then tick + 2 else 1, out)
  else if v.mean < (lim : Int) then (0, some (tick + 2 - w))
  else (w, out)

/-- A portal's samples in one tick of stage 10 (R252, R253); both leaves at their closed end. -/
def State.portalGather (p : Nat) (closed : Bool) (s : State) : State :=
  let x := s.seq.portals.nth p
  let tick := s.time.tick
  let g := s.pat.portalRun.nth p
  let entered := fun (st : PState) => decide (x.st = st) && decide (x.before ≠ st)
  let begins := decide (x.before = .closedLocked) && decide (x.st ≠ .closedLocked)
  let s := if begins ∧ g.opened then s.patMod (fun q => { q with
      leafRun := (q.leafRun.upd (2 * p) LeafRun.endCycle).upd (2 * p + 1) LeafRun.endCycle }) else s
  let g := if begins then { PortalRun.reset with
      opened := true, sinceInj := g.sinceInj, want := if g.want = 2 then 3 else g.want, contactDf := g.contactDf } else g
  let bad := decide (x.st = .obstructed) || decide (x.st = .held) || decide (x.st = .fault) || decide (x.st = .manual) ||
    decide (x.st = .isolated) || decide (x.attempt ≠ 0)
  let m := s.moves.nth (16 + p)
  let st := s.steps.nth p
  let stepRun := m.phase.moving && (decide (m.kind = .deploy) || decide (m.kind = .stow))
  let stepEnd := decide (m.ended ≠ 0) && (decide (m.endKind = .deploy) || decide (m.endKind = .stow)) && decide (g.stepAt ≠ 0)
  let g : PortalRun := { g with
    good := g.good && !bad
    unlockAt := if entered .unlocking then tick else g.unlockAt
    openingAt := if entered .opening then tick else g.openingAt
    closingAt := if entered .closing then tick else g.closingAt
    unlock := if entered .opening ∧ x.before = .unlocking then some (tick - g.unlockAt) else g.unlock
    opening := if entered .opened ∧ x.before = .opening then some (tick - g.openingAt) else g.opening
    closedAt := if entered .closing then 0 else if x.st = .closing ∧ closed ∧ g.closedAt = 0 then tick else g.closedAt
    lock := if x.locked ∧ g.closedAt ≠ 0 ∧ g.lock.isNone then some (tick - g.closedAt) else g.lock
    step := if stepEnd then max g.step (tick + 1 - g.stepAt) else g.step
    stepAt := if stepEnd then 0 else if stepRun ∧ g.stepAt = 0 then tick + 1 else g.stepAt
    stepSum := if stepRun ∧ m.kind = .deploy then g.stepSum + st.iRun else g.stepSum
    stepN := if stepRun ∧ m.kind = .deploy then g.stepN + 1 else g.stepN
    lockWait := if entered .unlocking then 1 else g.lockWait
    relWait := if entered .closing then 1 else g.relWait }
  let lc := s.regs.SEQ_P_CHMAP_LOCK_CH p
  let rc := s.regs.SEQ_P_CHMAP_REL_CH p
  let a := if lc < 48 then settleTick (s.lsw.view.nth lc) (s.regs.LSW_C_LIMIT_I_LIM lc) tick g.lockWait g.lockSettle else (0, g.lockSettle)
  let b := if rc < 48 then settleTick (s.lsw.view.nth rc) (s.regs.LSW_C_LIMIT_I_LIM rc) tick g.relWait g.relSettle else (0, g.relSettle)
  let g : PortalRun := { g with lockWait := a.1, lockSettle := a.2, relWait := b.1, relSettle := b.2 }
  let ends := decide (x.st = .closedLocked) && decide (x.before = .closing) && g.opened
  let g : PortalRun := if ends then { g with closing := some (tick - g.closingAt) } else g
  let dwell := if x.st = .closedLocked ∧ x.locked then g.dwell + 1 else 0
  let s := s.patMod (fun q => { q with portalRun := q.portalRun.put p { g with dwell := dwell } })
  if ends then s.cycleEnd p else s

/-- The row of R163 in force for a leaf, and its mode: the bridge die's own rows go before those of the core die (R163, R164). -/
def State.leafRow (l : Nat) (s : State) : Nat × Nat :=
  let d := s.dies.nth (l / 4)
  let x := (s.leaves.nth l).drive
  if !d.armed then (1, 0)
  else if d.leafTrip.nth (l % 4) then (2, 0)
  else if x.rank = 3 then (3, 0)
  else if d.safe then (4, 2)
  else if d.override.nth (l % 4) then (5, 2)
  else (x.rank, x.mode)

/-- The row of R221 in force for a step, and its mode; a comparator trip switches its own phase off alone. -/
def State.stepRow (p : Nat) (s : State) : Nat × Nat :=
  let d := s.dies.nth (p / 2)
  let x := s.steps.nth p
  if !d.armed then (1, 0)
  else if d.stepTrip.nth (2 * (p % 2)) ∨ d.stepTrip.nth (2 * (p % 2) + 1) then (2, x.mode)
  else if x.rank = 3 then (3, 0)
  else if d.safe then (4, 1)
  else (x.rank, x.mode)

/-- A winding injection may start on a leaf (R183). -/
def State.injectable (l : Nat) (s : State) : Bool :=
  let m := s.moves.nth l
  decide ((s.seq.portals.nth (l / 2)).st = .closedLocked) && !m.phase.moving && decide (8 < (s.leafRow l).1) &&
    decide ((s.leaves.nth l).drive.inj.isNone)

/-- The patina requests a winding injection (R183, R254): it starts where it may. -/
def State.inject (l : Nat) (s : State) : State :=
  if s.injectable l then s.leaf l (fun x => { x with drive := { x.drive with inj := some ⟨0, 0, 0, 0⟩ } }) else s

/-- A leaf's injection is wanted again at the next dwell (R254). -/
def PortalRun.again (slave : Bool) (r : PortalRun) : PortalRun :=
  { r with asked := false, want := if slave then 3 else 1, dwell := 0 }

/-- Requests for injections of a portal in one tick (R254). A request that cannot start is made again as an aborted one is (DEDUCED,
log 45). -/
def State.injectTick (p : Nat) (s : State) : State :=
  let g := s.pat.portalRun.nth p
  let ask := fun (i : Nat) (s : State) => (s.inject (2 * p + i)).patMod (fun q => { q with portalRun := q.portalRun.upd p (fun r =>
    if s.injectable (2 * p + i) then { r with asked := true } else r.again (decide (i = 1))) })
  if g.asked then s
  else if g.want = 1 ∧ g.dwell = 20000 then ask 0 s
  else if (g.want = 2 ∧ g.slaveAt ≤ s.time.tick) ∨ (g.want = 3 ∧ g.dwell = 20000) then ask 1 s
  else s

/-- The winding and on-resistance that an injection gave, at 25 °C, with 8 fractional bits (R252). -/
def LeafDrive.injSample (d : LeafDrive) : Int × Int :=
  let den : Int := 1000000 + 393 * (d.rwindTemp - 250)
  let rw : Int := if den ≤ 0 then (d.rwind : Int) else (d.rwind : Int) * 256 * 1000000 / den
  (rw, ((d.rds.toList.foldl (· + ·) 0 * 256 / 6 : Nat) : Int))

/-- An injection has ended (R252, R254): ok, its samples wait for the next cycle end (R255) and the slave follows the master. -/
def State.injected (l : Nat) (ok : Bool) (s : State) : State :=
  let x := (s.leaves.nth l).drive.injSample
  s.patMod (fun q => { q with
    leafRun := if ok then q.leafRun.upd l (fun r => { r with inj := r.inj ++ [x] }) else q.leafRun
    portalRun := q.portalRun.upd (l / 2) (fun r =>
      if !ok then r.again (decide (l % 2 = 1))
      else { r with asked := false, want := if l % 2 = 0 then 2 else 0, slaveAt := s.time.tick + 1 }) })

/-- SEQ_AUTH grants the SERVICE group for a bank to a port (R87). -/
def serviceAuth (rf : RegFile) (port bank : Nat) : Bool :=
  (if port = 0 then rf.SEQ_AUTH_PORT_A else rf.SEQ_AUTH_PORT_B).testBit (3 * bank + 2)

/-- The number of the proposal that stands for a quantity; none where none is pending. -/
def State.proposal (q obj : Nat) (s : State) : Option Nat :=
  if q < 4 then (let x := s.armQ q obj; if x.pending then some x.pseq else none)
  else (let x := s.quant q obj; if x.pending then some x.pseq else none)

/-- ACCEPT (R263). -/
def State.patAccept (q obj : Nat) (s : State) : State :=
  if q < 4 then
    let x := s.armQ q obj
    let dir := q % 2
    let s := s.setArmQ q obj { x with pending := false, words := [] }
    (List.range 512).foldl (fun (s : State) b =>
      match s.patBin obj dir b, s.armWord obj dir b with
      | some y, some w =>
        let v := x.words.nth b
        if armUse q w = v ∧ armDatum q y = v then s else
        (s.armWrite obj dir b (armPut q w v)).putBin obj dir b (if q < 2 then { y with datumE := v } else { y with datumM := v.toNat })
      | _, _ => s) s
  else
    let x := s.quant q obj
    s.setQuant q obj { x with pending := false, prop := 0, inUse := some x.prop, datum := some x.prop }

/-- REFUSE (R263). -/
def State.patRefuse (q obj : Nat) (s : State) : State :=
  if q < 4 then (let x := s.armQ q obj; s.setArmQ q obj { x with pending := false, frozen := true, words := [] })
  else (let x := s.quant q obj; s.setQuant q obj { x with pending := false, frozen := true, prop := 0 })

/-- The place of a scalar quantity's trend in its object's list. -/
def trendPlace (q : Nat) : Nat :=
  match q with
  | 4 => 7 | 5 => 0 | 6 => 4 | 7 => 5 | 8 => 1 | 9 => 3 | 10 => 6 | _ => 7

/-- THAW (R263, R264): the trend restarts from the value in use. -/
def State.patThaw (q obj : Nat) (s : State) : State :=
  let s := (s.quantClean q obj).setFrozen q obj false
  if q < 4 then
    let dir := q % 2
    (((s.pat.st.leaves.nth obj).arm.nth dir).bins.map (fun b => b.1)).foldl (fun (s : State) b =>
      match s.patBin obj dir b, s.armWord obj dir b with
      | some y, some w =>
        s.putBin obj dir b { y with trend := 256 * armExpect w, n := 0,
                                    dev := 1024 * (armMargin w : Int) / (max s.regs.PAT_ARM_CFG_MARGIN_K 1 : Nat) }
      | _, _ => s) s
  else if q = 4 then s.patLeaf obj (fun l => { l with trends := l.trends.upd 7 Trend.restart })
  else s.patPortal obj (fun p => { p with trends := p.trends.upd (trendPlace q) Trend.restart })

/-- PROP_READ: the proposed words into a page (R263). -/
def State.propRead (q l page port : Nat) (s : State) : State × Bool :=
  let x := s.armQ q l
  let dir := q % 2
  let word := fun (b : Nat) => match s.armWord l dir b with
    | some w => (armPut q w (x.words.nth b), false)
    | none => (armPut q 0 (x.words.nth b), true)
  let ws := (List.range 256).map (fun i =>
    let a := word (2 * i)
    let b := word (2 * i + 1)
    (BitVec.ofNat 64 (a.1 + 4294967296 * b.1), a.2 || b.2))
  ({ s with mem0 := s.mem0.writeWords 0 14 (512 * page) ws, hif := s.hif.setOwner page (hostOf port) }, false)

/-- A PAT command is judged and carried out in stage 10 (R263). -/
def State.patCmd (job : Job) (code : Nat) (s : State) : State :=
  let c := job.cmd
  let w := c.param.toNat
  let q := bitsOf w 3 0
  let pseq := bitsOf w 31 24
  let page := bitsOf w 21 12
  let obj := c.index
  let answer := fun (st : Nat) (s : State) => s.finish ⟨job, st, 0⟩
  let okTarget := (decide (q ≤ 4) && decide (c.level = 1) && decide (obj < 16)) ||
    (decide (4 < q) && decide (q ≤ 11) && decide (c.level = 2) && decide (obj < 8))
  if !okTarget ∨ bitsOf w 11 4 ≠ 0 ∨ bitsOf w 23 22 ≠ 0 ∨ code = 0 ∨ 4 < code ∨
      !serviceAuth s.regs c.port (bankOf s.regs (quantPortal q obj)) then answer 2 s
  else
    let tell := fun (ev : Nat) (s : State) => s.says [(ev, p1 obj ++ p1 q ++ p4 (pseq : Nat) ++ p1 c.port)]
    if code = 1 then (if s.proposal q obj = some pseq then answer 0 (tell 0x0903 (s.patAccept q obj)) else answer 2 s)
    else if code = 2 then (if s.proposal q obj = some pseq then answer 0 (tell 0x0904 (s.patRefuse q obj)) else answer 2 s)
    else if code = 3 then (if s.frozen q obj then answer 0 (s.patThaw q obj) else answer 2 s)
    else if 3 < q ∨ (s.proposal q obj).isNone ∨ s.hif.owner page ≠ 0 then answer 2 s
    else if s.hif.busy.testBit page then answer 1 s
    else answer 0 (s.propRead q obj page c.port).1

end Sys2Proof.Machine
end

