-- ==== Sys2Proof/Machine/Record.lean ====
section
/-! DEFINITION. Cycle records and captures (chapter 16): the open cycles, forming and committing records, the search for the head,
drains, capture units. -/

namespace Sys2Proof.Machine

/-- Slots of the record store (R398). -/
def recSlots : Nat := 507904

/-- First word of a record in memory 1 (R398). -/
def recWord (s : Nat) : Nat := 16 * ((s - 1) % recSlots)

/-- First word of a record in staging (R37): its place by its number is the model's (log 12). -/
def stageWord (s : Nat) : Nat := 0x84C00 + 16 * (s % 64)

/-- REC_OLDEST (R398). -/
def Rec.oldest (r : Rec) : Nat := max 1 (r.commit + 1 - recSlots)

/-- Change of the record writer. -/
def State.recMod (f : Rec → Rec) (s : State) : State := { s with recd := f s.recd }

/-- NT at clock 0 of the present tick, and whether it is valid (R56, R394). -/
def State.ntNow (s : State) : Nat × Bool := s.time.stamp s.regs (10000 * s.time.tick)

/-- A stamp of a phase (R394). -/
def State.phaseStamp (s : State) : Nat × Nat × Bool := (s.time.tick, s.ntNow.1, s.ntNow.2)

/-- A leaf's part with nothing measured. -/
def LeafCyc.empty (pos : Int) : LeafCyc := ⟨none, none, 0, 0, 0, none, none, none, none, pos⟩

/-- A cycle that opens in this tick (R391, R392). -/
def State.newCycle (p : Nat) (continued : Bool) (s : State) : Cycle :=
  let leaf := fun (i : Nat) => LeafCyc.empty (s.leaves.nth (2 * p + i)).fbk.posUm
  ⟨s.time.tick, s.ntNow.1, s.ntNow.2, continued, none, none, none, #v[leaf 0, leaf 1], 0, 0, 0, 0, none, none, none, none, none, 0,
   0, none, none, 0, 0, none, none, none, none, none, none, 0, 0, 0, 0, 0, false⟩

/-- The greater of a value and one that may be absent. -/
def maxOpt (a : Option Int) (x : Int) : Option Int :=
  match a with
  | none => some x
  | some y => some (if y < x then x else y)

/-- The lesser of a value and one that may be absent. -/
def minOpt (a : Option Nat) (x : Nat) : Option Nat :=
  match a with
  | none => some x
  | some y => some (min y x)

/-- One tick of a leaf's part (R394). -/
def LeafCyc.step (tick : Nat) (m : Move) (o : LeafObs) (pos : Int) (c : LeafCyc) : LeafCyc :=
  let c : LeafCyc := if m.ended ≠ 0 then
      match m.endKind.strokeDir with
      | some 1 => { c with timeO := if m.ended = 1 then c.oStart.map (fun t => tick - t) else none }
      | some _ => { c with timeC := if m.ended = 1 then c.cStart.map (fun t => tick - t) else none }
      | none => c
    else c
  let c : LeafCyc := if m.strokeRuns then
      match m.kind.strokeDir with
      | some 1 => { c with peakO := maxOpt c.peakO o.fDir, oStart := some (c.oStart.getD tick), timeO := none }
      | some _ => { c with peakC := maxOpt c.peakC o.fDir, sumC := c.sumC + o.fDir, nC := c.nC + 1,
                           energy := c.energy + o.fDir * (c.lastPos - pos), cStart := some (c.cStart.getD tick), timeC := none }
      | none => c
    else c
  { c with lastPos := pos }

/-- Channels of a portal (R269). -/
def portalChans (rf : RegFile) (p : Nat) : List Nat := indices 48 (fun k => decide (rf.LSW_C_CFG_PORTAL k = p))

/-- The bit of LSW_MASK for a channel of a portal (R394). -/
def chanRole (rf : RegFile) (p k : Nat) : Nat :=
  if k = rf.SEQ_P_CHMAP_LOCK_CH p then 0
  else if k = rf.SEQ_P_CHMAP_REL_CH p then 1
  else if k = rf.SEQ_P_CHMAP_EXT_LAMP p then 2
  else if k = rf.SEQ_P_CHMAP_INT_LAMP p then 3
  else 4

/-- The first trip of a tick (R394): the master's before the slave's. -/
def State.firstTrip (p : Nat) (s : State) : Option (Nat × Nat × Int × Int) :=
  ([0, 1].map (fun i => (i, (s.leaves.nth (2 * p + i)).obs))).findSome? (fun x =>
    if x.2.tripNow % 128 = 0 then none else some (x.2.tripNow, x.1 + 2 * x.2.dir, x.2.tripPos, x.2.fDir))

/-- One tick of an open cycle (R394, R396). closed: both leaves stand at the closed end; trips: channels whose LSW_TRIP came in this
tick; ce, ue: memory errors of the tick. -/
def State.cycleTick (p : Nat) (closed : Bool) (trips : List Nat) (ce ue : Nat) (s : State) (c : Cycle) : Cycle :=
  let rf := s.regs
  let x := s.seq.portals.nth p
  let tick := s.time.tick
  let entered := fun (st : PState) => decide (x.st = st) && decide (x.before ≠ st)
  let now := s.phaseStamp
  let o := fun (i : Nat) => (s.leaves.nth (2 * p + i)).obs
  let tripped := fun (d : Nat) => ([0, 1].filter (fun i => decide ((o i).tripNow ≠ 0) && decide ((o i).dir = d))).length
  let runs := fun (k : Nat) => [0, 1].any (fun i => decide ((o i).react ≠ .none) && decide ((o i).react.code = k))
  let die := s.dies.nth (p / 2)
  let chans := portalChans rf p
  let mine := trips.filter (fun k => chans.contains k)
  let m := s.moves.nth (16 + p)
  let stepEnd := decide (m.ended ≠ 0) && decide (c.stepStart ≠ 0)
  let stepMs := (tick + 1 - c.stepStart) / 20
  let isDeploy := fun (k : MoveKind) => decide (k = .deploy) || decide (k = .redeploy)
  let isStow := fun (k : MoveKind) => decide (k = .stow) || decide (k = .home)
  let stepRuns := m.phase.moving && (isDeploy m.kind || isStow m.kind)
  let fresh := stepRuns && (decide (c.stepStart = 0) || stepEnd)
  let sum := if fresh then 0 else c.stepSum
  let n := if fresh then 0 else c.stepN
  let deploying := stepRuns && decide (m.kind = .deploy)
  let closedAt := if closed then some (c.closedAt.getD tick) else none
  let locks := x.locked && closedAt.isSome
  { c with
    opening := if entered .opening ∧ c.opening.isNone then some now else c.opening
    openAt := if entered .opened ∧ c.openAt.isNone then some now else c.openAt
    closing := if entered .closing then some now else c.closing
    leaf := c.leaf.mapIdx (fun i l => l.step tick (s.moves.nth (2 * p + i)) (o i) (s.leaves.nth (2 * p + i)).fbk.posUm)
    tripsO := c.tripsO + tripped 1
    tripsC := c.tripsC + tripped 0
    reacts := c.reacts ||| (b2n (runs 0) + 2 * b2n (runs 1) + 4 * b2n (runs 2))
    attempt := max c.attempt x.attempt
    first := match c.first with
      | some f => some f
      | none => s.firstTrip p
    unlockAt := if entered .unlocking ∧ c.opening.isNone then some tick else c.unlockAt
    unlockMs := if entered .opening ∧ c.opening.isNone then c.unlockAt.map (fun t => (tick - t) / 20) else c.unlockMs
    closedAt := closedAt
    lockMs := if locks then (match c.lockMs with
      | some v => some v
      | none => closedAt.map (fun t => (tick - t) / 20)) else none
    sigMa := if locks then (if c.lockMs.isNone then x.sigLast else c.sigMa) else 0
    stepStart := if fresh then tick + 1 else if stepEnd then 0 else c.stepStart
    deployMs := if stepEnd && isDeploy m.endKind then some stepMs else c.deployMs
    stowMs := if stepEnd && isStow m.endKind then some stepMs else c.stowMs
    stepSum := if deploying then sum + (s.steps.nth p).iRun else sum
    stepN := if deploying then n + 1 else n
    stepI := if deploying then some ((sum + (s.steps.nth p).iRun) / (n + 1)) else c.stepI
    minMotor := minOpt c.minMotor die.rail
    minLoad := (chans.map (fun k => s.lsw.railMin.nth (k / 8))).foldl minOpt c.minLoad
    minField := minOpt c.minField s.fio.fsV
    maxBridge := maxOpt c.maxBridge die.temp
    maxChan := (chans.map (fun k => (s.lsw.view.nth k).temp)).foldl maxOpt c.maxChan
    lswTrips := c.lswTrips + mine.length
    lswMask := mine.foldl (fun w k => setBit w (chanRole rf p k) true)
      (if chans.any (fun k => decide ((s.lsw.view.nth k).st = .latched)) then setBit c.lswMask 5 true else c.lswMask)
    ce := c.ce + ce
    ue := c.ue + ue
    entered := c.entered ||| (b2n (entered .obstructed) + 2 * b2n (entered .held) + 4 * b2n (entered .fault) +
      8 * b2n (entered .manual) + 16 * b2n (entered .isolated))
    hold := c.hold || die.uvHold || die.tempShut || die.ovTrip || s.time.overrun }

/-- A signed field of two bytes that saturates. -/
def f2 (x : Option Int) : List Byte := p2 (sat16 (x.getD 0))
/-- An unsigned field of k bits that saturates. -/
def satU (k n : Nat) : Nat := min n (2 ^ k - 1)
/-- A time in ms; 0xFFFF where it did not arise. -/
def fMs (x : Option Nat) : List Byte := leBytes 2 (satU 16 (x.getD 65535))

/-- A leaf's part in a record (R394). -/
def LeafCyc.bytes (c : LeafCyc) : List Byte :=
  f2 c.peakO ++ f2 c.peakC ++ f2 (if c.nC = 0 then none else some (divZ c.sumC (c.nC : Int))) ++
    leBytes 2 (satU 16 (divZ c.energy 10000).toNat) ++ fMs (c.timeO.map (· / 20)) ++ fMs (c.timeC.map (· / 20))

/-- The offset of a phase; all ones where the cycle did not reach it (R394). -/
def phaseOffset (start : Nat) (x : Option (Nat × Nat × Bool)) : List Byte :=
  match x with
  | none => leBytes 4 0xFFFFFFFF
  | some y => leBytes 4 (satU 32 (y.1 - start))

/-- The NT of a phase; zero where the cycle did not reach it (R394). -/
def phaseNt (x : Option (Nat × Nat × Bool)) : List Byte := leBytes 4 ((x.map (fun y => y.2.1)).getD 0)

/-- NT_VALID of a phase (R396). -/
def phaseOk (x : Option (Nat × Nat × Bool)) : Nat := b2n ((x.map (fun y => y.2.2)).getD false)

/-- FLAGS of a record (R396). -/
def Cycle.flags (now : Nat × Nat × Bool) (cut after skip : Bool) (c : Cycle) : Nat :=
  2 * b2n cut + 4 * b2n c.continued + 8 * b2n after + 16 * b2n skip + 32 * b2n c.ntStartOk + 64 * phaseOk c.opening +
    128 * phaseOk c.openAt + 256 * phaseOk c.closing + 512 * b2n now.2.2 + 1024 * (c.entered % 32) + 32768 * b2n c.hold

/-- Fields of a record that are measured: offset and size (R394). -/
def recFields : List (Nat × Nat) :=
  [(0x08, 8), (0x10, 4), (0x14, 4), (0x18, 4), (0x1C, 4), (0x20, 4), (0x24, 4), (0x28, 4), (0x2C, 4), (0x30, 4)] ++
  [0x34, 0x36, 0x38, 0x3A, 0x3C, 0x3E, 0x40, 0x42, 0x44, 0x46, 0x48, 0x4A].map (fun o => (o, 2)) ++
  [(0x4C, 1), (0x4D, 1), (0x4E, 1), (0x4F, 1), (0x50, 4)] ++
  [0x54, 0x56, 0x58, 0x5A, 0x5C, 0x5E, 0x60, 0x62, 0x64, 0x66, 0x68, 0x6A].map (fun o => (o, 2)) ++
  [(0x6C, 1), (0x6D, 1), (0x6E, 2), (0x70, 1), (0x71, 1), (0x72, 1), (0x74, 4)]

/-- The source word of a field of a portal's record: in working storage (R37), where the spec leaves its place open (log 45). -/
def sourceWord (p off : Nat) : Nat := 0xA6000 + Config.recPlace p off % 0x5A000

/-- The record writer reads its sources (R397, R380 code 8): the fields whose source was poisoned. -/
def State.readSources (p : Nat) (s : State) : State × List (Nat × Nat) :=
  let r := recFields.foldl (fun (a : MemUnit × List (Nat × Nat)) f =>
    let x := a.1.use s.regs 0 8 (sourceWord p f.1)
    (x.1, if x.2.bad then a.2 ++ [f] else a.2)) (s.mem0, [])
  ({ s with mem0 := r.1 }, r.2)

/-- A new cycle's sources are written whole where they were poisoned; their data are free (log 45). -/
def State.freshSources (p : Nat) (l : List (Nat × Nat)) (s : State) : State :=
  let m := l.foldl (fun (a : MemUnit × Nat) f =>
    (a.1.writeFull 0 14 (sourceWord p f.1) (BitVec.ofNat 64 (Config.freeValue a.2)), a.2 + 1)) (s.mem0, s.freeCount)
  { s with mem0 := m.1, freeCount := m.2 }

/-- All ones in the fields whose source was poisoned (R397). -/
def onesIn (l : List (Nat × Nat)) (body : List Byte) : List Byte :=
  body.mapIdx (fun i b => if l.any (fun f => decide (f.1 ≤ i) && decide (i < f.1 + f.2)) then 0xFF else b)

/-- The bytes of a record (R394, R395, R397); bad: the fields whose source was poisoned. -/
def State.recordBytes (p seq flags : Nat) (cut : Bool) (bad : List (Nat × Nat)) (s : State) (c : Cycle) : List Byte :=
  let rf := s.regs
  let now := s.phaseStamp
  let x := s.seq.portals.nth p
  let slave := decide (rf.MPG_A_GEAR_CFG_MODE p ≠ 0)
  let fst := c.first.getD (0, 0, 0, 0)
  let rel := s.cfg.relief
  let body :=
    leBytes 5 seq ++ leBytes 1 (p + 16 * bankOf rf p) ++ leBytes 2 flags ++ leBytes 8 (10000 * c.start) ++ leBytes 4 c.ntStart ++
    phaseOffset c.start c.opening ++ phaseOffset c.start c.openAt ++ phaseOffset c.start c.closing ++ phaseOffset c.start (some now) ++
    phaseNt c.opening ++ phaseNt c.openAt ++ phaseNt c.closing ++ phaseNt (some now) ++
    (c.leaf.nth 0).bytes ++ (if slave then (c.leaf.nth 1).bytes else leBytes 12 0) ++
    leBytes 1 (16 * satU 4 c.tripsO + satU 4 c.tripsC) ++ leBytes 1 (c.reacts % 8 + 16 * satU 4 c.attempt) ++
    leBytes 1 fst.1 ++ leBytes 1 fst.2.1 ++ p4 (sat32 fst.2.2.1) ++ f2 (some fst.2.2.2) ++
    fMs c.unlockMs ++ fMs c.lockMs ++ f2 (some c.sigMa) ++ fMs c.deployMs ++ fMs c.stowMs ++
    leBytes 2 (satU 16 (c.stepI.getD 0)) ++ leBytes 2 (satU 16 (c.minMotor.getD 0)) ++ leBytes 2 (satU 16 (c.minLoad.getD 0)) ++
    leBytes 2 (satU 16 (c.minField.getD 0)) ++ f2 c.maxBridge ++ f2 c.maxChan ++
    leBytes 1 (satU 8 c.lswTrips) ++ leBytes 1 c.lswMask ++ leBytes 2 (satU 16 c.ce) ++ leBytes 1 (satU 8 c.ue) ++
    leBytes 1 (if cut then 15 else x.before.code) ++ leBytes 1 (if rel < 16 then 16 + rel else 0) ++ leBytes 1 0 ++
    leBytes 4 s.cfg.id ++ leBytes 4 0
  let body := onesIn bad body
  body ++ leBytes 4 (crc32c body)

/-- A record is formed and staged (R391 to R398). -/
def State.formRecord (p : Nat) (cut : Bool) (s : State) (c : Cycle) : State :=
  let src := s.readSources p
  let s := src.1.freshSources p src.2
  let harmed := !src.2.isEmpty
  let r := s.recd
  let seq := r.next
  let after := !r.seen.testBit p
  let flags := c.flags s.phaseStamp cut after r.skipOwed + b2n harmed
  let bytes := s.recordBytes p seq flags cut src.2 c
  let m := s.mem0.writeWords 0 8 (stageWord seq) ((bytesWords 16 bytes).map (fun d => (d, false)))
  let s : State := { s with
    mem0 := m
    recd := { r with next := seq + 1, skipOwed := false, seen := setBit r.seen p true, staged := r.staged ++ [seq],
                     damaged := if harmed then satInc 16 r.damaged else r.damaged
                     cuts := if cut then satInc 16 r.cuts else r.cuts } }
  s.says ((if s.regs.REC_CFG_EVT_EACH = 1 then [(0x0F01, p1 p ++ p4 ((seq % 4294967296 : Nat) : Int) ++ p2 (flags : Nat))] else []) ++
    (if harmed then [(0x0F02, p1 p ++ p4 ((seq % 4294967296 : Nat) : Int))] else []) ++
    (if cut then [(0x0F03, p1 p ++ p4 ((seq % 4294967296 : Nat) : Int))] else []))

/-- The open cycle of a portal set. -/
def State.setCycle (p : Nat) (c : Option Cycle) (s : State) : State := s.recMod (fun r => { r with cycles := r.cycles.put p c })

/-- An open cycle is cut (R392). -/
def State.cutCycle (p : Nat) (s : State) : State :=
  match s.recd.cycles.nth p with
  | none => s
  | some c => (s.formRecord p true c).setCycle p (some (s.newCycle p true))

/-- The record writer's part of a portal in stage 10 (R391, R392). -/
def State.cycleStage (closed : Nat → Bool) (trips : List Nat) (ce ue : Nat) (s : State) (p : Nat) : State :=
  let x := s.seq.portals.nth p
  let opens := decide (x.before = .closedLocked) && decide (x.st ≠ .closedLocked)
  let c := match s.recd.cycles.nth p with
    | some c => some c
    | none => if opens then some (s.newCycle p false) else none
  match c with
  | none => s
  | some c =>
    let c := s.cycleTick p (closed p) trips ce ue c
    let s := s.setCycle p (some c)
    if x.st = .closedLocked ∧ x.before ≠ .closedLocked then (s.formRecord p false c).setCycle p none
    else if 20000 * max s.regs.REC_CFG_CUT_S 1 ≤ s.time.tick - c.start then s.cutCycle p
    else s

/-- A staged record is committed to the store (R397, R398). -/
def State.commitOne (s : State) (seq : Nat) : State :=
  let r := s.mem0.readWords s.regs 0 8 (stageWord seq) 16
  { s with mem0 := r.1, mem1 := s.mem1.writeWords 1 8 (recWord seq) r.2,
           recd := { s.recd with commit := seq, staged := s.recd.staged.filter (fun x => decide (x ≠ seq)) } }

/-- Staged records are committed, eight per tick (R398). -/
def State.commitStaged (s : State) : State := (s.recd.staged.take 8).foldl State.commitOne s

/-- Undrained records of a port (R402). -/
def State.recFrom (port : Nat) (s : State) : Nat := s.regs.REC_P_FROM_LO_SEQ port + 4294967296 * s.regs.REC_P_FROM_HI_SEQ port

/-- REC_P_FROM set by the device. -/
def State.setRecFrom (port n : Nat) (s : State) : State :=
  let rf := s.regs.setWord Reg.REC_P_FROM_LO port (BitVec.ofNat 32 n)
  { s with regs := rf.setWord Reg.REC_P_FROM_HI port (BitVec.ofNat 32 (n / 4294967296 % 256)) }

/-- REC_P_LAG (R402). -/
def State.recLag (port : Nat) (s : State) : Nat := s.recd.commit + 1 - max (s.recFrom port) s.recd.oldest

/-- The lag warning (R402). -/
def State.lagStage (s : State) : State :=
  let lim := 1024 * s.regs.REC_CFG_LAG_WARN
  (List.range 2).foldl (fun (s : State) port =>
    let lag := s.recLag port
    if lim = 0 ∨ lag ≤ lim then s.recMod (fun r => { r with lagging := r.lagging.put port false })
    else if s.recd.lagging.nth port then s
    else (s.recMod (fun r => { r with lagging := r.lagging.put port true })).says [(0x0F05, p1 port ++ p4 (lag : Nat))]) s

/-- A probe of the search of R399: none where the slot cannot be read, else its SEQ (0 where never written). -/
def MemUnit.probe (rf : RegFile) (i : Nat) (u : MemUnit) : MemUnit × Option Nat :=
  let r := u.read rf 1 8 (16 * i)
  (r.1, if r.2.bad then none else some (r.2.data.toNat % 1099511627776))

/-- A probe that moves up past slots that cannot be read (R399): the slot judged, and its SEQ. -/
def MemUnit.probeUp (rf : RegFile) (i : Nat) (u : MemUnit) : Nat → MemUnit × Nat × Nat
  | 0 => (u, i, 0)
  | n + 1 =>
    if recSlots ≤ i then (u, i, 0) else
    let r := u.probe rf i
    match r.2 with
    | some q => (r.1, i, q)
    | none => r.1.probeUp rf (i + 1) n

/-- The binary search of R399: the first slot that is not in sequence lies above lo and at or below hi. base: SEQ of slot 0. -/
def MemUnit.headSearch (rf : RegFile) (base lo hi : Nat) (u : MemUnit) : Nat → MemUnit × Nat
  | 0 => (u, hi)
  | n + 1 =>
    if hi ≤ lo + 1 then (u, hi) else
    let mid := (lo + hi) / 2
    let r := u.probeUp rf mid recSlots
    if r.2.1 < recSlots ∧ r.2.2 = base + r.2.1 then r.1.headSearch rf base r.2.1 (max hi (r.2.1 + 1)) n
    else r.1.headSearch rf base lo mid n

/-- Slots at the boundary that cannot be read are taken as in sequence (R399): the first slot after them. -/
def MemUnit.pastBad (rf : RegFile) (i : Nat) (u : MemUnit) : Nat → MemUnit × Nat
  | 0 => (u, i)
  | n + 1 =>
    if recSlots ≤ i then (u, i) else
    let r := u.probe rf i
    if r.2.isNone then r.1.pastBad rf (i + 1) n else (r.1, i)

/-- The search for the next sequence number at start-up (R399). -/
def State.findHead (s : State) : State :=
  let rf := s.regs
  let z := s.mem1.probeUp rf 0 recSlots
  let first := z.2.2 - z.2.1
  let r := if z.2.2 = 0 then (z.1, z.2.1) else z.1.headSearch rf first z.2.1 recSlots 20
  let k := r.1.pastBad rf r.2 recSlots
  let skip := decide (k.2 ≠ r.2) || (decide (z.2.2 = 0) && decide (z.2.1 ≠ 0))
  let next := if z.2.2 = 0 then 1 + (if z.2.1 = 0 then 0 else k.2) else first + k.2
  let s : State := { s with mem1 := k.1, recd := { s.recd with next := next, commit := next - 1, headValid := true, headSkip := skip,
                                                               skipOwed := skip } }
  let s := (s.setRecFrom 0 s.recd.oldest).setRecFrom 1 s.recd.oldest
  s.says [(0x0F04, p4 ((next % 4294967296 : Nat) : Int) ++ p1 (b2n skip))]

/-- COUNT, PAGE, UNIT of a REC command (R400). -/
def recCount (c : Cmd) : Nat := bitsOf c.param.toNat 31 24
/-- PAGE of a REC command. -/
def recPage (c : Cmd) : Nat := bitsOf c.param.toNat 21 12
/-- UNIT of a REC command. -/
def recUnit (c : Cmd) : Nat := bitsOf c.param.toNat 1 0

/-- REC_AUTH grants a port (R400). -/
def recAuth (rf : RegFile) (port : Nat) : Bool :=
  if port = 0 then decide (rf.REC_AUTH_PORT_A = 1) else decide (rf.REC_AUTH_PORT_B = 1)

/-- A record as read: its SEQ, and whether it is BAD (R401). -/
def recordSeq (ws : List (DWord × Bool)) : Nat := (ws.nth 0).1.toNat % 1099511627776

/-- A record is BAD (R401). -/
def recordBad (ws : List (DWord × Bool)) : Bool :=
  let b := wordBytes ws
  ws.any (fun x => x.2) || ((ws.nth 0).1.toNat).testBit 48 || decide (ofLe (b.drop 124) ≠ crc32c (b.take 124))

/-- A record as read is copied into its slot (R401). -/
def State.drainCopy (ws : List (DWord × Bool)) (d : Drain) (s : State) : State × Drain :=
  ({ s with mem0 := s.mem0.writeWords 0 14 (512 * d.page + 16 * d.copied) ws },
   { d with next := d.next + 1, copied := d.copied + 1, bad := d.bad + b2n (recordBad ws), poison := d.poison || ws.any (fun x => x.2) })

/-- One record of a drain (R401): the state, the drain. A slot that holds a later record sends the drain to the oldest one. -/
def State.drainOne (d : Drain) (s : State) : State × Drain :=
  let r := s.mem1.readWords s.regs 1 14 (recWord d.next) 16
  let s : State := { s with mem1 := r.1 }
  let old := s.recd.oldest
  if d.next < old ∧ (recordSeq r.2 ≠ d.next) then
    let s := s.recMod (fun x => { x with skipped := x.skipped.upd d.job.cmd.port (fun n => satAdd 32 n (old - d.next)) })
    let d : Drain := { d with next := old, overrun := true }
    if d.last < old then (s, d) else
    let r := s.mem1.readWords s.regs 1 14 (recWord old) 16
    ({ s with mem1 := r.1 } : State).drainCopy r.2 d
  else s.drainCopy r.2 d

/-- A drain has copied all it copies. -/
def Drain.allMoved (d : Drain) : Bool := decide (d.last < d.next) || decide (32 * d.count ≤ d.copied)

/-- Some records of a drain. -/
def State.drainRun (s : State) (d : Drain) : Nat → State × Drain
  | 0 => (s, d)
  | n + 1 => if d.allMoved then (s, d) else
    let x := s.drainOne d
    x.1.drainRun x.2 n

/-- RESULT of a drain (R401). -/
def Drain.result (d : Drain) : Nat := satU 16 d.copied + 65536 * satU 8 d.bad + 16777216 * b2n d.overrun

/-- A drain leaves its port (R401): its pages cease to be busy. -/
def State.drainEnd (d : Drain) (status : Nat) (s : State) : State :=
  ({ s with hif := s.hif.setBusy d.page d.count false, recd := { s.recd with drains := s.recd.drains.put d.job.cmd.port none } } :
    State).finish ⟨d.job, status, d.result⟩

/-- A drain completes (R400, R401): the slots left over become zeros, the pages pass to the host. -/
def State.drainFinish (d : Drain) (s : State) : State :=
  let port := d.job.cmd.port
  let m := (List.range (16 * (32 * d.count - d.copied))).foldl (fun (u : MemUnit) i =>
    u.writeFull 0 14 (512 * d.page + 16 * d.copied + i) 0) s.mem0
  let s := ({ s with mem0 := m, hif := s.hif.setOwners d.page d.count (hostOf port) } : State).setRecFrom port d.next
  s.drainEnd d (if d.poison then 3 else 0)

/-- One tick of a port's drain in stage 11 (R347, R401). -/
def State.drainTick (s : State) (port : Nat) : State :=
  match s.recd.drains.nth port with
  | none => s
  | some d =>
    let tick := s.time.tick
    if d.doneAt ≠ 0 ∧ d.doneAt ≤ tick then s.drainFinish d
    else if d.job.cmd.limit ≠ 0 ∧ d.job.born + 20 * d.job.cmd.limit ≤ tick then s.drainEnd d 4
    else
      let x := s.drainRun d 32
      let d := { x.2 with doneAt := if x.2.allMoved then tick + 1 else 0 }
      x.1.recMod (fun r => { r with drains := r.drains.put port (some d) })

/-- A drain copies what is left and completes. -/
def State.drainDone (port : Nat) (s : State) : State :=
  match s.recd.drains.nth port with
  | none => s
  | some d =>
    let x := s.drainRun d (32 * d.count + 1)
    x.1.drainFinish x.2

/-- The pages a REC command names may be taken (R400): REJECTED 2, BUSY 1, else 0. -/
def Hif.pagesFree (h : Hif) (first count : Nat) : Nat :=
  if count = 0 ∨ 1024 < first + count ∨ !h.allOwned first count 0 then 2 else if h.anyBusy first count then 1 else 0

/-- DRAIN (R400, R401). -/
def State.drainCmd (job : Job) (s : State) : State :=
  let c := job.cmd
  let first := recPage c
  let count := recCount c
  let answer := fun (st : Nat) => s.finish ⟨job, st, 0⟩
  if c.level ≠ 4 ∨ c.index ≠ 0 ∨ bitsOf c.param.toNat 11 0 ≠ 0 ∨ bitsOf c.param.toNat 23 22 ≠ 0 ∨ !recAuth s.regs c.port then answer 2
  else if s.hif.pagesFree first count ≠ 0 then answer (s.hif.pagesFree first count)
  else if !s.recd.headValid ∨ (s.recd.drains.nth c.port).isSome then answer 1
  else
    let from' := s.recFrom c.port
    let start := max from' s.recd.oldest
    let d : Drain := ⟨job, first, count, start, s.recd.commit, 0, 0, decide (from' < start), false, 0⟩
    let s : State := { s with hif := s.hif.setBusy first count true, recd := { s.recd with
      drains := s.recd.drains.put c.port (some d), skipped := s.recd.skipped.upd c.port (fun n => satAdd 32 n (start - from')) } }
    s.drainTick c.port

/-- Slots of a capture unit (R403). -/
def Capture.slots (u : Capture) : Nat := u.count * (if u.portal then 128 else 256)

/-- Leaves a unit captures. -/
def Capture.leaves (u : Capture) : List Nat := if u.portal then [2 * u.target, 2 * u.target + 1] else [u.target]

/-- The portal of a unit's target. -/
def Capture.portalOf (u : Capture) : Nat := if u.portal then u.target else u.target / 2

/-- A capture unit set. -/
def State.setUnit (k : Nat) (u : Capture) (s : State) : State := s.recMod (fun r => { r with units := r.units.put k u })

/-- A unit ends (R405, R406): pages pass to the arming host unless its port was reset. -/
def State.captureEnd (k outcome valid : Nat) (s : State) : State :=
  let u := s.recd.units.nth k
  let h := s.hif.setBusy u.page u.count false
  let h := if outcome = 2 then h else h.setOwners u.page u.count (hostOf u.port)
  (({ s with hif := h } : State).setUnit k { u with st := 3, outcome := outcome, valid := valid }).says
    [(0x0F07, p1 k ++ p1 outcome ++ p4 (u.trigIdx : Nat) ++ p4 (valid : Nat))]

/-- PRE of a unit. -/
def State.capPre (k : Nat) (s : State) : Nat := s.regs.REC_U_PRE_PRE k

/-- Samples a unit holds when it is ended before its time. -/
def State.capHeld (k : Nat) (s : State) : Nat :=
  let u := s.recd.units.nth k
  let after := if u.st = 2 then u.slots - s.capPre k - u.left else 0
  min u.slots (u.before + after)

/-- The trigger of a unit's source arises in this tick (R405). -/
def State.capTriggered (k : Nat) (s : State) : Bool :=
  let u := s.recd.units.nth k
  let src := s.regs.REC_U_CFG_TRIG_SRC k
  let x := s.seq.portals.nth u.portalOf
  if src = 1 then u.leaves.any (fun l => decide ((s.leaves.nth l).obs.tripNow ≠ 0))
  else if src = 2 then u.leaves.any (fun l => (s.leaves.nth l).obs.began)
  else if src = 3 then decide (x.st.code = s.regs.REC_U_CFG_TRIG_STATE k) && decide (x.before ≠ x.st)
  else if src = 4 then u.leaves.any (fun l =>
    let c := (s.moves.nth l).cmp
    decide (c.count ≠ 0) && decide (c.dtc = 10000 * s.time.tick))
  else false

/-- A sample of one leaf (R404): two words. -/
def State.sample (l : Nat) (trig : Bool) (s : State) : List DWord :=
  let x := s.leaves.nth l
  let m := s.moves.nth l
  let st := (s.seq.portals.nth (l / 2)).st.code + 16 * m.phase.code
  let fl := x.obs.edge % 4 + 4 * b2n (decide (x.obs.tripNow ≠ 0)) + 8 * b2n (decide (x.obs.react ≠ .none)) + 16 * b2n trig +
    32 * ((s.leafRow l).2 % 8)
  bytesWords 2 (p4 x.fbk.posUm ++ p4 x.fbk.speed ++ p2 (sat16 x.drive.iq) ++ p2 x.obs.fDir ++
    p2 (if x.obs.stroke then sat16 x.obs.th else 0) ++ leBytes 1 st ++ leBytes 1 fl)

/-- A unit takes a sample (R403 to R405); the trigger's sample stamps the capture (R61). -/
def State.capTake (k : Nat) (s : State) : State :=
  let u := s.recd.units.nth k
  if u.st ≠ 1 ∧ u.st ≠ 2 then s else
  let isTrig := decide (u.st = 1) && decide (u.trig ≠ 0)
  let per := if u.portal then 4 else 2
  let m := (u.leaves.flatMap (fun l => s.sample l isTrig)).foldl
    (fun (a : MemUnit × Nat) d => (a.1.writeFull 0 14 a.2 d, a.2 + 1)) (s.mem0, 512 * u.page + per * u.slot)
  let s : State := { s with mem0 := m.1 }
  let n := u.slots
  let pre := s.capPre k
  let dtc := 10000 * s.time.tick
  let nt := s.time.stamp s.regs dtc
  let u' : Capture := if isTrig then { u with st := 2, trigIdx := u.slot, trigDtc := dtc, trigNt := nt.1, trigNtOk := nt.2
                                              left := n - pre } else u
  let s := if isTrig then s.says [(0x0F06, p1 k ++ p1 (u.trig - 1) ++ p4 (u.slot : Nat))] else s
  let u' : Capture := { u' with
    slot := if n ≤ u.slot + 1 then 0 else u.slot + 1
    before := if u'.st = 1 then u.before + 1 else u.before
    left := if u'.st = 2 then u'.left - 1 else u'.left
    wait := max (s.regs.REC_U_CFG_DECIM k) 1 - 1 }
  let s := s.setUnit k u'
  if u'.st = 2 ∧ u'.left = 0 then s.captureEnd k 0 (min u'.before pre + (n - pre)) else s

/-- A capture unit in stage 10 (R403, R405). -/
def State.capTick (s : State) (k : Nat) : State :=
  let u := s.recd.units.nth k
  if u.st ≠ 1 ∧ u.st ≠ 2 then s else
  let u := if u.trig = 0 ∧ s.capTriggered k then { u with trig := s.regs.REC_U_CFG_TRIG_SRC k + 1 } else u
  let s := s.setUnit k u
  if u.wait = 0 then s.capTake k else s.setUnit k { u with wait := u.wait - 1 }

/-- CAP_ARM, CAP_TRIGGER and CAP_STOP (R400, R403 to R406). A unit that is done counts as idle for them (log 21). -/
def State.capCmd (job : Job) (code : Nat) (s : State) : State :=
  let c := job.cmd
  let k := recUnit c
  let u := s.recd.units.nth k
  let first := recPage c
  let count := recCount c
  let idle := decide (u.st = 0) || decide (u.st = 3)
  let answer := fun (st : Nat) (s : State) => s.finish ⟨job, st, 0⟩
  if bitsOf c.param.toNat 11 2 ≠ 0 ∨ bitsOf c.param.toNat 23 22 ≠ 0 then answer 2 s
  else if code = 2 then
    let portal := decide (c.level = 2)
    let p := if portal then c.index else c.index / 2
    if ¬((c.level = 1 ∧ c.index < 16) ∨ (c.level = 2 ∧ c.index < 8)) ∨ !serviceAuth s.regs c.port (bankOf s.regs p) then answer 2 s
    else if s.hif.pagesFree first count ≠ 0 then answer (s.hif.pagesFree first count) s
    else if !idle then answer 1 s
    else
      let n : Capture := ⟨1, c.port, portal, c.index, first, count, 0, 0, 0, 0, 0, 0, 0, 0, false, 0, 0⟩
      if n.slots ≤ s.capPre k then answer 2 s
      else answer 0 (({ s with hif := s.hif.setBusy first count true } : State).setUnit k n)
  else if c.level ≠ 4 ∨ c.index ≠ 0 ∨ first ≠ 0 ∨ count ≠ 0 ∨ c.port ≠ u.port then answer 2 s
  else if code = 3 then
    (if u.st = 1 ∧ u.trig = 0 then answer 0 (s.setUnit k { u with trig := 1 }) else answer 2 s)
  else (if idle then answer 2 s else answer 0 (s.captureEnd k 1 (s.capHeld k)))

/-- A REC command is judged and carried out (R400). -/
def State.recCmd (job : Job) (code : Nat) (s : State) : State :=
  if code = 1 then s.drainCmd job
  else if code = 2 ∨ code = 3 ∨ code = 4 then s.capCmd job code
  else s.finish ⟨job, 2, 0⟩

/-- A port reset ends the units its port armed, and its drain (R338, R406). -/
def State.portResetRec (port : Nat) (s : State) : State :=
  let s := match s.recd.drains.nth port with
    | none => s
    | some d => { s with hif := s.hif.setBusy d.page d.count false, recd := { s.recd with drains := s.recd.drains.put port none } }
  (List.range 4).foldl (fun (s : State) k =>
    let u := s.recd.units.nth k
    if (u.st = 1 ∨ u.st = 2) ∧ u.port = port then s.captureEnd k 2 (s.capHeld k) else s) s

/-- The record writer's part of stage 10. -/
def State.recStage (closed : Nat → Bool) (trips : List Nat) (s : State) : State :=
  let s := s.commitStaged
  let ce := s.mem0.newCe + s.mem1.newCe
  let ue := s.mem0.newUe + s.mem1.newUe
  let s : State := { s with mem0 := { s.mem0 with newCe := 0, newUe := 0 }, mem1 := { s.mem1 with newCe := 0, newUe := 0 } }
  let s := (List.range 8).foldl (State.cycleStage closed trips ce ue) s
  let s := (List.range 4).foldl State.capTick s
  s.lagStage

end Sys2Proof.Machine
end

