-- ==== Sys2Proof/Machine/RegRules.lean ====
section
/-! DEFINITION. The rules of a register's own values (cause 3 of R417, R479) and of running blocks (cause 1), as the register tables
of the chapters give them. -/

namespace Sys2Proof.Machine

/-- A number of an object, or none (R479). -/
def objOrNone (n x none' : Nat) : Bool := decide (x < n) || decide (x = none')

/-- A value in a range, both ends included. -/
def within (lo hi x : Nat) : Bool := decide (lo ≤ x) && decide (x ≤ hi)

/-- Signed 32-bit value of a word that is not negative. -/
def notNegative (x : Nat) : Bool := decide (x < 2147483648)

/-- GEN and TCK registers: the rules of their fields. f: the register file with the written word. -/
def okGenTck (f : RegFile) (b : Nat) : Bool :=
  if b = Reg.GEN_WDT.base then within 1 100 f.GEN_WDT_WD_TIMEOUT
  else if b = Reg.TCK_NT_CFG.base then decide (f.TCK_NT_CFG_MODE ≠ 3)
  else true

/-- The four channels that SEQ_P_CHMAP of a portal names. -/
def chMap (f : RegFile) (p : Nat) : List Nat :=
  [f.SEQ_P_CHMAP_LOCK_CH p, f.SEQ_P_CHMAP_REL_CH p, f.SEQ_P_CHMAP_EXT_LAMP p, f.SEQ_P_CHMAP_INT_LAMP p]

/-- A channel is owned by the sequencer (R270). -/
def ownedBySeq (f : RegFile) (k : Nat) : Bool := (List.range 8).any (fun p => (chMap f p).contains k)

/-- A channel is the lock or release channel of a portal. -/
def lockOrRel (f : RegFile) (k : Nat) : Bool :=
  (List.range 8).any (fun p => decide (f.SEQ_P_CHMAP_LOCK_CH p = k) || decide (f.SEQ_P_CHMAP_REL_CH p = k))

/-- SEQ registers. -/
def okSeq (f : RegFile) (b i : Nat) : Bool :=
  if b = Reg.SEQ_BANK_CFG.base then decide (f.SEQ_BANK_CFG_RELEASE_SRC i ≠ 3) && objOrNone 64 (f.SEQ_BANK_CFG_SYNC_IN i) 255
  else if b = Reg.SEQ_P_INMAP.base then
    objOrNone 64 (f.SEQ_P_INMAP_LOCK_A i) 255 && objOrNone 64 (f.SEQ_P_INMAP_LOCK_B i) 255 &&
      objOrNone 64 (f.SEQ_P_INMAP_EMREL i) 255 && objOrNone 64 (f.SEQ_P_INMAP_ISOL i) 255
  else if b = Reg.SEQ_P_INMAP2.base then objOrNone 64 (f.SEQ_P_INMAP2_REQ i) 255
  else if b = Reg.SEQ_P_CHMAP.base then
    (chMap f i).all (fun k => objOrNone 48 k 255 &&
      (decide (48 ≤ k) || (List.range 8).all (fun p => decide (p = i) || !(chMap f p).contains k))) &&
    [f.SEQ_P_CHMAP_LOCK_CH i, f.SEQ_P_CHMAP_REL_CH i].all (fun k => decide (48 ≤ k) || decide (f.LSW_C_CFG_DIM_SEL k = 15))
  else if b = Reg.SEQ_P_CFG.base then decide (f.SEQ_P_CFG_STEP_MODE i ≠ 3)
  else true

/-- ILK registers. -/
def okIlk (f : RegFile) (b i : Nat) : Bool :=
  if b = Reg.ILK_FB.base then within 1 1000 f.ILK_FB_T_FB && objOrNone 64 f.ILK_FB_FB_IN 255
  else if b = Reg.ILK_WIN.base then within 100 60000 f.ILK_WIN_WIN_SAFE && within 1 20 f.ILK_WIN_WIN_DANGER
  else if b = Reg.ILK_B_MAP.base then
    objOrNone 64 (f.ILK_B_MAP_LOCK_A_EVEN i) 255 && objOrNone 64 (f.ILK_B_MAP_LOCK_B_EVEN i) 255 &&
      objOrNone 64 (f.ILK_B_MAP_LOCK_A_ODD i) 255 && objOrNone 64 (f.ILK_B_MAP_LOCK_B_ODD i) 255
  else true

/-- OBS registers. -/
def okObs (f : RegFile) (b i : Nat) : Bool :=
  if b = Reg.OBS_L_STROKE.base then within 512 2000000 (f.OBS_L_STROKE_STROKE i)
  else if b = Reg.OBS_L_CRIT_C.base then decide (f.OBS_L_CRIT_C_SPD_PCT i ≤ 90)
  else if b = Reg.OBS_L_CRIT_O.base then decide (f.OBS_L_CRIT_O_SPD_PCT i ≤ 90)
  else if b = Reg.OBS_L_MARGIN_C.base then decide (f.OBS_L_MARGIN_C_MARGIN_MIN i ≤ f.OBS_L_MARGIN_C_MARGIN_MAX i)
  else if b = Reg.OBS_L_MARGIN_O.base then decide (f.OBS_L_MARGIN_O_MARGIN_MIN i ≤ f.OBS_L_MARGIN_O_MARGIN_MAX i)
  else if b = Reg.OBS_L_REACT_C.base then decide (f.OBS_L_REACT_C_REACT i ≠ 3)
  else if b = Reg.OBS_L_REACT_O.base then decide (f.OBS_L_REACT_O_REACT i ≠ 3)
  else if b = Reg.OBS_P_CURTAIN.base then objOrNone 64 (f.OBS_P_CURTAIN_CURT_A i) 255 && objOrNone 64 (f.OBS_P_CURTAIN_CURT_B i) 255
  else true

/-- LDR registers. -/
def okLdr (f : RegFile) (b i : Nat) : Bool :=
  if b = Reg.LDR_L_CFG.base then
    decide (f.LDR_L_CFG_POLE_PAIRS i ≠ 0) && decide (f.LDR_L_CFG_IDLE_OPEN i ≠ 3) && decide (f.LDR_L_CFG_IDLE_CLOSED i ≠ 3)
  else if b = Reg.LDR_L_UMREV.base then decide (f.LDR_L_UMREV_UMREV i ≠ 0)
  else if b = Reg.LDR_L_ILIM.base then
    decide (f.LDR_L_ILIM_IQ_MAX i ≤ 6000) && decide (f.LDR_L_ILIM_HOLD_I i ≤ f.LDR_L_ILIM_IQ_MAX i)
  else if b = Reg.LDR_L_OC.base then within 3000 9000 (f.LDR_L_OC_OC_TRIP i)
  else if b = Reg.LDR_L_I2T.base then decide (f.LDR_L_I2T_I_CONT i ≤ 3000) && within 100 60000 (f.LDR_L_I2T_I2T_TAU i)
  else if b = Reg.LDR_L_INJ.base then within 20 2000 (f.LDR_L_INJ_INJ_TICKS i) && decide (f.LDR_L_INJ_ID_INJ i ≤ 3000)
  else if b = Reg.LDR_RAIL_CFG.base then within 2400 15400 f.LDR_RAIL_CFG_NOMINAL
  else if b = Reg.LDR_RAIL_OV.base then
    decide (f.LDR_RAIL_OV_OV_TRIP ≤ 17500) && decide (f.LDR_RAIL_OV_OV_CLAMP < f.LDR_RAIL_OV_OV_TRIP)
  else if b = Reg.LDR_PWR.base then decide (f.LDR_PWR_ID_DUMP ≤ 3000) && decide (f.LDR_PWR_PWR_LIMIT ≤ 4800)
  else if b = Reg.LDR_TEMP_CFG.base then decide (signed 16 f.LDR_TEMP_CFG_T_DERATE < 1500)
  else if b = Reg.LDR_PWM.base then within 50 98 f.LDR_PWM_MOD_MAX && within 10 100 f.LDR_PWM_DEAD
  else true

/-- MPG registers. i of a profile set is 4 × axis + set. -/
def okMpg (f : RegFile) (b i : Nat) : Bool :=
  if b = Reg.MPG_A_LIM_LO.base ∨ b = Reg.MPG_A_LIM_HI.base then
    decide (signed 32 (f.MPG_A_LIM_LO_LIMIT i) < signed 32 (f.MPG_A_LIM_HI_LIMIT i))
  else if b = Reg.MPG_A_Sk_V_START.base then notNegative (f.MPG_A_Sk_V_START_V_START i)
  else if b = Reg.MPG_A_Sk_V_STOP.base then notNegative (f.MPG_A_Sk_V_STOP_V_STOP i)
  else if b = Reg.MPG_A_Sk_V_BREAK.base then notNegative (f.MPG_A_Sk_V_BREAK_V_BREAK i)
  else if b = Reg.MPG_A_Sk_V_MAX.base then notNegative (f.MPG_A_Sk_V_MAX_V_MAX i) && decide (f.MPG_A_Sk_V_MAX_V_MAX i ≠ 0)
  else if b = Reg.MPG_A_Sk_A2.base then decide (f.MPG_A_Sk_A2_A2 i ≠ 0)
  else if b = Reg.MPG_A_Sk_D2.base then decide (f.MPG_A_Sk_D2_D2 i ≠ 0)
  else if b = Reg.MPG_A_Sk_JERK.base then decide (f.MPG_A_Sk_JERK_JERK i ≠ 0)
  else if b = Reg.MPG_A_CMP_CFG.base then decide (f.MPG_A_CMP_CFG_DIR i ≠ 3)
  else if b = Reg.MPG_A_GEAR_CFG.base then decide (f.MPG_A_GEAR_CFG_MODE i ≠ 3)
  else if b = Reg.MPG_A_RATIO1.base then within 0x1000 0x40000 (f.MPG_A_RATIO1_RATIO i)
  else if b = Reg.MPG_A_RATIO2.base then within 0x1000 0x40000 (f.MPG_A_RATIO2_RATIO i)
  else true

/-- The orders of a step's current and load limits (chapter 08). -/
def stepOrders (f : RegFile) (i : Nat) : Bool :=
  decide (f.STP_S_CUR_I_MIN i ≤ f.STP_S_CUR2_I_LOW i) && decide (f.STP_S_CUR2_I_LOW i ≤ f.STP_S_CUR_I_MAX i) &&
    decide (f.STP_S_CUR_I_MAX i ≤ 2500) && decide (f.STP_S_CUR2_I_HOLD i ≤ f.STP_S_CUR_I_MAX i) &&
    decide (f.STP_S_LOADTH_DOWN_TH i < f.STP_S_LOADTH_UP_TH i) && decide (f.STP_S_LOADTH_UP_TH i < f.STP_S_STALL_STALL_TH i) &&
    decide (f.STP_S_STALL_STALL_TH i < 900)

/-- STP registers. -/
def okStp (f : RegFile) (b i : Nat) : Bool :=
  if b = Reg.STP_S_CFG.base then objOrNone 64 (f.STP_S_CFG_HOME_IN i) 255
  else if b = Reg.STP_S_CUR.base ∨ b = Reg.STP_S_CUR2.base ∨ b = Reg.STP_S_LOADTH.base ∨ b = Reg.STP_S_STALL.base then stepOrders f i
  else if b = Reg.STP_S_ADAPT.base then decide (f.STP_S_ADAPT_FILT i ≤ 8)
  else if b = Reg.STP_S_VMIN.base then decide (f.STP_S_VMIN_SG_VMIN i ≠ 0)
  else if b = Reg.STP_S_PWM.base then within 50 98 (f.STP_S_PWM_MOD_MAX i)
  else if b = Reg.STP_S_OC.base then within 2600 4000 (f.STP_S_OC_OC_TRIP i)
  else if b = Reg.STP_S_HOME_DIST.base then decide (f.STP_S_HOME_DIST_HOME_DIST i ≠ 0)
  else true

/-- FBK registers. -/
def okFbk (f : RegFile) (b i : Nat) : Bool :=
  if b = Reg.FBK_FILT.base then within 1 16 f.FBK_FILT_HALL_F && within 1 16 f.FBK_FILT_ENC_F
  else if b = Reg.FBK_E_CFG.base then
    let l := f.FBK_E_CFG_LEAF i
    objOrNone 16 l 255 && (decide (16 ≤ l) || (List.range 8).all (fun e => decide (e = i) || decide (f.FBK_E_CFG_LEAF e ≠ l)))
  else if b = Reg.FBK_E_GEOM.base then decide (f.FBK_E_GEOM_LINES i ≠ 0)
  else true

/-- PAT registers. -/
def okPat (f : RegFile) (b : Nat) : Bool :=
  if b = Reg.PAT_FILT.base then decide (f.PAT_FILT_SHIFT_ARM ≤ 8) && decide (f.PAT_FILT_SHIFT_SCAL ≤ 8)
  else if b = Reg.PAT_ARM_CFG.base then decide (f.PAT_ARM_CFG_MARGIN_K ≠ 0)
  else if b = Reg.PAT_TO_LIM.base then decide (110 ≤ f.PAT_TO_LIM_TO_FACTOR)
  else if b = Reg.PAT_INR_LIM.base then decide (110 ≤ f.PAT_INR_LIM_INR_FACTOR)
  else true

/-- LSW registers. -/
def okLsw (f : RegFile) (b i : Nat) : Bool :=
  if b = Reg.LSW_G_RAIL_CFG.base then within 1200 14000 (f.LSW_G_RAIL_CFG_UV_TH i)
  else if b = Reg.LSW_G_SENSE.base then decide (f.LSW_G_SENSE_MODE i ≠ 3)
  else if b = Reg.LSW_C_CFG.base then
    decide (f.LSW_C_CFG_RETRY_MAX i ≠ 0) && within 1 64 (f.LSW_C_CFG_BASE i) && objOrNone 8 (f.LSW_C_CFG_DIM_SEL i) 15 &&
      (decide (f.LSW_C_CFG_DIM_SEL i = 15) || !lockOrRel f i)
  else if b = Reg.LSW_C_LIMIT.base then
    within 100 6000 (f.LSW_C_LIMIT_I_LIM i) && within (f.LSW_C_LIMIT_I_LIM i) 15000 (f.LSW_C_LIMIT_INR_LIM i)
  else if b = Reg.LSW_C_TIME.base then decide (f.LSW_C_TIME_INR_MS i ≠ 0)
  else if b = Reg.LSW_C_OL.base then within 5 250 (f.LSW_C_OL_OL_TH i)
  else true

/-- FIO registers. -/
def okFio (f : RegFile) (b : Nat) : Bool :=
  if b = Reg.FIO_SUPPLY_CFG.base then within 3 1000 f.FIO_SUPPLY_CFG_FS_REC
  else if b = Reg.FIO_TL_CFG.base then
    within 100000 1400000 (f.FIO_TL_CFG_TL_NOM * f.FIO_TL_CFG_ON_PCT) &&
      within 100000 1400000 (f.FIO_TL_CFG_TL_NOM * f.FIO_TL_CFG_OFF_PCT) && decide (f.FIO_TL_CFG_OFF_PCT < f.FIO_TL_CFG_ON_PCT)
  else true

/-- An object may be enabled beside those that are (R316). -/
def objMayEnable (f : RegFile) (ctl o : Nat) : Bool :=
  !(objTx f ctl o && (objFormat f ctl o).1 && decide (f.CAN_C_CFG_FD_EN ctl = 0)) &&
    (List.range 128).all (fun q => decide (q = o) || !objEnabled f ctl q || objTx f ctl q != objTx f ctl o ||
      decide (objIdent f ctl q ≠ objIdent f ctl o))

/-- CAN registers; g: the register file before the write. -/
def okCan (g f : RegFile) (b i : Nat) : Bool :=
  if b = Reg.CAN_C_NBT.base then
    decide (40 ≤ (f.CAN_C_NBT_NBRP i + 1) * (f.CAN_C_NBT_NTSEG1 i + f.CAN_C_NBT_NTSEG2 i + 3)) &&
      decide (f.CAN_C_NBT_NSJW i ≤ f.CAN_C_NBT_NTSEG2 i)
  else if b = Reg.CAN_C_DBT.base then
    decide (8 ≤ (f.CAN_C_DBT_DBRP i + 1) * (f.CAN_C_DBT_DTSEG1 i + f.CAN_C_DBT_DTSEG2 i + 3)) &&
      decide (f.CAN_C_DBT_DSJW i ≤ f.CAN_C_DBT_DTSEG2 i) && (decide (f.CAN_C_TDC_TDC_EN i = 0) || decide (f.CAN_C_DBT_DBRP i < 2))
  else if b = Reg.CAN_C_TDC.base then decide (f.CAN_C_TDC_TDC_EN i = 0) || decide (f.CAN_C_DBT_DBRP i < 2)
  else if b = Reg.CAN_C_OBJ_EN.base then
    let was := g.CAN_C_OBJ_EN_EN i
    let now := f.CAN_C_OBJ_EN_EN i
    (List.range 32).all (fun k => !now.testBit k || was.testBit k || objMayEnable f (i / 4) (32 * (i % 4) + k))
  else true

/-- HIF registers. -/
def okHif (f : RegFile) (b i : Nat) (w : Word) : Bool :=
  if b = Reg.HIF_R_CFG.base then
    let fixed := decide (i / 64 = f.HIF_CFG_SAFETY_PORT) && decide (i % 64 < 4)
    within 4 12 (f.HIF_R_CFG_SIZE i) && (fixed || within 1 2 (fldW w 3 2))
  else if b = Reg.HIF_R_BASE_LO.base ∨ b = Reg.HIF_R_CQ_LO.base then decide (w.toNat % 64 = 0)
  else true

/-- MEM and REC registers. -/
def okMemRec (f : RegFile) (b i : Nat) (w : Word) : Bool :=
  if b = Reg.MEM_CFG.base then decide (f.MEM_CFG_INIT_EXP ≠ 3)
  else if b = Reg.MEM_M_RANGE_LO.base ∨ b = Reg.MEM_M_RANGE_HI.base ∨ b = Reg.MEM_M_INJ_ADDR.base then decide (w.toNat % 8 = 0)
  else if b = Reg.REC_U_CFG.base then decide (f.REC_U_CFG_TRIG_SRC i ≤ 4)
  else true

/-- The rules of a register's own fields (R417 cause 3, R479). f: the file with the written word w in instance i of row r. -/
def valueOk (g f : RegFile) (r : RegRow) (i : Nat) (w : Word) : Bool :=
  let b := r.base
  match b / 65536 with
  | 0 | 1 => okGenTck f b
  | 2 => okSeq f b i
  | 3 => okIlk f b i
  | 4 => okObs f b i
  | 5 => okLdr f b i
  | 6 => okMpg f b i
  | 7 => okStp f b i
  | 8 => okFbk f b i
  | 9 => okPat f b
  | 10 => okLsw f b i
  | 11 => okFio f b
  | 12 => okCan g f b i
  | 13 => okHif f b i w
  | 14 | 15 => okMemRec f b i w
  | _ => true

/-- A portal is in a state other than ISOLATED. -/
def State.portalRuns (p : Nat) (s : State) : Bool := decide ((s.seq.portals.nth p).st ≠ .isolated)

/-- Any portal is in a state other than ISOLATED. -/
def State.anyPortalRuns (s : State) : Bool := (List.range 8).any (fun p => s.portalRuns p)

/-- A leaf's mode is DRIVE or INJECT. -/
def State.leafRuns (l : Nat) (s : State) : Bool :=
  let m := (s.leafRow l).2
  decide (m = 3) || decide (m = 4)

/-- A stroke or a reaction runs on a leaf. -/
def State.obsRuns (l : Nat) (s : State) : Bool :=
  let o := (s.leaves.nth l).obs
  o.stroke || decide (o.react ≠ .none)

/-- A portal names a field input in a SEQ, OBS or STP register (chapter 12). -/
def namesInput (f : RegFile) (p i : Nat) : Bool :=
  decide (f.SEQ_P_INMAP_LOCK_A p = i) || decide (f.SEQ_P_INMAP_LOCK_B p = i) || decide (f.SEQ_P_INMAP_EMREL p = i) ||
    decide (f.SEQ_P_INMAP_ISOL p = i) || decide (f.SEQ_P_INMAP2_REQ p = i) || decide (f.OBS_P_CURTAIN_CURT_A p = i) ||
    decide (f.OBS_P_CURTAIN_CURT_B p = i) || decide (f.STP_S_CFG_HOME_IN p = i) ||
    (portalOn f p && decide (f.SEQ_BANK_CFG_SYNC_IN (bankOf f p) = i))

/-- A lock or feedback input of the interlock. -/
def ilkInput (f : RegFile) (i : Nat) : Bool :=
  decide (f.ILK_FB_FB_IN = i) || (List.range 8).any (fun p => f.ILK_CFG_SCOPE.testBit p &&
    (decide (f.SEQ_P_INMAP_LOCK_A p = i) || decide (f.SEQ_P_INMAP_LOCK_B p = i) || decide ((bMap f p).1 = i) || decide ((bMap f p).2 = i)))

/-- A channel's state is not OFF, as the core die holds it. -/
def State.chanRuns (k : Nat) (s : State) : Bool := decide ((s.lsw.view.nth k).st ≠ .off)

/-- The block of a register counts as running for it (cause 1 of R417). A capture unit that is done counts as idle for REC_U_CFG and
REC_U_PRE (DESIGN CHOICE, log 21). -/
def State.blockRuns (r : RegRow) (i : Nat) (s : State) : Bool :=
  let f := s.regs
  let b := r.base
  match b / 65536 with
  | 1 => decide (f.TCK_NT_CFG_MODE ≠ 0)
  | 2 => if b < Reg.SEQ_P_INMAP.base then s.anyPortalRuns else s.portalRuns i
  | 3 => decide (s.ilk.st = .closed)
  | 4 => if b = Reg.OBS_P_CURTAIN.base then s.obsRuns (2 * i) || s.obsRuns (2 * i + 1) else s.obsRuns i
  | 5 => if b < Reg.LDR_CTRL.base then s.leafRuns i else (List.range 16).any (fun l => s.leafRuns l)
  | 6 =>
    let runs := fun (a : Nat) => decide ((s.moves.nth a).phase ≠ .idle)
    if r.stride = 0x800 then runs (2 * i) || runs (2 * i + 1)
    else if r.inner = 4 then runs (i / 4) else runs i
  | 7 => decide ((s.steps.nth i).mode = 3)
  | 8 =>
    if b = Reg.FBK_FILT.base then (List.range 16).any (fun l => s.leafRuns l)
    else if b < Reg.FBK_E_CFG.base then s.leafRuns i
    else decide (f.FBK_E_CFG_LEAF i < 16) && s.leafRuns (f.FBK_E_CFG_LEAF i)
  | 10 =>
    if b = Reg.LSW_DIM_CFG.base then (List.range 48).any (fun k => decide (f.LSW_C_CFG_DIM_SEL k < 8) && s.chanRuns k)
    else if b < Reg.LSW_C_CFG.base then (List.range 8).any (fun k => s.chanRuns (8 * i + k))
    else s.chanRuns i
  | 11 =>
    if b < Reg.FIO_F_CFG.base then s.anyPortalRuns
    else if b = Reg.FIO_F_CFG.base then
      (List.range 8).any (fun p => s.portalRuns p && namesInput f p i) || (decide (s.ilk.st = .closed) && ilkInput f i)
    else s.fio.outCmd.testBit i
  | 12 =>
    let on := fun (c : Nat) => decide ((s.cans.nth c).mode ≠ 0)
    if r.inner = 128 then on (i / 128) && (f.CAN_C_OBJ_EN_EN (4 * (i / 128) + i % 128 / 32)).testBit (i % 32)
    else on i
  | 13 =>
    if r.inner = 64 then decide ((s.hif.ringOf (i / 64) (i % 64)).st ≠ .disabled)
    else (List.range 128).any (fun k => decide ((s.hif.ringOf (k / 64) (k % 64)).st ≠ .disabled))
  | 14 =>
    if b < Reg.MEM_M_RANGE_LO.base then false
    else decide ((if i = 0 then s.mem0 else s.mem1).activity ≠ .none)
  | 15 =>
    if b = Reg.REC_AUTH.base then (List.range 2).any (fun p => (s.recd.drains.nth p).isSome)
    else if b < Reg.REC_U_CFG.base then (s.recd.drains.nth i).isSome
    else if b < Reg.CFG_CTRL.base then
      let u := s.recd.units.nth i
      decide (u.st = 1) || decide (u.st = 2)
    else s.cfg.request.isSome || s.cfg.install.isSome
  | _ => false

/-- The rules of a register's own value that look at more than the registers (R314, R417, R436, chapter 16). -/
def State.stateOk (f : RegFile) (r : RegRow) (i : Nat) (s : State) : Bool :=
  let b := r.base
  if b = Reg.SEQ_BANK_MAP.base then !s.boot.storm || decide (f.SEQ_BANK_MAP_PORTAL_EN = 0)
  else if b = Reg.CAN_C_MODE.base then !(s.cans.nth i).busOff
  else if b = Reg.REC_P_FROM_LO.base ∨ b = Reg.REC_P_FROM_HI.base then
    decide (f.REC_P_FROM_LO_SEQ i + 4294967296 * f.REC_P_FROM_HI_SEQ i ≤ s.recd.next)
  else true

end Sys2Proof.Machine
end

