-- ==== Sys2Proof/Machine/Bridge.lean ====
section
/-! DEFINITION. The bridge dies: gate words, safe state, comparators, sensitive edges (R24, R44, R45, R144 to R147, R161, R175, R222);
what stage 1 takes from them: streams, rail, temperature, trips, edge classes (R19, R176 to R181, R223). -/

namespace Sys2Proof.Machine

/-- Change of one bridge die. -/
def State.die (b : Nat) (f : BridgeDie → BridgeDie) (s : State) : State := { s with dies := s.dies.upd b f }

/-- Change of one axis' move. -/
def State.move (a : Nat) (f : Move → Move) (s : State) : State := { s with moves := s.moves.upd a f }

/-- Change of one step drive. -/
def State.stepD (p : Nat) (f : StepDrive → StepDrive) (s : State) : State := { s with steps := s.steps.upd p f }

/-- The override of each edge as a word is loaded (R146): ended by ACK, begun where ARM meets a class other than NORMAL. -/
def BridgeDie.overrides (d : BridgeDie) : BridgeDie :=
  { d with override := d.override.mapIdx (fun j o =>
      (o && !d.loaded.edgeAck.testBit j) || (d.loaded.edgeArm.testBit j && decide (d.edge.nth j ≠ 0))) }

/-- The die enables its gate drivers where the three conditions of R161 hold; it also ends the safe state (R24). -/
def BridgeDie.tryArm (d : BridgeDie) : BridgeDie :=
  if d.vdrvOk ∧ 16 ≤ d.good ∧ d.loaded.arm then { d with armed := true, armedOnce := true, safe := false } else d

/-- The die is armed in the present tick, as the core die's stages take it (R440): it stands armed, or the words now in force arm it at
its first carrier period, which the model runs after the stages of the tick (log 7). -/
def BridgeDie.armedNow (d : BridgeDie) : Bool := d.armed || (d.vdrvOk && decide (15 ≤ d.good) && (d.now.nth 0).arm)

/-- The first arming since the last reset of the core die lies in the present tick or before it (R196). -/
def BridgeDie.armedYet (d : BridgeDie) : Bool := d.armedOnce || d.armedNow

/-- The safe state after two missed words (R24). -/
def BridgeDie.makeSafe (d : BridgeDie) : BridgeDie := if 2 ≤ d.missed then { d with safe := true } else d

/-- A carrier period starts (R24, R45, R146, R161, R175): the word of this half of the tick is loaded, comparator trips end. -/
def BridgeDie.period (half : Nat) (valid : Bool) (d : BridgeDie) : BridgeDie :=
  let d : BridgeDie := { d with half := half % 2, leafTrip := Vector.replicate 4 false, stepTrip := Vector.replicate 4 false }
  if valid then
    let d : BridgeDie := { d with loaded := d.now.nth (half % 2), good := d.good + 1, missed := 0 }
    d.overrides.tryArm
  else
    let d : BridgeDie := { d with good := 0, missed := d.missed + 1 }
    d.makeSafe

/-- The core die sends gate timing words: it runs, or is in link-up (R439). -/
def State.sendsWords (s : State) : Bool :=
  match s.boot.phase with
  | .linkUp _ => true | .first => true | .running => true
  | .deviceReset => false | .coreReset => false | .testMode => false

/-- A carrier period starts on a die. Held in device reset, a die loads nothing. -/
def State.carrierPeriod (b half : Nat) (valid : Bool) (s : State) : State :=
  if s.boot.phase = .deviceReset then s else s.die b (BridgeDie.period half (valid && s.sendsWords))

/-- Trips of a tick as two digits in base 8, one for each carrier period: 0, or the phase that tripped first plus one, and 4 more where
the sensitive-edge override stood (R163 rank 5, R165). -/
def tripDigit (code half phase : Nat) (braked : Bool) : Nat :=
  if (code / 8 ^ half) % 8 ≠ 0 then code else code + 8 ^ half * (phase % 3 + 1 + 4 * b2n braked)

/-- A leaf's comparator trips (R175): off until the next carrier period. j: leaf of the die. -/
def BridgeDie.leafTripped (j phase : Nat) (d : BridgeDie) : BridgeDie :=
  { d with leafTrip := d.leafTrip.put j true, leafTrips := d.leafTrips.upd j (fun c => tripDigit c d.half phase (d.override.nth j)) }

/-- A stepper phase's comparator trips (R222). k: stepper of the die; phase 0 A, 1 B. -/
def BridgeDie.stepTripped (k phase : Nat) (d : BridgeDie) : BridgeDie :=
  { d with stepTrip := d.stepTrip.put (2 * k + phase) true, stepTrips := d.stepTrips.upd k (fun c => tripDigit c d.half phase false) }

/-- The class of a loop resistance in Ω (R144): 0 normal, 1 actuated, 2 wire break, 3 out of band. -/
def edgeClass (ohms : Nat) : Nat :=
  if ohms < 2000 then 1 else if ohms < 6500 then 3 else if ohms ≤ 10500 then 0 else if ohms ≤ 20000 then 3 else 2

/-- A sensitive edge takes a new class (R144, R146), and the die reports it (R147). -/
def BridgeDie.edgeTo (j cls : Nat) (d : BridgeDie) : BridgeDie :=
  if d.edge.nth j = cls then d else
  { d with edge := d.edge.put j cls, seen := d.seen.upd j (fun l => l ++ [cls]),
           override := d.override.upd j (fun o => o || (d.loaded.edgeArm.testBit j && decide (cls ≠ 0))) }

/-- The loop resistance of an edge has stood for a time in ns (R144): a class is taken once it has held for 1.0 µs. -/
def BridgeDie.edgeMeasured (j ohms ns : Nat) (d : BridgeDie) : BridgeDie := if 1000 ≤ ns then d.edgeTo j (edgeClass ohms) else d

/-- What half-bridge h of a die does now (R24, R146, R161, R163, R165, R175, R222): the gate drivers are disabled while the die is not
armed; a comparator trip, then the safe state, then a sensitive-edge override go before the word loaded. -/
def BridgeDie.leg (h : Nat) (d : BridgeDie) : Leg :=
  if !d.armed || !d.vdrvOk then .off
  else if (if h < 12 then d.leafTrip.nth (h / 3) else d.stepTrip.nth ((h - 12) / 2)) then .off
  else if d.safe || (decide (h < 12) && d.override.nth (h / 3)) then .low
  else d.loaded.legs.nth h

/-- The gate words built in the last tick come into force (R45); trips of the last tick are taken by stage 1. -/
def BridgeDie.newTick (d : BridgeDie) : BridgeDie :=
  { d with measWin := (d.now.nth 0).meas, now := d.next }

/-- One tick of a link 0 to 3 (R19). -/
def Link.streams (n : Nat) (x : DieIn) (l : Link) : Link × List Ev :=
  let stale := l.stale.mapIdx (fun j k => if x.bad.testBit j then k + 1 else 0)
  let clean := decide (x.bad % 2 ^ 18 = 0)
  let l : Link := { l with errors := satAdd 16 l.errors x.discards, stale := stale, good := if clean then l.good + 1 else 0 }
  if !l.fault && stale.toList.any (fun k => decide (3 ≤ k)) then
    ({ l with fault := true, sticky := true, up := false }, [(0x0001, p1 n)])
  else if l.fault && decide (2 ≤ l.good) then ({ l with fault := false, up := true }, [(0x0002, p1 n)])
  else if !l.fault then ({ l with up := true }, [])
  else (l, [])

/-- The controlled hold is declared (R177). -/
def BridgeDie.uvDeclare (b tick : Nat) (d : BridgeDie) : BridgeDie × List Ev :=
  if d.uvHold then (d, []) else
  ({ d with uvHold := true, uvSince := tick, uvGood := 0 }, [(0x0501, p1 b ++ p2 (d.rail : Nat))])

/-- The controlled hold ends (R179). -/
def BridgeDie.uvEnd (b tick : Nat) (d : BridgeDie) : BridgeDie × List Ev :=
  if d.uvHold then ({ d with uvHold := false, uvRun := 0, uvGood := 0 }, [(0x0502, p1 b ++ p4 (tick - d.uvSince : Nat))])
  else (d, [])

/-- The over-voltage trip (R180). -/
def BridgeDie.ovDeclare (b : Nat) (d : BridgeDie) : BridgeDie × List Ev :=
  if d.ovTrip then (d, []) else ({ d with ovTrip := true, ovGood := 0 }, [(0x0508, p1 b ++ p2 (d.rail : Nat))])

/-- The over-voltage trip ends (R180). -/
def BridgeDie.ovEnd (d : BridgeDie) : BridgeDie := { d with ovTrip := false, ovGood := 0 }

/-- The rail of a window (R177 to R180). -/
def BridgeDie.railStep (rf : RegFile) (b tick : Nat) (d : BridgeDie) : BridgeDie × List Ev :=
  let nom := rf.LDR_RAIL_CFG_NOMINAL
  let d : BridgeDie := { d with uvRun := if 10 * d.rail < 6 * nom then d.uvRun + 1 else 0,
                                uvGood := if 7 * nom ≤ 10 * d.rail then d.uvGood + 1 else 0,
                                ovGood := if d.rail < rf.LDR_RAIL_OV_OV_CLAMP then d.ovGood + 1 else 0,
                                ovClamp := decide (rf.LDR_RAIL_OV_OV_CLAMP < d.rail) }
  let r := if d.uvHold then (if max rf.LDR_RAIL_CFG_UV_RECOVER 1 ≤ d.uvGood then d.uvEnd b tick else (d, []))
    else if 2 ≤ d.uvRun then d.uvDeclare b tick else (d, [])
  if rf.LDR_RAIL_OV_OV_TRIP < d.rail then
    let q := r.1.ovDeclare b
    (q.1, r.2 ++ q.2)
  else if r.1.ovTrip ∧ 200 ≤ r.1.ovGood then (r.1.ovEnd, r.2)
  else r

/-- The temperature of a die (R181). -/
def BridgeDie.tempStep (rf : RegFile) (b : Nat) (d : BridgeDie) : BridgeDie × List Ev :=
  let warn : Int := (rf.LDR_TEMP_CFG_T_WARN : Nat)
  let e0 : List Ev := if !d.tempWarn && decide (warn ≤ d.temp) then [(0x0505, p1 b ++ p2 d.temp)] else []
  let d : BridgeDie := { d with tempWarn := if d.tempWarn then decide (warn - 50 ≤ d.temp) else decide (warn ≤ d.temp) }
  if !d.tempShut && decide (1500 ≤ d.temp) then ({ d with tempShut := true }, e0 ++ [(0x0506, p1 b ++ p2 d.temp)])
  else if d.tempShut && decide (d.temp < 1300) then ({ d with tempShut := false }, e0 ++ [(0x0507, p1 b ++ p2 d.temp)])
  else (d, e0)

/-- The over-current latch of a leaf is set (R176). -/
def LeafDrive.latchOc (leaf phase : Nat) (d : LeafDrive) : LeafDrive × List Ev :=
  if d.ocLatched then (d, []) else ({ d with ocLatched := true, ocPhase := phase }, [(0x0503, p1 leaf ++ p1 phase)])

/-- A carrier period of a leaf: its digit of the trips (R176). It counts toward the latch by the row of R163 in force in it (R165). -/
def LeafDrive.periodTrip (rf : RegFile) (leaf x : Nat) (d : LeafDrive) : LeafDrive × List Ev :=
  if x = 0 then ({ d with ocRun := 0 }, []) else
  let counted := (d.rankMid = 9 ∨ d.rankMid = 10) ∧ x < 4
  let d : LeafDrive := { d with ocCount := satInc 16 d.ocCount, ocPhase := if d.ocRun = 0 then x % 4 - 1 else d.ocPhase,
                                ocRun := if counted then d.ocRun + 1 else 0 }
  if counted ∧ max (rf.LDR_L_OC_OC_LATCH leaf) 1 ≤ d.ocRun then d.latchOc leaf d.ocPhase else (d, [])

/-- The over-current latch of a step is set (R223). -/
def StepDrive.latchOc (step phase : Nat) (d : StepDrive) : StepDrive × List Ev :=
  if d.ocLatched then (d, []) else ({ d with ocLatched := true, ocPhase := phase }, [(0x0703, p1 step ++ p1 phase)])

/-- A carrier period of a step: its digit of the trips (R222, R223), by the mode in force in it. -/
def StepDrive.periodTrip (rf : RegFile) (step x : Nat) (d : StepDrive) : StepDrive × List Ev :=
  if x = 0 then ({ d with ocRun := 0 }, []) else
  let counted := d.modeMid = 2 ∨ d.modeMid = 3
  let d : StepDrive := { d with ocCount := satInc 16 d.ocCount, ocPhase := if d.ocRun = 0 then x - 1 else d.ocPhase,
                                ocRun := if counted then d.ocRun + 1 else 0 }
  if counted ∧ max (rf.STP_S_OC_OC_LATCH step) 1 ≤ d.ocRun then d.latchOc step d.ocPhase else (d, [])

/-- Change of one leaf's drive with its events. -/
def State.driveEv (l : Nat) (f : LeafDrive → LeafDrive × List Ev) (s : State) : State :=
  let r := f (s.leaves.nth l).drive
  (s.leaf l (fun x => { x with drive := r.1 })).says r.2

/-- Change of one step drive with its events. -/
def State.stepEv (p : Nat) (f : StepDrive → StepDrive × List Ev) (s : State) : State :=
  let r := f (s.steps.nth p)
  (s.stepD p (fun _ => r.1)).says r.2

/-- Change of one bridge die with its events. -/
def State.dieEv (b : Nat) (f : BridgeDie → BridgeDie × List Ev) (s : State) : State :=
  let r := f (s.dies.nth b)
  (s.die b (fun _ => r.1)).says r.2

/-- OBS_EDGE_CLASS of the changes from a class through a list of classes (R158). -/
def edgeEvents (leaf : Nat) : Nat → List Nat → List Ev
  | _, [] => []
  | old, c :: l => if c = old then edgeEvents leaf old l else (0x0404, p1 leaf ++ p1 old ++ p1 c) :: edgeEvents leaf c l

/-- The classes of a leaf's edge as stage 1 takes them (R144, R147): every one captured in the last tick, and the one that stands. -/
def State.takeEdge (s : State) (l : Nat) : State :=
  let d := s.dies.nth (l / 4)
  let fitted := decide (s.regs.OBS_L_EDGE_PRESENT l = 1)
  let cls := if fitted then d.edge.nth (l % 4) else 0
  let took := if fitted then d.seen.nth (l % 4) ++ [cls] else [0]
  let mask := took.foldl (fun m c => setBit m c true) 0
  let s := s.die (l / 4) (fun d => { d with seen := d.seen.put (l % 4) [] })
  (s.leaf l (fun x => { x with obs := { x.obs with edge := cls, edges := mask } })).says (edgeEvents l (s.leaves.nth l).obs.edge took)

/-- A die in its safe state is reported once (R31, GEN_LINK_STATUS.AUTONOMOUS). -/
def State.learnSafe (b : Nat) (safe : Bool) (s : State) : State :=
  let was := s.links.autonomous.testBit b
  let s : State := { s with links := { s.links with autonomous := setBit s.links.autonomous b safe } }
  if safe && !was then s.says [(0x0004, p1 b)] else s

/-- Stage 1 for one bridge die. -/
def State.dieIntake (s : State) (b : Nat) (x : DieIn) : State :=
  let rf := s.regs
  let r := (s.links.l.nth b).streams b x
  let s : State := ({ s with links := { s.links with l := s.links.l.put b r.1 } } : State).says r.2
  let bad := fun (j : Nat) => x.bad.testBit j
  let meas := decide ((s.dies.nth b).measWin ≠ 0)
  let s := s.die b (fun d =>
    { d with phases := d.phases.mapIdx (fun j v => if bad j then v else sat16 (x.phases.nth j)),
             rail := if meas || bad 16 then d.rail else x.rail % 65536,
             temp := if bad 17 then d.temp else sat16 x.temp })
  let s := if meas then s else s.dieEv b (BridgeDie.railStep rf b s.time.tick)
  let s := s.dieEv b (BridgeDie.tempStep rf b)
  let s := s.learnSafe b (s.dies.nth b).safe
  let s := (List.range 4).foldl (fun (s : State) j =>
    let code := (s.dies.nth b).leafTrips.nth j
    let l := 4 * b + j
    let s := s.driveEv l (LeafDrive.periodTrip rf l (code % 8))
    let s := s.driveEv l (LeafDrive.periodTrip rf l (code / 8 % 8))
    s.takeEdge l) s
  let s := (List.range 2).foldl (fun (s : State) k =>
    let code := (s.dies.nth b).stepTrips.nth k
    let p := 2 * b + k
    let s := s.stepEv p (StepDrive.periodTrip rf p (code % 8))
    s.stepEv p (StepDrive.periodTrip rf p (code / 8 % 8))) s
  s.die b (fun d => { d with leafTrips := Vector.replicate 4 0, stepTrips := Vector.replicate 2 0 })

/-- A write of 1 to a latch clear (R176, R223) is allowed in these portal states. -/
def PState.clearsOc : PState → Bool
  | .closedLocked => true | .opened => true | .held => true | .fault => true | .isolated => true | .manual => true
  | .unlocking => false | .opening => false | .closing => false | .obstructed => false | .reopening => false

/-- LDR_CTRL.CLR_OC of a leaf (R176). -/
def State.clrLeafOc (s : State) (l : Nat) : State :=
  let ok := (s.seq.portals.nth (l / 2)).st.clearsOc
  let s := if ok then s.leaf l (fun x => { x with drive := { x.drive with ocLatched := false, ocRun := 0 } }) else s
  s.says [(0x0504, p1 l ++ p1 (b2n !ok))]

/-- STP_CTRL.CLR_OC of a step (R223). -/
def State.clrStepOc (s : State) (p : Nat) : State :=
  let ok := (s.seq.portals.nth p).st.clearsOc
  let s := if ok then s.stepD p (fun d => { d with ocLatched := false, ocRun := 0 }) else s
  s.says [(0x0704, p1 p ++ p1 (b2n !ok))]

end Sys2Proof.Machine
end

