-- ==== Sys2Proof/Machine/Inputs.lean ====
section
/-! DEFINITION. Inputs as the core die's stages read them: field inputs and trainline inputs with their quality (R22, R23, R67, R298,
R307), and what the motion stages ask about a leaf, a step or a portal. -/

namespace Sys2Proof.Machine

/-- Field inputs of quality unknown (R23, R298). -/
def State.unkInputs (s : State) : Nat :=
  if (s.links.l.nth 5).fault || !s.fio.seen5 then 0xFFFFFFFFFFFFFFFF else s.fio.dieUnk

/-- Trainline inputs of quality unknown (R22, R307). -/
def State.unkTrain (s : State) : Nat :=
  if (s.links.l.nth 4).fault || !s.fio.seen4 then 0x3F else s.fio.tlIndet ||| s.fio.tlUnk

/-- A field input: active or not, none while its quality is unknown or no input is named. -/
def State.input (i : Nat) (s : State) : Option Bool :=
  if 64 ≤ i ∨ s.unkInputs.testBit i then none else some (s.fio.act.testBit i)

/-- A trainline input, none while its quality is unknown. -/
def State.trainline (i : Nat) (s : State) : Option Bool :=
  if s.unkTrain.testBit i then none else some (s.fio.tlAct.testBit i)

/-- A light curtain reads interrupted (R148); none while its quality is unknown or none is named. -/
def State.curtain (p i : Nat) (s : State) : Option Bool :=
  (s.input i).map (fun act => act == decide (s.regs.OBS_P_CURTAIN_POL p = 1))

/-- The inputs named as curtains of a portal. -/
def curtains (rf : RegFile) (p : Nat) : List Nat :=
  [rf.OBS_P_CURTAIN_CURT_A p, rf.OBS_P_CURTAIN_CURT_B p].filter (fun i => decide (i < 64))

/-- Curtains guard this direction (R148). -/
def curtainDir (rf : RegFile) (p dir : Nat) : Bool :=
  decide ((if dir = 0 then rf.OBS_P_CURTAIN_DIR_C p else rf.OBS_P_CURTAIN_DIR_O p) = 1)

/-- The home switch of a step reads at home (R227); none while unknown or not named. -/
def State.atHome (p : Nat) (s : State) : Option Bool :=
  (s.input (s.regs.STP_S_CFG_HOME_IN p)).map (fun act => act == decide (s.regs.STP_S_CFG_HOME_POL p = 0))

/-- A leaf's axis is in safe hold (R19, R48, R382). -/
def State.leafSafe (l : Nat) (s : State) : Bool :=
  s.time.overrun || (s.links.l.nth (l / 4)).fault || decide ((s.leaves.nth l).obs.badWords ≠ [])

/-- A step's axis is in safe hold (R19, R48, R212). -/
def State.stepSafe (p : Nat) (s : State) : Bool :=
  s.time.overrun || (s.links.l.nth (p / 2)).fault || decide ((s.steps.nth p).badWords ≠ [])

/-- An axis of a portal is in safe hold because of a link fault or poison (cause AXIS_SAFE_HOLD of R74). -/
def State.portalSafe (p : Nat) (s : State) : Bool :=
  (s.links.l.nth (p / 2)).fault || decide ((s.leaves.nth (2 * p)).obs.badWords ≠ []) ||
    decide ((s.leaves.nth (2 * p + 1)).obs.badWords ≠ []) || decide ((s.steps.nth p).badWords ≠ [])

/-- The slave leaf of a portal takes part in its moves (R203). -/
def slaveMoves (rf : RegFile) (p : Nat) : Bool := decide (rf.MPG_A_GEAR_CFG_MODE p ≠ 0)

/-- The open target of a leaf (R202). -/
def openTarget (rf : RegFile) (l : Nat) : Int :=
  let t := signed 32 (rf.SEQ_P_OPEN_POS_OPEN_POS (l / 2))
  if l % 2 = 0 then t else gearUm rf (l / 2) t

/-- The closed target of a leaf. -/
def closedTarget (rf : RegFile) (l : Nat) : Int := if l % 2 = 0 then 0 else gearUm rf (l / 2) 0

/-- "at closed" (R73). -/
def State.atClosed (p : Nat) (s : State) : Bool :=
  let tol := s.regs.SEQ_P_TOL_CLOSED_TOL p
  let near := fun (l : Nat) => decide ((s.leaves.nth l).fbk.posUm.natAbs ≤ tol)
  near (2 * p) && (!slaveMoves s.regs p || near (2 * p + 1))

/-- "at open" (R73). -/
def State.atOpen (p : Nat) (s : State) : Bool :=
  let tol := s.regs.SEQ_P_TOL_OPEN_TOL p
  let near := fun (l : Nat) => decide (((s.leaves.nth l).fbk.posUm - openTarget s.regs l).natAbs ≤ tol)
  near (2 * p) && (!slaveMoves s.regs p || near (2 * p + 1))

/-- The obstacle is clear for a portal whose recorded direction is dir (R154). -/
def State.obsClear (p : Nat) (s : State) : Bool :=
  let rf := s.regs
  let dir := (s.seq.portals.nth p).dir
  let leafOk := fun (l : Nat) => (s.leaves.nth l).obs.clear rf l
  leafOk (2 * p) && (leafOk (2 * p + 1) || !slaveMoves rf p) &&
    (!curtainDir rf p dir || (curtains rf p).all (fun i =>
      match s.curtain p i with
      | some cut => !cut
      | none => decide (rf.OBS_P_CURTAIN_UNK_IGNORE p = 1)))

/-- A reaction runs on a leaf of a portal. -/
def State.reacting (p : Nat) (s : State) : Bool :=
  decide ((s.leaves.nth (2 * p)).obs.react ≠ .none) || decide ((s.leaves.nth (2 * p + 1)).obs.react ≠ .none)

/-- An axis move has ended at its target and the axis stands there. -/
def Move.reached (m : Move) : Bool := decide (m.phase = .idle) && m.after.isNone && !m.kept && decide (m.pSet = m.target * q16)

/-- The step has reached DEPLOY_POS (R225). -/
def State.stepOut (p : Nat) (s : State) : Bool :=
  let m := s.moves.nth (16 + p)
  (decide (m.kind = .deploy) || decide (m.kind = .redeploy)) && m.reached

/-- The step has reached 0 (R225, R228). -/
def State.stepIn (p : Nat) (s : State) : Bool :=
  let m := s.moves.nth (16 + p)
  m.reached && ((decide (m.kind = .home) && (s.steps.nth p).homed) ||
    (decide (m.kind = .stow) && (decide (64 ≤ s.regs.STP_S_CFG_HOME_IN p) || decide (s.atHome p = some true))))

/-- Profile k of an axis with the CUSHION in use (R189, R258). -/
def State.profile (a k : Nat) (s : State) : Profile :=
  rawProfile s.regs a k (if a < 16 ∧ (k = 1 ∨ k = 3) then s.useCushion a k else s.regs.MPG_A_Sk_CUSHION_CUSHION (4 * a + k))

/-- Leaf speed is zero (R244). -/
def State.leafStands (l : Nat) (s : State) : Bool := decide ((s.leaves.nth l).fbk.speed = 0)

/-- The encoder count of a leaf's serving port. -/
def State.encCount (l : Nat) (s : State) : Option Int := (servingPort s.regs l).map (fun e => (s.encs.nth e).cnt)

/-- The encoder count of a leaf's serving port at clock 0 of the tick, and its change over the last window (R169). -/
def State.encRun (l : Nat) (s : State) : Option (Int × Int) :=
  (servingPort s.regs l).map (fun e => ((s.encs.nth e).cnt, (s.encs.nth e).delta))

/-- The serving encoder of a leaf has a fault (R249). -/
def State.encFaulty (l : Nat) (s : State) : Bool :=
  match servingPort s.regs l with
  | some e => decide ((s.encs.nth e).cause ≠ 0)
  | none => false

/-- A feedback fault of a leaf that brings its portal to FAULT (R249): of its Halls, or of its encoder where the position or the angle is
taken from it. -/
def State.fbFaulty (l : Nat) (s : State) : Bool :=
  decide ((s.leaves.nth l).fbk.cause ≠ 0) ||
    ((decide (s.regs.FBK_L_CFG_POS_SRC l = 1) || decide (s.regs.LDR_L_CFG_ANGLE_SRC l = 1)) && s.encFaulty l)

end Sys2Proof.Machine
end

