-- ==== Sys2Proof/Machine/Trig.lean ====
section
/-! DEFINITION. Sine, arctangent and the factors of the motor transforms in integer arithmetic. The spec gives the formulas of
R169, R210 and R216 and no rounding inside them: the precision here is the model's own (log 8). -/

namespace Sys2Proof.Machine

/-- round(65536 sin(90° i / 256)), part 0. -/
def quarterSine0 : List Nat := [0, 402, 804, 1206, 1608, 2010, 2412, 2814, 3216, 3617, 4019, 4420, 4821, 5222, 5623, 6023, 6424, 6824, 7224, 7623, 8022, 8421, 8820, 9218, 9616, 10014, 10411, 10808, 11204, 11600, 11996, 12391]

/-- round(65536 sin(90° i / 256)), part 1. -/
def quarterSine1 : List Nat := [12785, 13180, 13573, 13966, 14359, 14751, 15143, 15534, 15924, 16314, 16703, 17091, 17479, 17867, 18253, 18639, 19024, 19409, 19792, 20175, 20557, 20939, 21320, 21699, 22078, 22457, 22834, 23210, 23586, 23961, 24335, 24708]

/-- round(65536 sin(90° i / 256)), part 2. -/
def quarterSine2 : List Nat := [25080, 25451, 25821, 26190, 26558, 26925, 27291, 27656, 28020, 28383, 28745, 29106, 29466, 29824, 30182, 30538, 30893, 31248, 31600, 31952, 32303, 32652, 33000, 33347, 33692, 34037, 34380, 34721, 35062, 35401, 35738, 36075]

/-- round(65536 sin(90° i / 256)), part 3. -/
def quarterSine3 : List Nat := [36410, 36744, 37076, 37407, 37736, 38064, 38391, 38716, 39040, 39362, 39683, 40002, 40320, 40636, 40951, 41264, 41576, 41886, 42194, 42501, 42806, 43110, 43412, 43713, 44011, 44308, 44604, 44898, 45190, 45480, 45769, 46056]

/-- round(65536 sin(90° i / 256)), part 4. -/
def quarterSine4 : List Nat := [46341, 46624, 46906, 47186, 47464, 47741, 48015, 48288, 48559, 48828, 49095, 49361, 49624, 49886, 50146, 50404, 50660, 50914, 51166, 51417, 51665, 51911, 52156, 52398, 52639, 52878, 53114, 53349, 53581, 53812, 54040, 54267]

/-- round(65536 sin(90° i / 256)), part 5. -/
def quarterSine5 : List Nat := [54491, 54714, 54934, 55152, 55368, 55582, 55794, 56004, 56212, 56418, 56621, 56823, 57022, 57219, 57414, 57607, 57798, 57986, 58172, 58356, 58538, 58718, 58896, 59071, 59244, 59415, 59583, 59750, 59914, 60075, 60235, 60392]

/-- round(65536 sin(90° i / 256)), part 6. -/
def quarterSine6 : List Nat := [60547, 60700, 60851, 60999, 61145, 61288, 61429, 61568, 61705, 61839, 61971, 62101, 62228, 62353, 62476, 62596, 62714, 62830, 62943, 63054, 63162, 63268, 63372, 63473, 63572, 63668, 63763, 63854, 63944, 64031, 64115, 64197]

/-- round(65536 sin(90° i / 256)), part 7. -/
def quarterSine7 : List Nat := [64277, 64354, 64429, 64501, 64571, 64639, 64704, 64766, 64827, 64884, 64940, 64993, 65043, 65091, 65137, 65180, 65220, 65259, 65294, 65328, 65358, 65387, 65413, 65436, 65457, 65476, 65492, 65505, 65516, 65525, 65531, 65535]

/-- round(65536 sin(90° i / 256)), part 8. -/
def quarterSine8 : List Nat := [65536]

/-- round(65536 sin(90° i / 256)) for i from 0 to 256. -/
def quarterSine : List Nat := quarterSine0 ++ quarterSine1 ++ quarterSine2 ++ quarterSine3 ++ quarterSine4 ++ quarterSine5 ++ quarterSine6 ++ quarterSine7 ++ quarterSine8

/-- 65536 sin of an angle of the first quarter, i from 0 to 16384 (16384 is 90°). -/
def sinQuarter (a : Nat) : Int :=
  let i := a / 64
  let lo : Int := quarterSine.nth i
  let hi : Int := quarterSine.nth (if i < 256 then i + 1 else 256)
  lo + (hi - lo) * ((a % 64 : Nat) : Int) / 64

/-- 65536 sin of an angle in 1/65536 of a turn. -/
def sin16 (a : Nat) : Int :=
  let x := a % 65536
  if x ≤ 16384 then sinQuarter x
  else if x ≤ 32768 then sinQuarter (32768 - x)
  else if x ≤ 49152 then -sinQuarter (x - 32768)
  else -sinQuarter (65536 - x)

/-- 65536 cos of an angle in 1/65536 of a turn. -/
def cos16 (a : Nat) : Int := sin16 (a + 16384)

/-- arctan(2^-i) in 10^-6 degrees. -/
def cordicAngles : List Nat :=
  [45000000, 26565051, 14036243, 7125016, 3576334, 1789911, 895174, 447614, 223811, 111906, 55953, 27976, 13988, 6994, 3497, 1749]

/-- Rotation of (x, y) onto the x axis: the angle turned, in 10^-6 degrees. -/
def cordicGo : List Nat → Nat → Int → Int → Int → Int
  | [], _, _, _, z => z
  | a :: l, i, x, y, z =>
    let dx := y / (2 ^ i : Int)
    let dy := x / (2 ^ i : Int)
    if 0 ≤ y then cordicGo l (i + 1) (x + dx) (y - dy) (z + a) else cordicGo l (i + 1) (x - dx) (y + dy) (z - a)

/-- The angle of a vector in 0.1 degree, from -1800 to 1800; 0 for the zero vector. -/
def angDeci (x y : Int) : Int :=
  if x = 0 ∧ y = 0 then 0 else
  let z := cordicGo cordicAngles 0 (if x < 0 then -x * 65536 else x * 65536) (if x < 0 then -y * 65536 else y * 65536) 0
  let full := if 0 ≤ x then z else if 0 ≤ y then z + 180000000 else z - 180000000
  divNear full 100000

/-- An angle in 0.1 degree wrapped to -1800 (excluded) to 1800. -/
def wrapDeci (a : Int) : Int :=
  let m := a % 3600
  if 1800 < m then m - 3600 else m

/-- The magnitude of a vector. -/
def mag2 (x y : Int) : Nat := isqrt (x * x + y * y).toNat

/-- 2π in 10^-6. -/
def twoPi6 : Int := 6283185

end Sys2Proof.Machine
end

