-- ==== Sys2Proof/Machine/Loops.lean ====
section
/-! DEFINITION. Stage 8: the current and speed loops of a leaf (R166 to R175, R182, R183) and the voltage-mode loop of a step
(R209 to R220). Integrators are exact; each voltage is one sum divided once (log 8). -/

namespace Sys2Proof.Machine

/-- What stage 8 needs to know of a leaf beside its own state. -/
structure LeafIn where
  leaf   : Nat
  tick   : Nat
  /-- mean phase currents of the last window, mA -/
  iu     : Int
  iv     : Int
  iw     : Int
  /-- rail of the window, 10 mV -/
  rail   : Nat
  /-- mode the core die has decided, and its row of R163 -/
  mode   : Nat
  rank   : Nat
  /-- DRIVE on a position held, limited to HOLD_I -/
  hold   : Bool
  /-- count of the serving encoder port at clock 0 of the tick, and its change over the last window -/
  enc    : Option (Int × Int)
  /-- temperature derate factor in 1/1000000 (R181) -/
  derate : Nat
  /-- power scale of R174 in 1/1000000; 1000000 none -/
  scale  : Nat
  /-- relax force limit, mA, and the direction of the stroke's target -/
  relax  : Option (Nat × Int)
  /-- OV_CLAMP exceeded on the die -/
  clampOn : Bool
  mass   : Nat
  kt     : Nat
  kf     : Nat

/-- The sign of DIR_INV: 1 where positive q-axis current of the table's order drives toward open. -/
def torqueSign (rf : RegFile) (leaf : Nat) : Int := if rf.LDR_L_CFG_DIR_INV leaf = 0 then 1 else -1

/-- Electrical angle of the encoder count, without the captured offset (R168). -/
def encAngle (rf : RegFile) (leaf port : Nat) (cnt : Int) : Nat :=
  let den : Int := (4 * rf.FBK_E_GEOM_LINES port : Nat)
  if den = 0 then 0 else pattern 16 (torqueSign rf leaf * cnt * (rf.LDR_L_CFG_POLE_PAIRS leaf : Nat) * 65536 / den)

/-- Electrical angle of the encoder at sample t, without the captured offset: the count taken linear in time at the rate of the last
window, which makes t = 2500 n - 1250 its mean angle (R169) and reaches ahead to a carrier period's centre (R170). DEDUCED (log 26). -/
def encAngleAt (rf : RegFile) (leaf port n : Nat) (enc : Int × Int) (t : Nat) : Nat :=
  let den : Int := (4 * rf.FBK_E_GEOM_LINES port : Nat)
  if den = 0 then 0 else
  pattern 16 (torqueSign rf leaf * (enc.1 * 2500 + enc.2 * ((t : Int) - 2500 * (n : Int))) * (rf.LDR_L_CFG_POLE_PAIRS leaf : Nat) * 65536 /
    (den * 2500))

/-- The angle in use at a sample of tick n or near it (R167, R168); encFault: the encoder has a fault (R249). -/
def leafAngle (rf : RegFile) (leaf n : Nat) (b : LeafFbk) (d : LeafDrive) (enc : Option (Int × Int)) (encFault : Bool) (t : Nat) : Nat :=
  match d.encOff, enc, servingPort rf leaf with
  | some off, some c, some port =>
    if rf.LDR_L_CFG_ANGLE_SRC leaf = 1 ∧ ¬d.encBad ∧ ¬encFault then (encAngleAt rf leaf port n c t + off) % 65536
    else hallAngle rf leaf b t
  | _, _, _ => hallAngle rf leaf b t

/-- One Hall edge (R168): the first captures the encoder's offset, a later one compares. edge: boundary, encoder count at the edge. -/
def encoderEdge (rf : RegFile) (leaf port : Nat) (r : LeafDrive × List Ev) (edge : Nat × Int) : LeafDrive × List Ev :=
  let e := encAngle rf leaf port edge.2
  match r.1.encOff with
  | none => ({ r.1 with encOff := some ((edge.1 + 65536 - e) % 65536) }, r.2)
  | some off =>
    let diff := signed 16 ((e + off + 65536 - edge.1) % 65536)
    if rf.LDR_L_CFG_ANGLE_SRC leaf = 1 ∧ 0x0E39 < diff.natAbs ∧ ¬r.1.encBad then
      ({ r.1 with encBad := true }, r.2 ++ [(0x050B, p1 leaf ++ p4 diff)])
    else r

/-- The encoder offset and its check at the Hall edges of this tick (R168). -/
def encoderCheck (rf : RegFile) (leaf : Nat) (b : LeafFbk) (d : LeafDrive) : LeafDrive × List Ev :=
  match servingPort rf leaf with
  | some port => b.edgeEnc.foldl (encoderEdge rf leaf port) (d, [])
  | none => (d, [])

/-- id and iq of R169 from the mean phase currents at an angle, in the frame in which positive iq drives toward open. -/
def parkDQ (sgn iu iv iw : Int) (ang : Nat) : Int × Int :=
  let al := (2 * iu - iv - iw) * 65536 / 3
  let be := (iv - iw) * 37837
  let c := cos16 ang
  let s := sin16 ang
  (divZ (al * c + be * s) (65536 * 65536), sgn * divZ (be * c - al * s) (65536 * 65536))

/-- Limits of R172: (toward open, toward closed), and the limit in the direction of motion. -/
def currentLimits (rf : RegFile) (x : LeafIn) (i2tOn : Bool) (vSet : Int) : Nat × Nat × Nat :=
  let iqMax := rf.LDR_L_ILIM_IQ_MAX x.leaf
  let base := iqMax
  let base := if x.hold then min base (rf.LDR_L_ILIM_HOLD_I x.leaf) else base
  let base := if i2tOn then min base (rf.LDR_L_I2T_I_CONT x.leaf * 14142135 / 10000000) else base
  let base := min base (iqMax * x.derate / 1000000)
  let pwr := if vSet = 0 ∨ x.hold then base else min base (iqMax * x.scale / 1000000)
  let fwd := if 0 < vSet then pwr else base
  let rev := if vSet < 0 then pwr else base
  let r := match x.relax with
    | none => (fwd, rev)
    | some (i, dir) => if 0 < dir then (min fwd i, rev) else (fwd, min rev i)
  (r.1, r.2, if 0 < vSet then r.1 else if vSet < 0 then r.2 else base)

/-- The mean square of R173 after one tick: mA² with 16 fractional bits. -/
def meanSquare (tauMs : Nat) (id iq : Int) (e : Nat) : Nat :=
  let den := 20 * tauMs
  if den = 0 then e else
  ((e : Int) + ((id * id + iq * iq) * 65536 - e) / den).toNat

/-- The thermal derate of R173. -/
def LeafDrive.i2t (rf : RegFile) (leaf : Nat) (d : LeafDrive) : LeafDrive × List Ev :=
  let msq := meanSquare (rf.LDR_L_I2T_I2T_TAU leaf) d.id d.iq d.msq
  let rms := isqrt (msq / 131072)
  let cont := rf.LDR_L_I2T_I_CONT leaf
  let d : LeafDrive := { d with msq := msq }
  if ¬d.i2tOn ∧ cont ≤ rms then ({ d with i2tOn := true }, [(0x050A, p1 leaf ++ p1 1)])
  else if d.i2tOn ∧ rms * 10 < cont * 9 then ({ d with i2tOn := false }, [(0x050A, p1 leaf ++ p1 0)])
  else (d, [])

/-- vmax of R170 in mV, for a rail in 10 mV. -/
def vMaxOf (rf : RegFile) (rail : Nat) : Int := ((rf.LDR_PWM_MOD_MAX * rail * 10 * 57735027 / 10000000000 : Nat) : Int)

/-- Three on-times of centre-aligned space vector PWM for a vector at an angle (R170), in 5 ns of 5000. -/
def svpwm (rail : Nat) (vd vq : Int) (ang : Nat) : Int × Int × Int :=
  let c := cos16 ang
  let s := sin16 ang
  let al := (vd * c - vq * s) / 65536
  let be := (vd * s + vq * c) / 65536
  let u := al
  let v := (-al * 65536 + be * 113512) / 131072
  let w := (-al * 65536 - be * 113512) / 131072
  let hi := if u < v then (if v < w then w else v) else (if u < w then w else u)
  let lo := if u < v then (if u < w then u else w) else (if v < w then v else w)
  let off := (hi + lo) / 2
  let r : Int := ((rail * 10 : Nat) : Int)
  let on := fun x => if r = 0 then 2500 else clampI 0 5000 (2500 + divNear (5000 * (x - off)) (rail * 10))
  (on u, on v, on w)

/-- Dead-time compensation and shortest pulse of one phase (R171). -/
def trimPulse (rf : RegFile) (on i : Int) : Nat :=
  let dead : Int := (rf.LDR_PWM_DEAD / 5 : Nat)
  let on := if i.natAbs < 100 then on else if 0 < i then on + dead else on - dead
  let on := clampI 0 5000 on
  let mp : Int := (rf.LDR_PWM_MIN_PULSE : Nat)
  if on < mp then 0 else if 5000 - mp ≤ on then 5000 else on.toNat

/-- The three legs of a leaf in one carrier period; vd, vq in the frame of R166's table. -/
def leafLegs (rf : RegFile) (x : LeafIn) (vd vq : Int) (ang : Nat) : List Leg :=
  if x.mode = 2 then [.low, .low, .low]
  else if x.mode = 3 ∨ x.mode = 4 then
    let t := svpwm x.rail vd vq ang
    [.pwm (trimPulse rf t.1 x.iu), .pwm (trimPulse rf t.2.1 x.iv), .pwm (trimPulse rf t.2.2 x.iw)]
  else [.off, .off, .off]

/-- Electrical input power of the last window in mW (R174). -/
def LeafDrive.inputPower (d : LeafDrive) : Int := 3 * (d.vd * d.id + d.vq * d.iq) / 2000

/-- Currents of the last window into the drive state (R169), before the loops: id, iq, the voltages that were in force, power. -/
def LeafDrive.measure (rf : RegFile) (x : LeafIn) (b : LeafFbk) (encFault : Bool) (d : LeafDrive) : LeafDrive × List Ev :=
  let t := 2500 * x.tick - 1250
  let ang := if d.rankMid = 10 then sectorCentre rf x.leaf b.code else leafAngle rf x.leaf x.tick b d x.enc encFault t
  let r := parkDQ (torqueSign rf x.leaf) x.iu x.iv x.iw ang
  let d : LeafDrive := { d with
    id := sat16 r.1, iq := sat16 r.2, vd := d.vdMid, vq := d.vqMid, vdMid := d.vdNext, vqMid := d.vqNext }
  let d : LeafDrive := { d with power := d.inputPower, angle := leafAngle rf x.leaf x.tick b d x.enc encFault (2500 * x.tick) }
  d.i2t rf x.leaf

/-- The speed and current loops of R169 and R170: the drive, and the voltages of the words built. p: measured position with 16
fractional bits. -/
def LeafDrive.loops (rf : RegFile) (x : LeafIn) (b : LeafFbk) (m : Move) (d : LeafDrive) : LeafDrive :=
  let lim := currentLimits rf x d.i2tOn m.vSet
  let drive := x.mode = 3
  let kpos : Int := (rf.LDR_L_POS_KPOS x.leaf : Nat)
  let kv : Int := (rf.LDR_L_SPD_PI_KV x.leaf : Nat)
  let kiv : Int := (rf.LDR_L_SPD_PI_KIV x.leaf : Nat)
  let vSet := if x.hold then 0 else m.vSet
  let aSet := if x.hold then 0 else m.aSet
  let ev := vSet + kpos * (m.pSet - b.pos) / 100 - b.speed * 65536
  let kk : Int := (x.kt * x.kf : Nat)
  let iff := if kk = 0 then 0 else divZ ((x.mass : Nat) * aSet * 10) kk
  let fwd : Int := (lim.1 : Nat)
  let rev : Int := (lim.2.1 : Nat)
  let sV := if drive then clampI (-rev * 100000) (fwd * 100000) (d.sV + kiv * ev / 65536) else 0
  let iqRef := if drive then clampI (-rev) fwd (divZ (iff * 100000 + kv * ev / 65536 + sV) 100000) else 0
  let idRef : Int :=
    if (drive ∨ x.mode = 4) ∧ x.clampOn ∧ d.power < 0 then -((rf.LDR_PWR_ID_DUMP : Nat) : Int)
    else if x.mode = 4 then (rf.LDR_L_INJ_ID_INJ x.leaf : Nat)
    else 0
  let kp : Int := (rf.LDR_L_CUR_PI_KP x.leaf : Nat)
  let ki : Int := (rf.LDR_L_CUR_PI_KI x.leaf : Nat)
  let rph : Int := (rf.LDR_L_MOTOR_R_PH x.leaf : Nat)
  let lph : Int := (rf.LDR_L_MOTOR_L_PH x.leaf : Nat)
  let ke : Int := (rf.LDR_L_KE_KE x.leaf : Nat)
  let pp : Int := (rf.LDR_L_CFG_POLE_PAIRS x.leaf : Nat)
  let um : Int := (rf.LDR_L_UMREV_UMREV x.leaf : Nat)
  -- sums in 1/1000 mV
  let cross := fun (i : Int) => if um = 0 then 0 else twoPi6 * b.speed * pp * lph * i / (um * 1000000000)
  let emf := if um = 0 then 0 else ke * twoPi6 * b.speed / (um * 1000000)
  let vd0 := divZ (kp * (idRef - d.id) + d.sD + rph * idRef - cross d.iq) 1000
  let vq0 := divZ (kp * (iqRef - d.iq) + d.sQ + rph * iqRef + cross d.id + emf) 1000
  let vmax := vMaxOf rf x.rail
  let vd := clampI (-vmax) vmax vd0
  let qmax : Int := (isqrt (vmax * vmax - vd * vd).toNat : Nat)
  let vq := clampI (-qmax) qmax vq0
  let stuck := fun (v0 v e : Int) => (decide (v < v0) && decide (0 < e)) || (decide (v0 < v) && decide (e < 0))
  let sD := if stuck vd0 vd (idRef - d.id) then d.sD else d.sD + ki * (idRef - d.id)
  let sQ := if stuck vq0 vq (iqRef - d.iq) then d.sQ else d.sQ + ki * (iqRef - d.iq)
  if drive ∨ x.mode = 4 then
    { d with sV := sV, sD := sD, sQ := sQ, vdNext := vd, vqNext := vq, limit := lim.2.2 }
  else { d with sV := 0, sD := 0, sQ := 0, vdNext := 0, vqNext := 0, limit := lim.2.2 }

/-- On-resistance at 25 °C in 0.1 mΩ (R182). -/
def rdsAt25 (mv i : Nat) (temp : Int) : Nat :=
  if i = 0 then 0 else
  let den := 10000 + 6 * (temp - 250)
  if den ≤ 0 then 0 else ((mv * 10000 / i : Nat) * 10000 / den).toNat % 65536

/-- An injection ends: RWIND from the mean of v_d over the second half and the measured switches (R183). -/
def LeafDrive.injectEnd (rf : RegFile) (leaf : Nat) (temp : Int) (j : Injection) (d : LeafDrive) : LeafDrive × List Ev :=
  let idInj := rf.LDR_L_INJ_ID_INJ leaf
  let mean : Int := if j.n = 0 then 0 else j.sumVd / (j.n : Int)
  let sum := d.rds.toList.foldl (· + ·) 0
  let rdsT : Int := ((sum : Nat) : Int) * (10000 + 6 * (temp - 250)) / 600000
  let rw : Int := if idInj = 0 then 0 else mean * 1000 / (idInj : Int) - rdsT
  let rw := (clampI 0 65535 rw).toNat
  ({ d with inj := none, rwind := rw, rwindTemp := temp }, [(0x050C, p1 leaf ++ p1 0 ++ p4 (rw : Nat))])

/-- One tick of a winding injection in stage 8 (R182, R183): the drive, events. meas: the request of the window taken, for this die;
onMv: the voltage it measured. -/
def LeafDrive.injectTick (rf : RegFile) (x : LeafIn) (temp : Int) (meas onMv : Nat) (d : LeafDrive) : LeafDrive × List Ev :=
  match d.inj with
  | none => (d, [])
  | some j =>
    let total := rf.LDR_L_INJ_INJ_TICKS x.leaf
    let i := fun (sw : Nat) => (if sw / 2 = 0 then x.iu else if sw / 2 = 1 then x.iv else x.iw).natAbs
    let sw := meas - 1 - 6 * (x.leaf % 4)
    let d : LeafDrive :=
      if 6 * (x.leaf % 4) < meas ∧ sw < 6 then { d with rds := d.rds.put sw (rdsAt25 onMv (i sw) temp) } else d
    let j : Injection := { j with run := j.run + 1, sumVd := if total / 2 ≤ j.run then j.sumVd + d.vd else j.sumVd,
                                  n := if total / 2 ≤ j.run then j.n + 1 else j.n }
    if total ≤ j.run then d.injectEnd rf x.leaf temp j else ({ d with inj := some j }, [])

/-- The measurement request of a leaf in the words it builds (R182): 0 none, else 1 + switch. It waits while another leaf of the die
measures. -/
def LeafDrive.measRequest (d : LeafDrive) : Nat :=
  match d.inj with
  | none => 0
  | some j => if 2 ≤ j.run ∧ j.asked < 6 then j.asked + 1 else 0

/-- The request has gone into the words (R182). -/
def LeafDrive.measGranted (d : LeafDrive) : LeafDrive := { d with inj := d.inj.map (fun j => { j with asked := j.asked + 1 }) }

/-- An injection that is broken off (R183). -/
def LeafDrive.abortInjection (leaf : Nat) (d : LeafDrive) : LeafDrive × List Ev :=
  match d.inj with
  | none => (d, [])
  | some _ => ({ d with inj := none }, [(0x050C, p1 leaf ++ p1 1 ++ p4 0)])

/-- Phase amplitudes of a microstep (R210), from the words of the table in use. -/
def rotateTable (m ca cb : Int) (dirInv : Bool) : Int × Int :=
  let q := (m / 256) % 4
  let r := if q = 0 then (ca, cb) else if q = 1 then (-cb, ca) else if q = 2 then (-ca, -cb) else (cb, -ca)
  if dirInv then (r.1, -r.2) else r

/-- What stage 8 needs to know of a step beside its own state. -/
structure StepIn where
  step  : Nat
  rail  : Nat
  mode  : Nat
  rank  : Nat
  /-- current in use, mA -/
  iNow  : Nat
  /-- amplitudes at the centres of the two carrier periods -/
  amp0  : Int × Int
  amp1  : Int × Int
  /-- speed set-point in microsteps/s, zero where the step is held for poison -/
  v     : Int
  noEmf : Bool

/-- Commanded voltages of one carrier period (R213), before the clamp: mV, each one sum divided once (log 8). -/
def stepVolts (rf : RegFile) (x : StepIn) (trim : Int) (amp : Int × Int) : Int × Int :=
  let rph : Int := (rf.STP_S_MOTOR_R_PH x.step : Nat)
  let lph : Int := (rf.STP_S_MOTOR_L_PH x.step : Nat)
  let ke : Int := if x.noEmf then 0 else (rf.STP_S_KE_KE x.step : Nat)
  let i : Int := (x.iNow : Nat)
  -- numerators over 65535 × 2^18 × 10^12
  let res := fun (t : Int) => rph * trim * i * t * 1000000000
  let ind := fun (t : Int) => twoPi6 * x.v * 256 * lph * i * t
  let emf := fun (t : Int) => ke * twoPi6 * x.v * 256000 * t
  let den : Int := 65535 * 262144 * 1000000000000
  ((res amp.1 - ind amp.2 - emf amp.2) / den, (res amp.2 + ind amp.1 + emf amp.1) / den)

/-- Clamp of R214: the voltage and whether it was clamped. -/
def stepClamp (rf : RegFile) (x : StepIn) (v : Int) : Int × Bool :=
  let lim : Int := (rf.STP_S_PWM_MOD_MAX x.step * x.rail * 10 / 100 : Nat)
  let c := clampI (-lim) lim v
  (c, decide (c ≠ v))

/-- On-times of the + and - half-bridges of a phase (R209), with R171's compensation. -/
def stepLegs (rf : RegFile) (x : StepIn) (v i : Int) : List Leg :=
  let d := if x.rail = 0 then 0 else divNear (2500 * v) (x.rail * 10)
  let on := clampI 0 5000 (2500 + d)
  [.pwm (trimPulse rf on i), .pwm (trimPulse rf (5000 - on) (-i))]

/-- The trim of R215, with 8 fractional bits; over the window just measured. -/
def StepDrive.trimStep (rf : RegFile) (step : Nat) (d : StepDrive) : Int :=
  let mr := mag2 d.refA d.refB
  if rf.STP_S_PWM_TRIM_EN step = 1 ∧ 100 ≤ mr ∧ ¬d.vclamp then
    let k : Int := (rf.STP_S_PWM_KTRIM step : Nat)
    let mi : Int := (mag2 d.iA d.iB : Nat)
    clampI (512 * 256) (2048 * 256) (d.trim + divZ (k * ((mr : Int) - mi) * 256) mr)
  else d.trim

/-- The load angle delta of R216 in 0.1 °. dir: sign of v_set. -/
def StepDrive.delta (rf : RegFile) (step : Nat) (v : Int) (d : StepDrive) : Int :=
  let rph : Int := (rf.STP_S_MOTOR_R_PH step : Nat)
  let lph : Int := (rf.STP_S_MOTOR_L_PH step : Nat)
  let reff := rph * d.trim / (1024 * 256)
  let we6 := twoPi6 * v / 1024
  let ea := d.vA - reff * d.iA / 1000 + we6 * lph * d.iB / 1000000000000
  let eb := d.vB - reff * d.iB / 1000 - we6 * lph * d.iA / 1000000000000
  wrapDeci (v.sign * (angDeci d.iA d.iB - angDeci ea eb) + 900)

/-- Measured values of the last window into the step (R216), and the commands that were in force in it. -/
def StepDrive.measure (ia ib : Int) (d : StepDrive) : StepDrive :=
  { d with iA := sat16 ia, iB := sat16 ib, vA := d.vA2, vB := d.vB2, refA := d.refA2, refB := d.refB2,
           vA2 := d.vA1, vB2 := d.vB1, refA2 := d.refA1, refB2 := d.refB1 }

/-- Load indicator, current selection and stall of one tick (R216 to R218). ceiling: I_MAX after the temperature derate. -/
def StepDrive.loadStep (rf : RegFile) (step : Nat) (m : Move) (ceiling : Nat) (d : StepDrive) : StepDrive × List Ev × Bool :=
  let v := m.speed
  let valid := decide (rf.STP_S_VMIN_SG_VMIN step ≤ v.natAbs) && m.phase.ramping
  let cut := decide (ceiling < d.iRun)
  let old := d.iRun
  let e0 : List Ev := if cut then [(0x0701, p1 step ++ p2 (old : Nat) ++ p2 (ceiling : Nat) ++ p4 (d.load : Nat))] else []
  let d : StepDrive := { d with iRun := if cut then ceiling else d.iRun, loadValid := valid }
  if !valid then (d, e0, false) else
  let dl := d.delta rf step v
  let f := min (rf.STP_S_ADAPT_FILT step) 8
  let cur : Int := ((d.load * 256 + d.loadFrac : Nat) : Int)
  let nxt := (cur + (clampI 0 1800 dl * 256 - cur) / (2 ^ f : Int)).toNat
  let load := nxt / 256
  let d : StepDrive := { d with load := load, loadFrac := nxt % 256 }
  let istep := max (rf.STP_S_ADAPT_I_STEP step) 1 * 10
  let up := decide (rf.STP_S_LOADTH_UP_TH step ≤ load)
  let down := decide (load ≤ rf.STP_S_LOADTH_DOWN_TH step)
  let high := decide (rf.STP_S_STALL_STALL_TH step ≤ load) && decide (d.iRun = ceiling)
  let upN := if up then d.upN + 1 else 0
  let downN := if down then d.downN + 1 else 0
  let stallN := if high then d.stallN + 1 else 0
  let raise := decide (max (rf.STP_S_ADAPT_UP_TICKS step) 1 ≤ upN)
  let lower := decide (max (rf.STP_S_ADAPT_DOWN_TICKS step) 1 ≤ downN)
  let iNew := if raise then min (d.iRun + istep) ceiling else if lower then max (d.iRun - istep) (min (rf.STP_S_CUR_I_MIN step) d.iRun)
    else d.iRun
  let e1 : List Ev := if iNew ≠ d.iRun then [(0x0701, p1 step ++ p2 (d.iRun : Nat) ++ p2 (iNew : Nat) ++ p4 (load : Nat))] else []
  let pull := decide (900 ≤ dl)
  let stall := pull || decide (max (rf.STP_S_STALL_STALL_TICKS step) 1 ≤ stallN)
  let d : StepDrive := { d with iRun := iNew, upN := if raise then 0 else upN, downN := if lower then 0 else downN,
                                stallN := stallN }
  (d, e0 ++ e1, if d.stall then pull && !d.slip else stall)

/-- A stall is flagged (R218, R219): slip for a pull-out. A pull-out is flagged also where a stall by load stands, in a HOME move that goes
on after it. -/
def StepDrive.flagStall (step : Nat) (m : Move) (slip : Bool) (d : StepDrive) : StepDrive × List Ev :=
  ({ d with stall := true, stallNew := true, slip := d.slip || slip, homed := d.homed && !slip, stalls := satInc 16 d.stalls,
            stallHold := true },
   [(0x0702, p1 step ++ p4 m.pos ++ p4 (d.load : Nat) ++ p2 (d.iRun : Nat) ++ p1 (b2n slip))])

/-- Fresh load state at the start of a move (R216, R217). -/
def StepDrive.moveStart (rf : RegFile) (step : Nat) (d : StepDrive) : StepDrive :=
  { d with load := 0, loadFrac := 0, iRun := rf.STP_S_CUR2_I_LOW step, upN := 0, downN := 0, stallN := 0, stall := false,
           slip := false, stallNew := false, stallHold := false, still := 0, reduced := false }

/-- The voltage loop of a step (R213 to R215): the drive and the legs of the two carrier periods. -/
def StepDrive.loops (rf : RegFile) (x : StepIn) (d : StepDrive) : StepDrive × List Leg × List Leg :=
  let trim := d.trimStep rf x.step
  if x.mode = 2 ∨ x.mode = 3 then
    let v0 := stepVolts rf x trim x.amp0
    let v1 := stepVolts rf x trim x.amp1
    let a0 := stepClamp rf x v0.1
    let b0 := stepClamp rf x v0.2
    let a1 := stepClamp rf x v1.1
    let b1 := stepClamp rf x v1.2
    let ref := fun (p q : Int) => divZ ((x.iNow : Nat) * (p + q)) 131070
    let d : StepDrive := { d with
      trim := trim, vclamp := a0.2 || b0.2 || a1.2 || b1.2,
      vA1 := (a0.1 + a1.1) / 2, vB1 := (b0.1 + b1.1) / 2,
      refA1 := ref x.amp0.1 x.amp1.1, refB1 := ref x.amp0.2 x.amp1.2 }
    (d, stepLegs rf x a0.1 d.iA ++ stepLegs rf x b0.1 d.iB, stepLegs rf x a1.1 d.iA ++ stepLegs rf x b1.1 d.iB)
  else
    let d : StepDrive := { d with trim := trim, vclamp := false, vA1 := 0, vB1 := 0, refA1 := 0, refB1 := 0 }
    let l : List Leg := if x.mode = 1 then [.low, .low, .low, .low] else [.off, .off, .off, .off]
    (d, l, l)

/-- The home counter of R227 for one tick. -/
def StepDrive.homeTick (rf : RegFile) (step : Nat) (atHome known : Bool) (d : StepDrive) : StepDrive :=
  let q := max (rf.STP_S_HOME_HOME_QUAL step) 1
  if !known then d
  else if atHome then { d with homeCnt := if d.homeCnt < q then d.homeCnt + 1 else q }
  else { d with homeCnt := d.homeCnt - 1 }

end Sys2Proof.Machine
end

