-- ==== Sys2Proof/Machine/ForceStage.lean ====
section
/-! DEFINITION. Stages 3 and 4: measured currents and forces (R133, R169), obstacle criteria, trips and reaction orders (R131 to R153). -/

namespace Sys2Proof.Machine

/-- What stage 8 needs to know of a leaf (R169 to R183), its mode decided. -/
def State.leafIn (l mode rank : Nat) (hold : Bool) (s : State) : LeafIn :=
  let rf := s.regs
  let d := s.dies.nth (l / 4)
  let o := (s.leaves.nth l).obs
  let j := l % 4
  let td : Int := (rf.LDR_TEMP_CFG_T_DERATE : Nat)
  let t := if d.temp < 1500 then d.temp else 1500
  let derate := if t < td then 1000000 else (1000000 - 500000 * (t - td) / (1500 - td)).toNat
  let relax := if o.relaxOn then (forceCurrent rf l (obsDir rf l o.dir).fRelax).map (fun i => (i, o.relaxDir)) else none
  { leaf := l, tick := s.time.tick, iu := d.phases.nth (3 * j), iv := d.phases.nth (3 * j + 1), iw := d.phases.nth (3 * j + 2)
    rail := d.rail, mode := mode, rank := rank, hold := hold, enc := s.encRun l, derate := derate, scale := s.pwrScale
    relax := relax, clampOn := d.ovClamp, mass := rf.OBS_L_MASS_MASS l, kt := rf.OBS_L_KT_KT l, kf := rf.OBS_L_KF_KF l }

/-- Stage 3 of one leaf: currents of the last window, force in the direction of its stroke or reaction (R133, R169). -/
def State.forceLeaf (s : State) (l : Nat) : State :=
  let rf := s.regs
  let x := s.leaves.nth l
  let r := x.drive.measure rf (s.leafIn l x.drive.mode x.drive.rank false) x.fbk (s.encFaulty l)
  let q := encoderCheck rf l x.fbk r.1
  let f := leafForce rf l q.1.iq x.obs.aWin
  let dir := if x.obs.react ≠ .none then x.obs.reactDir else x.obs.dir
  (s.leaf l (fun y => { y with drive := q.1, obs := { y.obs with fDir := if dir = 1 then f else sat16 (-f) } })).says (r.2 ++ q.2)

/-- An armature word as stage 4 reads it (R134, R142); none where it is poisoned. -/
def State.readArm (l dir b : Nat) (s : State) : State × Option Nat :=
  let a := armAddr l dir b
  let r := s.mem0.use s.regs 0 1 (a / 8)
  let s : State := { s with mem0 := r.1 }
  if r.2.bad then
    (((s.leaf l (fun x => { x with obs := { x.obs with badWords := (a / 8) :: x.obs.badWords.erase (a / 8) } })).says
      [(0x0407, p1 l ++ p1 dir ++ p4 (b : Nat))]), none)
  else (s, some (halfWord r.2.data a))

/-- Both armature words of a leaf's bin (R135). -/
def State.readArms (l : Nat) (s : State) : State × Option (Nat × Nat) :=
  let x := s.leaves.nth l
  let bin := armBin s.regs l x.fbk.posUm
  let nb := armNeighbour x.obs.dir bin
  let a := s.readArm l x.obs.dir bin
  if nb = bin then (a.1, a.2.map (fun w => (w, w))) else
  let b := a.1.readArm l x.obs.dir nb
  (b.1, match a.2, b.2 with
    | some u, some v => some (u, v)
    | _, _ => none)

/-- Safe holds for poison end once no word that caused them is poisoned (R382). -/
def State.dropCleanWords (s : State) : State :=
  let still := fun (w : Nat) =>
    match (s.mem0.store.word w).cls with
    | .poison => true | .ue => true
    | .clean => false | .ce => false | .unwritten => false
  let s' : State := { s with
    leaves := s.leaves.map (fun x => { x with obs := { x.obs with badWords := x.obs.badWords.filter still } })
    steps := s.steps.map (fun d => { d with badWords := d.badWords.filter still }) }
  s'

/-- Criteria of one leaf in stage 4: the state, and the cause bits that trip. -/
def State.judgeLeaf (l : Nat) (s : State) : State × Nat :=
  let p := l / 2
  let o := (s.leaves.nth l).obs
  let refClose := decide ((s.moves.nth l).kind = .refclose)
  let noMap := refClose || !(s.seq.portals.nth p).ref
  let reads := o.stroke && decide (o.react = .none) && !noMap && decide (o.badWords = [])
  let r := if reads then s.readArms l else (s, none)
  let s := r.1
  let rf := s.regs
  let x := s.leaves.nth l
  let guards := curtainDir rf p x.obs.dir
  let cs := if guards then curtains rf p else []
  let inp : ObsIn :=
    { leaf := l, pos := x.fbk.posUm, v := x.fbk.speed, vSet := (s.moves.nth l).speed, refClose := refClose, noMap := noMap
      uvHold := (s.dies.nth (l / 4)).uvHold, words := r.2
      curtain := cs.any (fun i => decide (s.curtain p i = some true))
      curtUnknown := cs.any (fun i => decide (s.curtain p i = none)) && decide (rf.OBS_P_CURTAIN_UNK_IGNORE p = 0) }
  let q := x.obs.criteria rf inp
  ((s.leaf l (fun y => { y with obs := q.1 })).says q.2.2, q.2.1)

/-- The absolute limit is met in a reaction: it becomes a stop and a hold at the present position (R137). -/
def State.limitReaction (l : Nat) (s : State) : State :=
  let x := s.leaves.nth l
  if x.obs.react = .none then s else
  ((s.leaf l (fun y => { y with obs := { y.obs with react := .stop, limited := true } })).move l (fun m =>
    if !m.phase.moving then m
    else if m.vSet = 0 then { m with phase := .hold, after := none, aSet := 0 }
    else { m with phase := .stopping, after := none, uvDecel := (obsDir s.regs l x.obs.dir).revAcc })).says
    [(0x0403, p1 l ++ p2 x.obs.fDir)]

/-- A trip recorded on one leaf with its order issued, or kept in the under-voltage hold (R150, R153). -/
def State.tripLeaf (l own cause dir : Nat) (s : State) : State :=
  let x := s.leaves.nth l
  let o : LeafObs := { x.obs with dir := dir }
  let r := o.trip l own cause x.fbk.posUm (if (s.moves.nth l).speedDir = 0 then (s.moves.nth l).target else 0)
  let hold := (s.dies.nth (l / 4)).uvHold
  let o : LeafObs := if hold then { r.1 with order := 0, pending := r.1.pending ||| cause } else r.1
  (s.leaf l (fun y => { y with obs := o })).says r.2

/-- A criterion can trip a leaf (R131): in a stroke, and in no reaction move. -/
def LeafObs.judged (o : LeafObs) : Bool := o.stroke && decide (o.react = .none)

/-- A leaf trips by its own criteria (R150): orders for both leaves of the portal, for a partner only where it has a stroke (R131). own0,
own1: own causes of the two leaves. -/
def State.tripPortal (p own0 own1 dir : Nat) (s : State) : State :=
  let due := fun (l own other : Nat) => decide (own ≠ 0) || (decide (other ≠ 0) && (s.leaves.nth l).obs.judged)
  let due0 := due (2 * p) own0 own1
  let due1 := slaveMoves s.regs p && due (2 * p + 1) own1 own0
  let s := if due0 then s.tripLeaf (2 * p) own0 (own0 + (if own1 ≠ 0 then 128 else 0)) dir else s
  if due1 then s.tripLeaf (2 * p + 1) own1 (own1 + (if own0 ≠ 0 then 128 else 0)) dir else s

/-- Orders kept through the under-voltage hold come due in the tick that ends it (R153). -/
def State.releaseOrder (s : State) (l : Nat) : State :=
  let o := (s.leaves.nth l).obs
  if o.pending ≠ 0 ∧ ¬(s.dies.nth (l / 4)).uvHold then
    s.leaf l (fun y => { y with obs := { y.obs with order := o.pending, pending := 0 } })
  else s

/-- Stage 4 of one portal, of its leaves below n (R47). -/
def State.obsPortal (n : Nat) (s : State) (p : Nat) : State :=
  let a := s.judgeLeaf (2 * p)
  let b := if slaveMoves s.regs p ∧ 2 * p + 1 < n then a.1.judgeLeaf (2 * p + 1) else (a.1, 0)
  let s := b.1
  let lim := fun (l bits : Nat) => decide (bits ≠ 0) && decide ((s.leaves.nth l).obs.react ≠ .none)
  let s := if lim (2 * p) a.2 then s.limitReaction (2 * p) else s
  let s := if lim (2 * p + 1) b.2 then s.limitReaction (2 * p + 1) else s
  let own := fun (l bits : Nat) => if (s.leaves.nth l).obs.judged ∧ (s.leaves.nth l).obs.pending = 0 then bits else 0
  let o0 := own (2 * p) a.2
  let o1 := own (2 * p + 1) b.2
  let dir := if o0 ≠ 0 then (s.leaves.nth (2 * p)).obs.dir else (s.leaves.nth (2 * p + 1)).obs.dir
  (((s.tripPortal p o0 o1 dir).releaseOrder (2 * p)).releaseOrder (2 * p + 1))

/-- Curtains that enter unknown quality (R158). -/
def State.curtainsLost (s : State) : State :=
  let unk := s.unkInputs
  (List.range 8).foldl (fun (s : State) p =>
    (curtains s.regs p).foldl (fun (s : State) i =>
      if unk.testBit i && !s.fio.unkWas.testBit i then s.says [(0x0405, p1 p ++ p1 i)] else s) s) s

/-- Stage 4 of the leaves below n (R47, R48). -/
def State.obsStage (n : Nat) (s : State) : State :=
  (List.range (min 8 ((n + 1) / 2))).foldl (State.obsPortal n) s.dropCleanWords.curtainsLost

/-- Stage 3 of the leaves below n. -/
def State.forceStage (n : Nat) (s : State) : State := (List.range (min 16 n)).foldl State.forceLeaf s

end Sys2Proof.Machine
end

