-- ==== Sys2Proof/Machine/MotionStage.lean ====
section
/-! DEFINITION. Stage 7: move orders, profiles, gearing and limits of leaves (R185 to R205) and of steps with homing (R220 to R230). -/

namespace Sys2Proof.Machine

/-- MPG_MOVE_END of a move that has ended since the last call (R206). -/
def Move.endEvent (a : Nat) (m : Move) : List Ev :=
  if m.ended = 0 then [] else [(0x0601, p1 a ++ p1 m.endKind.code ++ p1 (m.ended - 1) ++ p4 m.pos)]

/-- Change of a move, its end reported at once. A later end in the same tick replaces the record of an earlier one. -/
def State.moveEv (a : Nat) (f : Move → Move) (s : State) : State :=
  let m := s.moves.nth a
  let r := f { m with ended := 0 }
  let r' : Move := if r.ended = 0 then { r with ended := m.ended, endKind := m.endKind } else r
  (s.move a (fun _ => r')).says (r.endEvent a)

/-- An axis is referenced (R199). -/
def State.referenced (a : Nat) (s : State) : Bool :=
  if a < 16 then (s.seq.portals.nth (a / 2)).ref else (s.steps.nth (a - 16)).homed

/-- A target clamped to the virtual limits is marked and reported (R199). -/
def State.clampMark (a : Nat) (t : Int) (lim : Option Int) (s : State) : State :=
  match lim with
  | none => s
  | some l => (s.move a (fun m => { m with limitClamped := true })).says [(0x0605, p1 a ++ p4 t ++ p4 l)]

/-- An order put to an axis (R186, R195, R197, R199). p0: where a move from standstill starts. -/
def State.orderMove (a : Nat) (o : Order) (p0 : Int) (s : State) : State :=
  let par := (s.moves.nth a).inForce o.set (s.profile a o.set)
  match o.target with
  | none => s.moveEv a (fun m => m.order o par p0)
  | some t =>
    let c := clampTarget s.regs a (s.referenced a) t
    (s.moveEv a (fun m => m.order { o with target := some c.1 } par p0)).clampMark a t c.2

/-- An order that waits for the first arming of its die (R196). -/
def Move.wait (o : Order) (m : Move) : Move :=
  let m' := m.fresh.label o
  { m' with phase := .idle, vSet := 0, aSet := 0, after := some o, began := false }

/-- A move that waited for the end of a stop ramp, or for arming, starts from standstill (R195). -/
def Move.startAfter (par : Order → Profile) (p0 : Int) (m : Move) : Move :=
  match m.after with
  | some o =>
    if (m.phase = .stopping ∨ m.phase = .idle) ∧ m.vSet = 0 then
      let c := m.limitClamped
      { m.startFrom o (par o) p0 with limitClamped := c }
    else m
  | none => m

/-- The target of an order that waited is clamped as its move starts (R199): the axis may be referenced by then. -/
def State.clampAfter (a : Nat) (s : State) : State :=
  let m := s.moves.nth a
  match m.after with
  | some ⟨k, set, some t, dir⟩ =>
    if (m.phase = .stopping ∨ m.phase = .idle) ∧ m.vSet = 0 then
      let c := clampTarget s.regs a (s.referenced a) t
      (s.move a (fun m => { m with target := c.1, after := some ⟨k, set, some c.1, dir⟩ })).clampMark a t c.2
    else s
  | _ => s

/-- The profile of a leaf's move of a kind from a set (R189, R197): a reaction move has its own. -/
def State.leafProfile (l : Nat) (k : MoveKind) (set : Nat) (s : State) : Profile :=
  if k = .reaction then reactionProfile (obsDir s.regs l (s.leaves.nth l).obs.dir) else s.profile l set

/-- One tick of the profile (R190, R191, R196, R198). limit: speed of a speed move; ph: phase taken when a stop ramp has ended. -/
def Move.run (limit : Nat) (ph : MovePhase) (m : Move) : Move :=
  let stop := fun (m : Move) => if m.vSet = 0 ∧ m.after.isNone then m.stand ph else m
  match m.phase with
  | .accel | .cruise | .decel | .creep | .speed => if m.speedDir ≠ 0 then m.advanceSpeed limit else m.advance
  | .stopping => if m.vSet = 0 then stop m else stop m.advanceStop
  | .idle | .follow | .hold | .geared => m

/-- The rank of R163 that takes a leaf out of DRIVE: 1, 3, 4, 6, 7 or 8; 0 none (R196). -/
def State.leafOut (l : Nat) (s : State) : Nat :=
  let b := s.dies.nth (l / 4)
  let st := (s.seq.portals.nth (l / 2)).st
  if !b.armedNow then 1
  else if (s.leaves.nth l).drive.ocLatched then 3
  else if b.safe then 4
  else if st = .isolated ∨ st = .manual then 6
  else if s.leafSafe l ∨ st = .fault then 7
  else if b.tempShut ∨ b.ovTrip then 8
  else 0

/-- The reaction order of a leaf starts its reaction, or is dropped (R151, R152). -/
def State.leafReact (l : Nat) (s : State) : State :=
  let x := s.leaves.nth l
  let p := s.seq.portals.nth (l / 2)
  if x.obs.order = 0 then s
  else if p.st = .obstructed ∧ p.before ≠ .obstructed then
    let o := x.obs.startReaction s.regs l
    let s := s.leaf l (fun y => { y with obs := { o with relaxOn := false } })
    let s := s.moveEv l (Move.react s.regs l o x.fbk.pos)
    if o.react = .reverse then
      let t := reverseTarget s.regs l o
      let c := clampTarget s.regs l (s.referenced l) t
      (s.move l (fun m => { m with target := if m.after.isSome then m.target else c.1,
                                   after := m.after.map (fun a => { a with target := some c.1 }) })).clampMark l t c.2
    else s
  else s.says [(0x0408, p1 l ++ p1 x.obs.order)]

/-- The order of stage 6 as a move order of a leaf (R186, R187). -/
def State.leafOrder? (l : Nat) (s : State) : Option Order :=
  let rf := s.regs
  let o := (s.leaves.nth l).obs
  match (s.seq.portals.nth (l / 2)).leafOrder with
  | .open => some ⟨.open, 0, some (openTarget rf l), 0⟩
  | .close => some ⟨.close, 1, some (closedTarget rf l), 0⟩
  | .reopen => some ⟨.reopen, 2, some (openTarget rf l), 0⟩
  | .reclose => some ⟨.reclose, 3, some (closedTarget rf l), 0⟩
  | .refclose => some ⟨.refclose, 1, none, -1⟩
  | .resumeOpen => some ⟨if (s.moves.nth l).set = 2 then .reopen else .open, (s.moves.nth l).set, some o.target, 0⟩
  | .none | .stop => none

/-- Both counts of a leaf become the zero of its position and its move ends there (R84, R85, R198). -/
def State.referenceLeaf (l : Nat) (s : State) : State :=
  let cnt := (s.encCount l).getD 0
  let s := s.leaf l (fun x => { x with fbk := { x.fbk.reference cnt with pos := 0 } })
  s.moveEv l (fun m =>
    let m := if m.phase.moving ∧ m.kind ≠ .none then m.finish 0 else m
    { m with target := 0, speedDir := 0, pSet := 0, vSet := 0, aSet := 0, phase := .idle, kept := false, stopKeeps := false,
             after := none, heldBy := none, cmp := { m.cmp with last := 0 } })

/-- A slave runs its own moves: independent, or geared with no reference (R198, R203). -/
def ownMoves (rf : RegFile) (p : Nat) (ref : Bool) : Bool := decide (rf.MPG_A_GEAR_CFG_MODE p = 1) || !ref

/-- Orders of stage 6 to one leaf (R73, R85, R186). -/
def State.leafOrders (l : Nat) (s : State) : State :=
  let p := s.seq.portals.nth (l / 2)
  let waiting := !(s.dies.nth (l / 4)).armedYet
  match p.leafOrder with
  | .none => s
  | .stop => s.move l (fun m => if m.phase = .geared then m else { m.stop 0 with after := none })
  | .open | .close | .reopen | .reclose | .refclose | .resumeOpen =>
    if l % 2 = 1 ∧ ¬ownMoves s.regs (l / 2) p.ref then s else
    match s.leafOrder? l with
    | none => s
    | some o => if waiting then s.move l (Move.wait o) else s.orderMove l o (s.leaves.nth l).fbk.pos

/-- A stroke held by a drive hold resumes, or its target stays kept (R179 to R181). -/
def State.leafResume (l : Nat) (s : State) : State :=
  let m := s.moves.nth l
  let p := s.seq.portals.nth (l / 2)
  match m.heldBy with
  | none => s
  | some st =>
    if p.st.code ≠ st then s.move l (fun m => { m with heldBy := none })
    else if (s.dies.nth (l / 4)).uvHold ∨ (l % 2 = 1 ∧ ¬ownMoves s.regs (l / 2) p.ref ∧ ¬m.gearSkip) then s
    else s.moveEv l (fun m => m.resume (s.leafProfile l m.kind m.set) (s.leaves.nth l).fbk.pos)

/-- A leaf in the controlled hold stops its stroke (R178). One that already brakes on a stop ramp brakes at UV_DECEL too; what it is to do
then stays as it was. -/
def State.leafUv (l : Nat) (s : State) : State :=
  let m := s.moves.nth l
  let dec := s.regs.LDR_UV_DECEL_UV_DECEL
  if (s.dies.nth (l / 4)).uvHold ∧ m.kind.strokeDir.isSome ∧ m.phase.moving ∧ m.phase ≠ .geared then
    if m.phase = .stopping then s.move l (fun m => { m with uvDecel := dec })
    else s.move l (fun m => { m.stop dec with
      heldBy := if m.speedDir = 0 then some (s.seq.portals.nth (l / 2)).st.code else none })
  else s

/-- A leaf out of DRIVE (R196). -/
def State.leafFollow (l out : Nat) (s : State) : State :=
  let x := s.leaves.nth l
  let s := s.leaf l (fun y => { y with obs := { y.obs with react := .none } })
  s.moveEv l (fun m =>
    let st := (s.seq.portals.nth (l / 2)).st.code
    let held := if out = 8 then (if m.strokeRuns ∧ m.speedDir = 0 then some st else m.heldBy) else none
    let m : Move := { m.follow x.fbk.pos with heldBy := held, geared := false }
    if x.fbk.speed = 0 then m.stand .follow else m)

/-- The phase in which a stop ramp of a leaf ends: HOLD in the controlled hold (R178) and in a reaction (R151). -/
def State.standPhase (l : Nat) (s : State) : MovePhase :=
  if (s.moves.nth l).kind = .reaction ∨ (s.dies.nth (l / 4)).uvHold then .hold else .idle

/-- One tick of a leaf's own profile (R190 to R198). -/
def State.leafRun (l : Nat) (s : State) : State :=
  let f := (s.leaves.nth l).fbk
  let p := l / 2
  let partner := (s.leaves.nth (if l % 2 = 0 then l + 1 else l - 1)).drive.ocLatched
  let ph := s.standPhase l
  let uv := (s.dies.nth (l / 4)).uvHold
  let starts := !uv || decide (((s.moves.nth l).after.map (fun o => o.kind)) = some .reaction)
  let done := decide ((s.leaves.nth l).obs.react = .none) && !uv
  let s := if starts then s.clampAfter l else s
  let s := s.moveEv l (fun m =>
    let m := if starts then m.startAfter (fun o => s.leafProfile l o.kind o.set) f.pos else m
    let m := if partner ∧ m.phase.moving ∧ m.phase ≠ .stopping ∧ m.kind ≠ .none then m.stop 0 else m
    let m := if m.phase = .follow then (if f.speed = 0 then m.stand .idle else m.follow f.pos) else m
    let m : Move := if m.phase = .hold ∧ done then { m with phase := .idle } else m
    m.run (s.regs.SEQ_P_REFSPEED_REFSPEED p) ph)
  let m := s.moves.nth l
  if m.phase = .stopping ∨ m.phase = .speed then
    let r := m.limitPoint s.regs l (s.referenced l)
    (s.move l (fun _ => r.1)).says r.2
  else s

/-- A geared master move starts: the slave blends, or runs its own move (R204). -/
def State.gearStart (l : Nat) (s : State) : State :=
  let rf := s.regs
  let master := s.moves.nth (l - 1)
  let f := (s.leaves.nth l).fbk
  let e0 := f.pos - gear rf (l / 2) master.p0
  let d0 : Int := (master.target * q16 - master.p0).natAbs
  let o : Order := ⟨master.kind, master.set, some (gearUm rf (l / 2) master.target), 0⟩
  if gearEngages e0 d0 then
    s.moveEv l (fun m =>
      let m := if m.phase.moving ∧ m.kind ≠ .none then m.finish 2 else m
      let m' := m.fresh.label o
      { m' with pSet := f.pos, vSet := 0, aSet := 0, phase := .geared, geared := true, e0 := e0, d0 := d0.toNat })
  else
    let s := s.orderMove l o f.pos
    (s.move l (fun m => { m with gearSkip := true })).says
      [(0x0607, p1 l ++ p4 (divZ e0 q16) ++ p4 (divZ d0 q16))]

/-- A geared slave in one tick (R203, R205). was: the master's set-point before this tick. -/
def State.gearFollow (l : Nat) (was : Int) (s : State) : State :=
  let rf := s.regs
  let master := s.moves.nth (l - 1)
  let m := s.moves.nth l
  let m : Move := if master.after.isSome ∧ m.d0 ≠ 0 then { m with e0 := m.pSet - gear rf (l / 2) was, d0 := 0 } else m
  let m := m.followMaster rf (l / 2) master
  let on := decide master.phase.moving || decide (master.phase = .follow)
  let m : Move := if !on && decide (master.ended = 1) then { m with pSet := m.target * q16, vSet := 0 } else m
  let r := m.limitPoint rf l (s.referenced l)
  ((s.move l (fun _ => r.1)).says r.2).moveEv l (fun m =>
    if on then m
    else if master.ended = 1 then { m.finish 0 with phase := .idle, geared := false, vSet := 0 }
    else { m.finish 1 with phase := master.phase, geared := false, kept := true, vSet := 0, aSet := 0 })

/-- What a leaf's detector takes from the leaf's move after stage 7: strokes begin and end, reactions complete (R131, R132, R151). -/
def State.leafAfter (l : Nat) (s : State) : State :=
  let m := s.moves.nth l
  let x := s.leaves.nth l
  let o := x.obs
  let o : LeafObs := if m.began ∧ m.kind ≠ .reaction then { o with relaxOn := false } else o
  let o : LeafObs :=
    match m.kind.strokeDir with
    | some dir => if m.strokeRuns ∧ (m.began ∨ ¬o.stroke) then o.strokeStart dir else { o with stroke := m.strokeRuns }
    | none => { o with stroke := false }
  let stands := decide (m.kind = .reaction) && decide (m.phase = .hold)
  let r : LeafObs × List Ev :=
    match o.react with
    | .none => (o, [])
    | .reverse => if m.kind = .reaction ∧ m.ended = 1 then o.reactionDone l x.fbk.posUm else (o, [])
    | .stop => if stands then o.reactionDone l x.fbk.posUm else (o, [])
    | .relax left =>
      if !stands then (o, []) else
      let o : LeafObs := { o with relaxOn := true, relaxDir := if o.relaxOn then o.relaxDir else if o.target < x.fbk.posUm then -1 else 1 }
      if left = 0 then o.reactionDone l x.fbk.posUm else ({ o with react := .relax (left - 1) }, [])
  let done := decide (r.1.react = .none) && (stands || (decide (o.react = .reverse) && decide (m.phase = .idle)))
  let s := s.leaf l (fun y => { y with obs := r.1 })
  let s := s.move l (fun m =>
    let m : Move := if stands then m.keepStroke else m
    if done then { m with phase := if (s.dies.nth (l / 4)).uvHold then .hold else .idle } else m)
  s.says r.2

/-- Stage 7 of one leaf. -/
def State.leafMotion (s : State) (l : Nat) : State :=
  let p := l / 2
  let slave := decide (l % 2 = 1)
  if slave && !slaveMoves s.regs p then s else
  let was := (s.moves.nth (l - 1)).p0
  let s := (s.leafReact l).leafOrders l
  if !(s.dies.nth (l / 4)).armedYet then s.leafAfter l else
  let out := s.leafOut l
  if out ≠ 0 then (s.leafFollow l out).leafAfter l else
  let master := s.moves.nth (l - 1)
  let gears := slave && decide (s.regs.MPG_A_GEAR_CFG_MODE p = 2) && (s.seq.portals.nth p).ref &&
    decide ((s.leaves.nth l).obs.react = .none)
  let s := if gears && master.began && master.speedDir == 0 && master.kind.strokeDir.isSome then s.gearStart l else s
  let s :=
    if (s.moves.nth l).phase = .geared then s.gearFollow l was
    else ((s.leafResume l).leafUv l).leafRun l
  s.leafAfter l

/-- Rank of R221 that ends a step's move: 1, 3, 4, 5 or 6; 0 none (R196, R221). -/
def State.stepOff (p : Nat) (s : State) : Nat :=
  let b := s.dies.nth (p / 2)
  let st := (s.seq.portals.nth p).st
  if !b.armedNow then 1
  else if (s.steps.nth p).ocLatched then 3
  else if b.safe then 4
  else if !portalOn s.regs p then 5
  else if s.stepSafe p ∨ st = .isolated ∨ st = .manual ∨ st = .fault then 6
  else 0

/-- A homing phase starts with its order (R228). -/
def State.homeOrder (p : Nat) (ph : Homing) (s : State) : State :=
  let a := 16 + p
  let o : Order := ⟨.home, 3, none, if ph = .backoff then 1 else -1⟩
  let s := if (s.dies.nth (p / 2)).armedYet then s.orderMove a o (s.moves.nth a).pSet else s.move a (Move.wait o)
  s.stepD p (fun d => { d with homing := ph, homeStart := (s.moves.nth a).pSet })

/-- A homing run starts (R226, R228, R229). -/
def State.homeStart (p : Nat) (s : State) : State :=
  let q := max (s.regs.STP_S_HOME_HOME_QUAL p) 1
  let s := s.stepD p (fun d => { d with ignored := 0 })
  s.homeOrder p (if s.regs.STP_S_CFG_HOME_IN p < 64 ∧ (s.steps.nth p).homeCnt = q then .backoff else .approach)

/-- Orders of stage 6 to a step (R79, R186, R226). -/
def State.stepOrders (p : Nat) (s : State) : State :=
  let a := 16 + p
  let dep := signed 32 (s.regs.SEQ_P_STEP_POS_DEPLOY_POS p)
  let go := fun (o : Order) =>
    let s := s.stepD p (fun d => { d with homing := .none })
    if (s.dies.nth (p / 2)).armedYet then s.orderMove a o (s.moves.nth a).pSet else s.move a (Move.wait o)
  match (s.seq.portals.nth p).stepOrder with
  | .none => s
  | .deploy => go ⟨.deploy, 0, some dep, 0⟩
  | .redeploy => go ⟨.redeploy, 2, some dep, 0⟩
  | .stow => if (s.steps.nth p).homed then go ⟨.stow, 1, some 0, 0⟩ else s.homeStart p

/-- A homing run fails (R230). -/
def State.homeFail (p cause : Nat) (s : State) : State :=
  let a := 16 + p
  let s := s.moveEv a (fun m => { m.stop 0 with after := none })
  (s.stepD p (fun d => { d with homing := .failed, reduced := true })).says
    [(0x0706, p1 p ++ p1 cause ++ p4 (s.moves.nth a).pos)]

/-- The qualified trip of an approach (R228). -/
def State.homeTrip (p : Nat) (s : State) : State :=
  let a := 16 + p
  let hp : Int := (s.regs.STP_S_HOME_HOME_POS p : Nat)
  let pos := (s.moves.nth a).pos
  let s := s.stepD p (fun d => { d with homing := .final, tripPos := pos, ignored := 0 })
  s.move a (fun m => { m with speedDir := 0, target := 0, pSet := hp * q16, phase := .accel, falling := false,
                              cmp := { m.cmp with last := hp } })

/-- The trip of an approach against the mechanical end, in the tick of its stall (R229): the approach ends as replaced by the move to 0. -/
def State.homeStallTrip (p : Nat) (s : State) : State :=
  let a := 16 + p
  let hp : Int := (s.regs.STP_S_HOME_HOME_POS p : Nat)
  let pos := (s.moves.nth a).pos
  let s := s.stepD p (fun d => { d with homing := .final, tripPos := pos, ignored := 0 })
  let o : Order := ⟨.home, 3, some 0, 0⟩
  (s.moveEv a (fun m => m.finish 2)).move a (fun m =>
    { m with speedDir := 0, target := 0, pSet := -hp * q16, vSet := 0, aSet := 0, phase := .stopping, after := some o,
             stopKeeps := false, cmp := { m.cmp with last := -hp } })

/-- A stall of a step is flagged (R218, R219); in an approach against the mechanical end it is the trip (R229). -/
def State.stepStall (p : Nat) (slip : Bool) (s : State) : State :=
  let s := s.stepEv p (StepDrive.flagStall p (s.moves.nth (16 + p)) slip)
  if (s.moves.nth (16 + p)).kind = .home ∧ (s.steps.nth p).homing = .approach ∧ 64 ≤ s.regs.STP_S_CFG_HOME_IN p then s.homeStallTrip p
  else s

/-- A homing run before the profile of its tick: end of the backoff, failure by a stall (R228, R230). -/
def State.homeBefore (p : Nat) (s : State) : State :=
  let d := s.steps.nth p
  let named := decide (s.regs.STP_S_CFG_HOME_IN p < 64)
  if d.homing = .backoff ∨ d.homing = .approach then
    if named && d.stallNew then s.homeFail p 3
    else if d.homing = .backoff ∧ d.homeCnt = 0 then s.homeOrder p .approach
    else s
  else s

/-- A homing run after the profile of its tick: failure by quality, trip, distance used up, end (R228, R230). A phase whose move has
not started yet does not fail by quality. resumed: a drive hold ended, and the phase that began before it goes on. -/
def State.homeAfter (p : Nat) (resumed : Bool) (s : State) : State :=
  let a := 16 + p
  let m := s.moves.nth a
  let d := s.steps.nth p
  let q := max (s.regs.STP_S_HOME_HOME_QUAL p) 1
  let s := if m.began ∧ m.speedDir ≠ 0 ∧ ¬resumed then s.stepD p (fun d => { d with homeStart := m.p0 }) else s
  let d0 := (s.steps.nth p).homeStart
  let unknown := decide (s.regs.STP_S_CFG_HOME_IN p < 64) && decide (s.atHome p = none)
  if (d.homing = .approach ∨ d.homing = .backoff) ∧ unknown ∧ m.phase.moving ∧ m.after.isNone then s.homeFail p 2
  else if d.homing = .approach ∧ m.speedDir = -1 ∧ m.phase.ramping ∧ s.regs.STP_S_CFG_HOME_IN p < 64 ∧ d.homeCnt = q then s.homeTrip p
  else if (d.homing = .approach ∨ d.homing = .backoff) ∧ m.speedDir ≠ 0 ∧ m.phase.ramping ∧
      (s.regs.STP_S_HOME_DIST_HOME_DIST p : Int) * q16 ≤ (m.pSet - d0).natAbs then s.homeFail p 1
  else if d.homing = .final ∧ m.ended = 1 then
    (s.stepD p (fun d => { d with homing := .none, homed := true })).says [(0x0705, p1 p ++ p4 d.tripPos ++ p4 (d.ignored : Nat))]
  else s

/-- The home counter, and the changes ignored after the trip (R227, R228). -/
def State.homeCount (p : Nat) (s : State) : State :=
  match s.atHome p with
  | none => s
  | some h => s.stepD p (fun d =>
      let d' := d.homeTick s.regs p h true
      { d' with homeLast := h, ignored := if d.homing = .final ∧ d.homeLast ≠ h then satInc 16 d.ignored else d.ignored })

/-- A stow that ends while the home switch reads away (R225). -/
def State.homeMismatch (p : Nat) (s : State) : State :=
  let m := s.moves.nth (16 + p)
  if (s.seq.portals.nth p).step = .stowing ∧ m.kind = .stow ∧ m.reached ∧ s.atHome p = some false then
    let s := s.says [(0x0707, p1 p ++ p4 m.pos)]
    let s := s.stepD p (fun d => { d with homed := false, ignored := 0 })
    s.homeOrder p .approach
  else s

/-- A step's move in the controlled hold or temperature shutdown of its die stops, and resumes once the step stands (R224). -/
def State.stepHold (p : Nat) (s : State) : State :=
  let a := 16 + p
  let m := s.moves.nth a
  let die := s.dies.nth (p / 2)
  let sub := (s.seq.portals.nth p).step.code
  if die.uvHold ∨ die.tempShut then
    if m.phase.moving ∧ m.phase ≠ .stopping then s.move a (fun m => { m.stop 0 with heldBy := some sub }) else s
  else match m.heldBy with
    | none => s
    | some c =>
    if c ≠ sub then s.move a (fun m => { m with heldBy := none })
    else if m.phase.moving then s
    else s.moveEv a (fun m => m.resume (s.profile a m.set) m.pSet)

/-- A stalled step ends its move with its target kept (R219). -/
def State.stallEnd (p : Nat) (s : State) : State :=
  let a := 16 + p
  let d := s.steps.nth p
  if d.stallNew ∧ (s.moves.nth a).kind ≠ .home ∧ (s.moves.nth a).phase.moving then
    s.moveEv a (fun m => { m.stop 0 with after := none }.stand .idle)
  else s

/-- Stage 7 of one step. -/
def State.stepMotion (s : State) (p : Nat) : State :=
  let a := 16 + p
  let s := (s.homeCount p).stallEnd p
  let s := (s.stepOrders p).homeBefore p
  let s := s.stepD p (fun d => { d with stallNew := false })
  if !(s.dies.nth (p / 2)).armedYet then s else
  let s :=
    if s.stepOff p ≠ 0 then
      let s := s.stepD p (fun d => { d with homing := if d.homing = .failed then .failed else .none })
      s.moveEv a (fun m => { (m.follow m.pSet).stand .follow with heldBy := none })
    else
      let resumes := (s.moves.nth a).heldBy.isSome
      let s := s.stepHold p
      let holds := (s.dies.nth (p / 2)).uvHold || (s.dies.nth (p / 2)).tempShut
      let ph : MovePhase := if holds then .hold else .idle
      let s := if holds then s else s.clampAfter a
      let s := s.moveEv a (fun m =>
        let m := if holds then m else m.startAfter (fun o => s.profile a o.set) m.pSet
        let m : Move := if m.phase = .follow ∨ (m.phase = .hold ∧ ph = .idle) then m.stand .idle else m
        m.run m.par.eff.vMax ph)
      let m := s.moves.nth a
      let s := if m.phase = .stopping ∨ m.phase = .speed ∨ m.speedDir ≠ 0 then
          let r := m.limitPoint s.regs a (s.referenced a)
          (s.move a (fun _ => r.1)).says r.2
        else s
      (s.homeAfter p resumes).homeMismatch p
  if (s.moves.nth a).began then s.stepD p (StepDrive.moveStart s.regs p) else s

/-- The moves at clock 0: held values of the moves that ended in the last tick are taken (R194), and no move has begun or ended yet. -/
def State.beginMoves (s : State) : State :=
  { s with moves := s.moves.mapIdx (fun a m =>
      { m.takeHeld (rawProfile s.regs a m.set 0) with ended := 0, began := false }) }

/-- Stage 7 of the axes below n: leaves before steps (R40). The orders of stages 4 and 6 are used up. -/
def State.motionStage (n : Nat) (s : State) : State :=
  let s : State := { s with moves := s.moves.map (fun m => { m with p0 := m.pSet, aSet := if m.phase.moving then m.aSet else 0 }) }
  let s := (List.range (min 16 n)).foldl State.leafMotion s
  let s := (List.range (min 8 (n - 16))).foldl State.stepMotion s
  { s with
    leaves := s.leaves.mapIdx (fun l x => if l < n then { x with obs := { x.obs with order := 0 } } else x)
    seq := { s.seq with portals := s.seq.portals.map (fun x => { x with leafOrder := .none, stepOrder := .none }) } }

end Sys2Proof.Machine
end

