-- ==== Sys2Proof/Machine/DriveStage.lean ====
section
/-! DEFINITION. Stage 8: drive modes (R163, R221), the loops of all axes, the power budget (R174), gate timing words (R45, R145, R161). -/

namespace Sys2Proof.Machine

/-- Whether IDLE_OPEN (else IDLE_CLOSED) governs a leaf that stands in a portal state (R163). -/
def PState.idleOpen : PState → Bool
  | .closedLocked => false | .closing => false
  | .isolated => true | .unlocking => true | .opening => true | .opened => true | .obstructed => true | .reopening => true
  | .held => true | .manual => true | .fault => true

/-- Rank, mode, and DRIVE on a position held with HOLD_I (R162, R163); ranks 2 and 5 are the bridge die's within a carrier period. -/
def State.leafMode (l : Nat) (s : State) : Nat × Nat × Bool :=
  let out := s.leafOut l
  let x := s.leaves.nth l
  let m := s.moves.nth l
  if out = 1 ∨ out = 3 then (out, 0, false)
  else if out = 6 then (6, 1, false)
  else if out ≠ 0 then (out, 2, false)
  else if m.phase.moving ∨ m.phase = .hold ∨ x.obs.react ≠ .none then
    (9, 3, (decide (m.phase = .hold) && decide (x.obs.react = .none)) ||
      ((s.dies.nth (l / 4)).uvHold && decide (m.phase = .stopping) && decide (m.vSet = 0) && decide (m.kind ≠ .reaction)))
  else if x.drive.inj.isSome then (10, 4, false)
  else
    let op := (s.seq.portals.nth (l / 2)).st.idleOpen
    let k := if op then s.regs.LDR_L_CFG_IDLE_OPEN l else s.regs.LDR_L_CFG_IDLE_CLOSED l
    (if op then 11 else 12, if k = 0 then 3 else k, decide (k = 0))

/-- Electrical power of the steppers of the last window, mW (R174). -/
def State.stepPower (s : State) : Int :=
  s.steps.toList.foldl (fun a d => a + (d.vA * d.iA + d.vB * d.iB) / 1000) 0

/-- The power budget (R174): scale for the words built in this tick. -/
def State.powerStep (s : State) : State :=
  let reacts := fun (l : Nat) => decide ((s.leaves.nth l).obs.react ≠ .none)
  let p := fun (l : Nat) => (s.leaves.nth l).drive.power
  let pos := fun (l : Nat) => if 0 < p l then p l else 0
  let steps := s.stepPower
  let reacting := (List.range 16).foldl (fun a l => if reacts l then a + pos l else a) (0 : Int)
  let motoring := (List.range 16).foldl (fun a l => if reacts l then a else a + pos l) (0 : Int)
  let avail := (s.regs.LDR_PWR_PWR_LIMIT : Int) * 1000 - steps - reacting
  let limits := decide (avail < motoring)
  let k : Nat := if limits then (clampI 250000 1000000 (avail * 1000000 / motoring)).toNat else 1000000
  let total := (List.range 16).foldl (fun a l => a + p l) steps
  let raise := limits && decide (20000 ≤ s.pwrQuiet)
  let s : State := { s with
    pwrScale := k, pwrNow := pattern 16 (sat16 (divZ total 1000)), pwrQuiet := if limits then 0 else min (s.pwrQuiet + 1) 20000
    leaves := s.leaves.mapIdx (fun l x => { x with drive := { x.drive with pwrLimited := limits && !reacts l && decide (0 < x.drive.power) } }) }
  if raise then s.says [(0x0509, p1 (k / 10000))] else s

/-- A running injection is broken off before the words of the tick are built (R183): the portal has left CLOSED_LOCKED, a command was
taken for it, or a row of R163 above rank 10 governs the leaf. -/
def State.leafAbort (l : Nat) (s : State) : State :=
  let p := s.seq.portals.nth (l / 2)
  if (s.leaves.nth l).drive.inj.isSome ∧ (p.st ≠ .closedLocked ∨ p.taken ∨ (s.leafMode l).1 ≤ 9) then
    (s.driveEv l (LeafDrive.abortInjection l)).injected l false
  else s

/-- Stage 8 of one leaf: mode, loops, injection. onMv: the measured on-state voltage of its die. -/
def State.leafLoops (onMv : Nat → Nat) (s : State) (l : Nat) : State :=
  let rf := s.regs
  let s := s.leafAbort l
  let md := s.leafMode l
  let x := s.leaves.nth l
  let die := s.dies.nth (l / 4)
  let reacts := decide (x.obs.react ≠ .none)
  let inp : LeafIn := { s.leafIn l md.2.1 md.1 md.2.2 with
    scale := if x.drive.pwrLimited && !reacts then s.pwrScale else 1000000 }
  let d := x.drive.loops rf inp x.fbk (s.moves.nth l)
  let held := decide (die.uvHold) && decide ((s.moves.nth l).heldBy.isSome || decide ((s.moves.nth l).phase = .hold))
  let d : LeafDrive := { d with rankMid := x.drive.rank, rank := md.1, mode := md.2.1, relax := x.obs.relaxOn, uvHold := held,
                                tempDerate := decide ((rf.LDR_TEMP_CFG_T_DERATE : Int) < die.temp) }
  let r := d.injectTick rf inp die.temp die.measWin (onMv (l / 4))
  let s := (s.leaf l (fun y => { y with drive := r.1, obs := { y.obs with aWin := y.obs.aNext, aNext := (s.moves.nth l).aSet } })).says r.2
  if d.inj.isSome ∧ r.1.inj.isNone then s.injected l true else s

/-- The legs of a leaf in carrier period c of the next tick (R44, R45, R166, R167, R170), at the sector centre in an injection (R183). -/
def State.leafWord (l c : Nat) (s : State) : List Leg :=
  let x := s.leaves.nth l
  let b := l / 4
  let t := 2500 * (s.time.tick + 1) + (1250 * b + 5000 * c + 2500) / 4
  let ang := if x.drive.mode = 4 then sectorCentre s.regs l x.fbk.code
    else leafAngle s.regs l s.time.tick x.fbk x.drive (s.encRun l) (s.encFaulty l) t
  leafLegs s.regs (s.leafIn l x.drive.mode x.drive.rank false) x.drive.vdNext (torqueSign s.regs l * x.drive.vqNext) ang

/-- A table entry of a step, as stage 8 reads it (R210, R212): none where it is poisoned. -/
def State.readTable (p i : Nat) (s : State) : State × Option Nat :=
  let a := 0x410000 + 0x400 * p + 4 * (i % 256)
  let r := s.mem0.use s.regs 0 1 (a / 8)
  let s : State := { s with mem0 := r.1 }
  if r.2.bad then (s.stepD p (fun d => { d with badWords := (a / 8) :: d.badWords.erase (a / 8) }), none)
  else (s, some (halfWord r.2.data a))

/-- Phase amplitudes at a microstep (R210, R212). -/
def State.stepAmp (p : Nat) (m : Int) (s : State) : State × (Int × Int) :=
  let d := s.steps.nth p
  if d.badWords ≠ [] then (s, (d.goodA, d.goodB)) else
  let r := s.readTable p (m % 256).toNat
  match r.2 with
  | none => (r.1, (d.goodA, d.goodB))
  | some w =>
    let amp := rotateTable m (bitsOf w 15 0 : Nat) (bitsOf w 31 16 : Nat) (decide (s.regs.STP_S_CFG_DIR_INV p = 1))
    (r.1.stepD p (fun d => { d with goodA := amp.1, goodB := amp.2 }), amp)

/-- Rank, mode and current of a step (R220, R221). ceiling: I_MAX after the temperature derate. -/
def State.stepModeNow (p ceiling : Nat) (s : State) : Nat × Nat × Nat :=
  let d := s.steps.nth p
  let die := s.dies.nth (p / 2)
  let hold := s.regs.STP_S_CUR2_I_HOLD p
  let off := s.stepOff p
  let stalled := d.stallNew && decide ((s.moves.nth (16 + p)).kind ≠ .home)
  let moving := (s.moves.nth (16 + p)).phase.moving && !stalled
  if off = 1 ∨ off = 3 ∨ off = 5 then (off, 0, 0)
  else if off = 4 then (4, 1, 0)
  else if off = 6 then (6, 2, hold)
  else if (die.uvHold ∨ die.tempShut) ∧ ¬moving then (7, 2, hold)
  else if moving then (8, 3, d.iRun)
  else (9, 2, if d.reduced ∨ d.homing = .failed then hold else if d.stallHold then ceiling else d.iRun)

/-- The standstill current reduction (R220). -/
def StepDrive.reduce (d : StepDrive) : StepDrive := { d with reduced := true }

/-- Standstill of a step for one tick (R220). -/
def State.stillStep (p : Nat) (s : State) : State :=
  let m := s.moves.nth (16 + p)
  let d := s.steps.nth p
  let still := (!m.phase.moving && decide (m.vSet = 0)) || d.stallNew
  let lim := max (msTicks (s.regs.STP_S_HOLD_T_STANDSTILL p)) 1
  s.stepD p (fun d =>
    let d : StepDrive := { d with still := if still then min (d.still + 1) (lim + 1) else 0, reduced := d.reduced && still }
    if still && decide (lim < d.still) then d.reduce else d)

/-- Ceiling current of a step (R181, R217). -/
def State.stepCeiling (p : Nat) (s : State) : Nat :=
  s.regs.STP_S_CUR_I_MAX p * (s.leafIn (2 * p) 0 0 false).derate / 1000000

/-- The measured currents of a step's last window (R216). -/
def State.stepMeasure (s : State) (p : Nat) : State :=
  let d := s.dies.nth (p / 2)
  s.stepD p (StepDrive.measure (d.phases.nth (12 + 2 * (p % 2))) (d.phases.nth (13 + 2 * (p % 2))))

/-- Stage 8 of one step: the state, and the legs of the two carrier periods (R209, R213 to R220). -/
def State.stepLoops (p : Nat) (s : State) : State × List Leg × List Leg :=
  let rf := s.regs
  let a := 16 + p
  let die := s.dies.nth (p / 2)
  let m := s.moves.nth a
  let ceiling := s.stepCeiling p
  let r := (s.steps.nth p).loadStep rf p m ceiling
  let s := (s.stepD p (fun _ => r.1)).says r.2.1
  let pull := decide (900 ≤ (s.steps.nth p).delta rf p m.speed)
  let s := if r.2.2 then s.stepStall p pull else s
  let s := s.stillStep p
  let md := s.stepModeNow p ceiling
  let m := s.moves.nth a
  let stopped := decide (md.2.1 ≠ 3)
  let v := if stopped then 0 else m.speed
  let micro := fun (c : Int) => (m.pSet + (if stopped then 0 else m.vSet * (2 * c + 1) / 80000)) / q16
  let driven := decide (md.2.1 = 2) || decide (md.2.1 = 3)
  let r0 := if driven then s.stepAmp p (micro 0) else (s, (0, 0))
  let r1 := if driven then r0.1.stepAmp p (micro 1) else (r0.1, (0, 0))
  let s := r1.1
  let poison := decide ((s.steps.nth p).badWords ≠ [])
  let inp : StepIn := { step := p, rail := die.rail, mode := md.2.1, rank := md.1, iNow := md.2.2, amp0 := r0.2, amp1 := r1.2,
                        v := if poison then 0 else v, noEmf := poison }
  let q := (s.steps.nth p).loops rf inp
  let d : StepDrive := { q.1 with modeMid := q.1.mode, mode := md.2.1, rank := md.1, homed := q.1.homed && driven }
  (s.stepD p (fun _ => d), q.2.1, q.2.2)

/-- A list of legs as the vector of a word. -/
def legVector (l : List Leg) : Vector Leg 20 := Vector.ofFn (fun (i : Fin 20) => l.nth i.val)

/-- The gate timing words of one bridge die (R45, R145, R161, R182). -/
def State.dieWords (legs : Nat → List Leg × List Leg) (s : State) (b : Nat) : State :=
  let o := fun (j : Nat) => (s.leaves.nth (4 * b + j)).obs
  let arm := maskOf 4 (fun j => edgeArmed s.regs (4 * b + j) (s.leaves.nth (4 * b + j)).fbk.posUm (o j))
  let ack := maskOf 4 (fun j => !(o j).stroke)
  let asks := fun (j : Nat) => (s.leaves.nth (4 * b + j)).drive.measRequest
  let first := (List.range 4).find? (fun j => decide (asks j ≠ 0))
  let meas := (first.map (fun j => 6 * j + asks j)).getD 0
  let word := fun (c : Nat) =>
    let ls := (List.range 4).flatMap (fun j => s.leafWord (4 * b + j) c)
    let st := fun (k : Nat) => if c = 0 then (legs (2 * b + k)).1 else (legs (2 * b + k)).2
    (⟨legVector (ls ++ st 0 ++ st 1), s.time.armed, arm, ack, meas⟩ : GateWord)
  let s := s.die b (fun d => { d with next := #v[word 0, word 1] })
  match first with
  | some j => s.leaf (4 * b + j) (fun x => { x with drive := x.drive.measGranted })
  | none => s

/-- Stage 8 (R40: leaves before steps). onMv: on-state voltage measured on each die. -/
def State.loopStage (onMv : Nat → Nat) (s : State) : State :=
  let s := (List.range 8).foldl State.stepMeasure s
  let s := (List.range 16).foldl (State.leafLoops onMv) s.powerStep
  let s : State := { s with seq := { s.seq with portals := s.seq.portals.map (fun x => { x with taken := false }) } }
  let r := (List.range 8).foldl (fun (a : State × List (List Leg × List Leg)) p =>
    let q := a.1.stepLoops p
    (q.1, a.2 ++ [(q.2.1, q.2.2)])) (s, [])
  (List.range 4).foldl (State.dieWords (fun p => r.2.nth p)) r.1

end Sys2Proof.Machine
end

