-- ==== Sys2Proof/Machine/Remote.lean ====
section
/-! DEFINITION. The core die's side of links 4, 5 and 6 (R18 to R28): stage 1 intake of the uplink frames, the frames built in stage 9
with their settings slices, the commands of the load switches (R270 to R272, R290) and of the field outputs (R304, R305). -/

namespace Sys2Proof.Machine

/-- Change of one link. -/
def State.link (n : Nat) (f : Link → Link) (s : State) : State := { s with links := { s.links with l := s.links.l.upd n f } }

/-- One tick slot of link 4 or 5 at the core die (R20, R22, R23). -/
def Link.slot (n : Nat) (valid : Bool) (l : Link) : Link × List Ev :=
  if valid then
    let good := l.good + 1
    let l : Link := { l with bad := 0, good := good }
    if l.fault then (if 2 ≤ good then ({ l with fault := false, up := true }, [(0x0002, p1 n)]) else (l, []))
    else ({ l with up := true }, [])
  else
    let l : Link := { l with bad := l.bad + 1, good := 0, errors := satInc 16 l.errors }
    if !l.fault && decide (2 ≤ l.bad) then ({ l with fault := true, sticky := true, up := false }, [(0x0001, p1 n)]) else (l, [])

/-- Downlink frames that the far end of link 4 or 5 reports as discarded count on the link (R20, log 11). -/
def Link.farEnd (n : Nat) (l : Link) : Link := { l with errors := satAdd 16 l.errors n }

/-- One report of link 6 from the switch die (R21). -/
def Link.report6 (fault : Bool) (discards : Nat) (l : Link) : Link × List Ev :=
  let l : Link := { l with errors := satAdd 16 l.errors discards }
  if fault then (if l.fault then (l, []) else ({ l with fault := true, sticky := true, up := false }, [(0x0001, p1 6)]))
  else if l.fault then ({ l with fault := false, up := true }, [(0x0002, p1 6)])
  else ({ l with up := true }, [])

/-- Change of one link with its events. -/
def State.linkEv (n : Nat) (f : Link → Link × List Ev) (s : State) : State :=
  let r := f (s.links.l.nth n)
  (s.link n (fun _ => r.1)).says r.2

/-- What the core die takes of a channel (R287). inrMs: the window in use (R278). -/
def Chan.view (inrMs : Nat) (c : Chan) : ChanView :=
  ⟨c.st, c.cmd, c.tries, c.cause, c.openLoad, c.cond, c.mean, c.peak, c.temp, (c.pause + 999) / 1000, inrMs, c.ocTrips, c.thTrips, c.turnOns⟩

/-- The inrush window in use of a channel (R278): of a lock or release channel the one taken at its last turn-on, of any other the one in
the die's settings latch. -/
def SwitchDie.inrUse (rf : RegFile) (d : SwitchDie) (k : Nat) : Nat :=
  if lockOrRel rf k then (d.chans.nth k).inrUse else (chSet d.settings k).inrMs

/-- The switch die's report of channels, groups and pins as the core die holds it (R287). -/
def Lsw.take (rf : RegFile) (d : SwitchDie) (temp : Int) (x : Lsw) : Lsw :=
  { x with view := d.chans.mapIdx (fun k c => c.view (d.inrUse rf k)), rail := d.groups.map (fun g => g.mean), railMin := d.groups.map (fun g => g.min)
           uv := maskOf 6 (fun g => (d.groups.nth g).uv)
           dip := x.dip ||| maskOf 6 (fun g => d.reports.any (fun r => decide (r.1 = 0x0A07) && decide (r.2.head? = some (BitVec.ofNat 8 g))))
           snsFault := maskOf 6 (fun g => (d.groups.nth g).snsFault)
           dim := maskOf 8 (dimActive d.settings d.dim), swTemp := sat16 temp, armed := d.armed }

/-- The trainline inputs as the core die holds them (R306, R307). -/
def Fio.takeTrain (d : SwitchDie) (x : Fio) : Fio :=
  { x with tlAct := maskOf 6 (fun i => (d.tl.nth i).filt), tlIndet := maskOf 6 (fun i => (d.tl.nth i).indet), tlUnk := 0
           tlV := d.tl.map (fun t => t.mean), tlC := d.tl.map (fun t => t.c), seen4 := true }

/-- Channels whose LSW_TRIP a list of reports holds. -/
def tripsIn (l : List Ev) : List Nat := (l.filter (fun e => decide (e.1 = 0x0A01))).map (fun e => ofLe (e.2.take 1))

/-- A trainline input's quality changed (R307, R308). old: the state before the intake. -/
def State.trainEvents (old s : State) : State :=
  let unk := s.unkTrain
  let cause := fun (x : State) (i : Nat) => if !(x.links.l.nth 4).fault && x.fio.seen4 && x.fio.tlIndet.testBit i then 1 else 2
  let evs := (List.range 6).flatMap (fun i =>
    if unk.testBit i != s.fio.tlWas.testBit i then
      [((0x0B07 : Nat), p1 i ++ p1 (b2n (unk.testBit i)) ++ p1 (if unk.testBit i then cause s i else cause old i))] else [])
  let s : State := { s with fio := { s.fio with tlWas := unk } }
  s.says evs

/-- A channel is owned by the sequencer. -/
def State.seqOwns (k : Nat) (s : State) : Bool := ownedBySeq s.regs k

/-- The reported CMD of every host-owned channel is adopted (R290). -/
def State.adoptCmd (s : State) : State :=
  { s with lsw := { s.lsw with resynced := true, cmd := maskOf 48 (fun k =>
      if s.seqOwns k then s.lsw.cmd.testBit k else (s.lsw.view.nth k).cmd) } }

/-- Stage 1 on link 4 and, through the switch die's reports, on link 6 (R18 to R22, R287, R290, R306). The die's decisions not yet
reported ride in the next frame that is valid. The channels that tripped are returned. -/
def State.link4Intake (valid : Bool) (temp : Int) (s0 : State) : State × List Nat :=
  let s := s0.linkEv 4 (Link.slot 4 valid)
  if !valid then (State.trainEvents s0 s, []) else
  let d := s.sw
  let s := if s.fio.seen4 then s.link 4 (Link.farEnd d.discards4) else s
  let held := (s.links.l.nth 4).fault
  let s := if held then s else s.linkEv 6 (Link.report6 d.fault6 d.discards6)
  let s : State := { s with lsw := s.lsw.take s.regs d temp, fio := s.fio.takeTrain d
                            sw := { d with reports := [], discards4 := 0, discards6 := if held then d.discards6 else 0
                                           wasReset := false, resynced := false } }
  let s := State.trainEvents s0 (s.learnSafe 4 d.auto)
  let s := s.says ((if d.wasReset then [(0x0A09, [])] else []) ++ d.reports)
  let s := if d.resynced then s.adoptCmd else s
  let s := if s.links.now4.slice = 0 ∧ s.links.now4.sent then
      let r := s.ilk.mapReport s.regs (mapCrc d.settings)
      ({ s with ilk := r.1 } : State).says r.2
    else s
  (s, tripsIn d.reports)

/-- The field die's report as the core die holds it (R295 to R302). -/
def Fio.takeField (d : FieldDie) (x : Fio) : Fio :=
  { x with act := d.active, dieUnk := d.unknown, wb := maskOf 64 (fun i => (d.ins.nth i).wb)
           chg := x.chg ||| maskOf 64 (fun i => (d.ins.nth i).chg)
           ins := d.ins.map (fun y => ⟨y.c, y.mean, y.changes, y.wbEvents⟩), seen5 := true, supply := d.supply, fsV := d.mean
           outHigh := maskOf 16 (fun j => (d.outs.nth j).high) }

/-- One output view changed, with its events. -/
def State.outView (j : Nat) (f : OutView → OutView × List Ev) (s : State) : State :=
  let r := f (s.fio.outs.nth j)
  ({ s with fio := { s.fio with outs := s.fio.outs.put j r.1 } } : State).says r.2

/-- Stage 1 on link 5 (R20, R23, R295 to R302, R305). -/
def State.link5Intake (valid : Bool) (s : State) : State :=
  let d := s.field
  let ok := valid && d.up
  let s := s.linkEv 5 (Link.slot 5 ok)
  if !ok then s else
  let s := if s.fio.seen5 then s.link 5 (Link.farEnd d.discards5) else s
  let s : State := { s with fio := s.fio.takeField d
                            field := { d with reports := [], discards5 := 0, resynced := false, ins := d.ins.map (fun x => { x with chg := false })
                                              outs := d.outs.map (fun x => { x with hotTick := x.hot }) } }
  let on := maskOf 16 (fun j => d.outOn j)
  let s := s.says (d.reports ++ (if d.resynced then [(0x0B09, p4 (on : Nat))] else []))
  (List.range 16).foldl (fun (s : State) j =>
    let o := d.outs.nth j
    s.outView j (OutView.check j (s.fio.outCmd.testBit j) o.high o.hotTick (decide (d.supply = 0)) o.mean)) s

/-- The sequencer's command for a channel it owns (R69, R73, R270). -/
def State.seqCmd (k : Nat) (s : State) : Bool :=
  (List.range 8).any (fun p =>
    let rf := s.regs
    let x := s.seq.portals.nth p
    let pulse := decide (1 ≤ x.pulse) && decide (x.pulse ≤ max (rf.SEQ_P_LOCK_SIG_PULSE p) 1)
    (decide (rf.SEQ_P_CHMAP_LOCK_CH p = k) && (x.lockOn || pulse)) ||
    (decide (rf.SEQ_P_CHMAP_REL_CH p = k) && x.relOn) ||
    (decide (rf.SEQ_P_CHMAP_EXT_LAMP p = k) && (rf.SEQ_P_LAMPMAP_EXT_ON p).testBit x.st.code) ||
    (decide (rf.SEQ_P_CHMAP_INT_LAMP p = k) && (rf.SEQ_P_LAMPMAP_INT_ON p).testBit x.st.code))

/-- SEQ_AUTH grants a group for a bank to a port (R87): 0 MOTION, 1 CREW, 2 SERVICE. -/
def groupAuth (rf : RegFile) (port bank group : Nat) : Bool :=
  (if port = 0 then rf.SEQ_AUTH_PORT_A else rf.SEQ_AUTH_PORT_B).testBit (3 * bank + group)

/-- Result word of R271. -/
def fanResult (acted : Nat) (refused : List Nat) : Nat :=
  acted + 256 * refused.length + 65536 * ((refused.head?).getD 0xFF)

/-- The fan-out of R91 over channels or outputs: those acted on, status and result. -/
def fanOut (targets : List Nat) (skip : Bool) (refuses : Nat → Bool) : List Nat × Nat × Nat :=
  let no := targets.filter refuses
  let yes := targets.filter (fun k => !refuses k)
  if targets.isEmpty then ([], 2, 0)
  else if !no.isEmpty ∧ (!skip ∨ yes.isEmpty) then ([], 2, fanResult 0 no)
  else (yes, 0, fanResult yes.length no)

/-- The channels an LSW command names (R271); none where the target is not one it may name. -/
def lswTargets (rf : RegFile) (c : Cmd) : Option (List Nat) :=
  if c.level = 0 ∧ c.index < 48 then some [c.index]
  else if c.level = 2 ∧ c.index < 8 then some (portalChans rf c.index)
  else if c.level = 4 ∧ c.index = 0 then some (List.range 48)
  else none

/-- An LSW command is judged and carried out (R270 to R272): 1 SWITCH, 2 RESTART. -/
def State.lswCmd (job : Job) (code : Nat) (s : State) : State :=
  let c := job.cmd
  let w := c.param.toNat
  let on := w.testBit 0
  if code = 0 ∨ 2 < code then s.finish ⟨job, 2, 0⟩
  else if s.links.autonomous.testBit 4 ∨ (s.links.l.nth 4).fault then s.finish ⟨job, 1, 0⟩
  else match lswTargets s.regs c with
  | none => s.finish ⟨job, 2, 0⟩
  | some targets =>
    if 4 ≤ w ∨ (code = 2 ∧ on) then s.finish ⟨job, 2, 0⟩ else
    let refuses := fun (k : Nat) =>
      let latched := decide ((s.lsw.view.nth k).st = .latched)
      let auth := groupAuth s.regs c.port (bankOf s.regs (s.regs.LSW_C_CFG_PORTAL k)) code
      !auth || (if code = 1 then s.seqOwns k || (on && latched) else !latched)
    let r := fanOut targets (w.testBit 1) refuses
    let lsw : Lsw := if code = 1 then { s.lsw with cmd := r.1.foldl (fun m k => setBit m k on) s.lsw.cmd }
      else { s.lsw with restart := r.1.foldl (fun m k => setBit m k true) s.lsw.restart }
    ({ s with lsw := lsw } : State).finish ⟨job, r.2.1, r.2.2⟩

/-- The outputs a SET_OUT names (R304). -/
def outTargets (rf : RegFile) (c : Cmd) : Option (List Nat) :=
  if c.level = 0 ∧ c.index < 16 then some [c.index]
  else if c.level = 2 ∧ c.index < 8 then some (indices 16 (fun j => decide (rf.FIO_O_CFG_PORTAL j = c.index)))
  else if c.level = 4 ∧ c.index = 0 then some (List.range 16)
  else none

/-- CMD of one output set (R302, R304). -/
def State.setOut (on : Bool) (s : State) (j : Nat) : State :=
  if s.fio.outCmd.testBit j = on then s else
  ({ s with fio := { s.fio with outCmd := setBit s.fio.outCmd j on } } : State).outView j (OutView.changed s.regs j)

/-- An FIO command is judged and carried out (R304): 1 SET_OUT. -/
def State.fioCmd (job : Job) (code : Nat) (s : State) : State :=
  let c := job.cmd
  let w := c.param.toNat
  if code ≠ 1 then s.finish ⟨job, 2, 0⟩
  else if s.field.outsOff ∨ (s.links.l.nth 5).fault then s.finish ⟨job, 1, 0⟩
  else match outTargets s.regs c with
  | none => s.finish ⟨job, 2, 0⟩
  | some targets =>
    if 4 ≤ w then s.finish ⟨job, 2, 0⟩ else
    let refuses := fun (j : Nat) => !groupAuth s.regs c.port (bankOf s.regs (s.regs.FIO_O_CFG_PORTAL j)) 1
    let r := fanOut targets (w.testBit 1) refuses
    (r.1.foldl (State.setOut (w.testBit 0)) s).finish ⟨job, r.2.1, r.2.2⟩

/-- The registers of a row and their words, in index order. -/
def rowWords (rf : RegFile) (r : RegRow) : List (Nat × Word) := (List.range r.count).map (fun i => (r.addr i, rf.word r i))

/-- The word of LSW_C_TIME with the inrush window in use (R278). -/
def State.timeWord (k : Nat) (s : State) : Word :=
  let w := s.regs.word Reg.LSW_C_TIME k
  let use := (List.range 8).findSome? (fun p =>
    if s.regs.SEQ_P_CHMAP_LOCK_CH p = k then some (s.useQ 10 p)
    else if s.regs.SEQ_P_CHMAP_REL_CH p = k then some (s.useQ 11 p)
    else none)
  match use with
  | none => w
  | some v => BitVec.ofNat 32 (w.toNat / 256 * 256 + v % 256)

/-- What a frame carries for a setting just written: LSW_C_TIME with the window in use (R278), any other word as it is. -/
def State.settingWord (off : Nat) (w : Word) (s : State) : Word :=
  match findReg off with
  | some (r, i) => if r.base = Reg.LSW_C_TIME.base then s.timeWord i else w
  | none => w

/-- A word of a slice replaced by what was written since. -/
def amendSlice (off : Nat) (w : Word) (l : List (Nat × Word)) : List (Nat × Word) := l.map (fun c => if c.1 = off then (off, w) else c)

/-- A setting written before the frame goes out rides in it (R27). -/
def Frame4.amend (off : Nat) (w : Word) (f : Frame4) : Frame4 :=
  { f with changes := f.changes ++ [(off, w)], sliceWords := amendSlice off w f.sliceWords }

/-- A setting written before the frame goes out rides in it (R27). -/
def Frame5.amend (off : Nat) (w : Word) (f : Frame5) : Frame5 :=
  { f with changes := f.changes ++ [(off, w)], sliceWords := amendSlice off w f.sliceWords }

/-- The switch die's settings (R28): their order in the slices is the model's (log 11). -/
def State.switchSettings (s : State) : List (Nat × Word) :=
  let rf := s.regs
  rowWords rf Reg.LSW_DIM_CFG ++ rowWords rf Reg.LSW_G_RAIL_CFG ++ rowWords rf Reg.LSW_G_RAIL_TIME ++ rowWords rf Reg.LSW_G_SENSE ++
    rowWords rf Reg.LSW_C_CFG ++ rowWords rf Reg.LSW_C_LIMIT ++
    (List.range 48).map (fun k => (Reg.LSW_C_TIME.addr k, s.timeWord k)) ++ rowWords rf Reg.LSW_C_OL ++
    rowWords rf Reg.ILK_CFG ++ rowWords rf Reg.ILK_FB ++ rowWords rf Reg.ILK_WIN ++ rowWords rf Reg.ILK_B_MAP ++
    rowWords rf Reg.FIO_TL_CFG ++ rowWords rf Reg.FIO_TL_TIME ++ rowWords rf Reg.FIO_TL_FILT0 ++ rowWords rf Reg.FIO_TL_FILT1

/-- The field die's settings (R28). -/
def State.fieldSettings (s : State) : List (Nat × Word) :=
  let rf := s.regs
  rowWords rf Reg.FIO_SUPPLY_CFG ++ rowWords rf Reg.FIO_F_CFG ++ rowWords rf Reg.FIO_O_CFG

/-- One slice of 64 bytes. -/
def sliceOf (k : Nat) (l : List (Nat × Word)) : List (Nat × Word) := (l.drop (16 * k)).take 16

/-- The words of LSW_C_TIME of the lock and release channels: a change of the window in use rides in the next frame (R278). -/
def State.windowWords (s : State) : List (Nat × Word) :=
  (indices 48 (fun k => lockOrRel s.regs k)).map (fun k => (Reg.LSW_C_TIME.addr k, s.timeWord k))

/-- Every setting is carried in the next frames: the load writes them all (R27, R414). -/
def State.sendSettings (s : State) : State :=
  { s with links := { s.links with changes4 := s.switchSettings, changes5 := s.fieldSettings } }

/-- The CMD mask of a link 4 frame: sequencer's and hosts' channels; in link-up, and until a resynchronisation has been reported, what
the switch die last reported (R270, R290, R439). -/
def State.frameCmd (s : State) : Nat :=
  let own := maskOf 48 (fun k => if s.seqOwns k then s.seqCmd k else s.lsw.cmd.testBit k)
  let told := maskOf 48 (fun k => (s.lsw.view.nth k).cmd)
  match s.boot.phase with
  | .linkUp _ => told
  | .first | .running | .deviceReset | .coreReset | .testMode => if s.links.autonomous.testBit 4 then told else own

/-- The resynchronisation command is due (R26, R439). -/
def State.wantsResync (s : State) : Bool :=
  let late := match s.boot.phase with
    | .linkUp n => decide (8 ≤ n)
    | .first | .running => true
    | .deviceReset | .coreReset | .testMode => false
  s.links.resyncAsked || (late && decide (s.regs.GEN_WDT_AUTO_RESYNC = 1) && s.links.autonomous.testBit 4)

/-- Stage 9: the frames for the next tick (R18, R27, R28, R272, R290, R439). -/
def State.buildFrames (s : State) : State :=
  let cmd := s.frameCmd
  let k := s.links
  let linkUp := match s.boot.phase with
    | .linkUp _ => true
    | .first | .running | .deviceReset | .coreReset | .testMode => false
  let f4 : Frame4 :=
    { sent := true, cmd := cmd, restart := s.lsw.restart, arm := s.time.armed, resync := s.wantsResync, slice := k.slice4
      changes := k.changes4 ++ k.next4.changes ++ s.windowWords, sliceWords := sliceOf k.slice4 s.switchSettings, decA := s.ilk.decA
      latchA := decide (s.ilk.st = .latched), clrB := s.ilk.sendClr, passed := s.ilk.passed, tick := s.time.tick + 1, closed := decide (s.ilk.st = .closed) }
  let f5 : Frame5 :=
    { sent := true, cmd := if linkUp then 0 else s.fio.outCmd, arm := s.time.armed, slice := k.slice5, changes := k.changes5 ++ k.next5.changes
      sliceWords := sliceOf k.slice5 s.fieldSettings }
  let n := (indices 48 (fun i => s.seqOwns i && (cmd.testBit i != (s.lsw.view.nth i).cmd))).length
  let tell := s.lsw.resynced
  let s : State := { s with
    links := { k with next4 := f4, next5 := f5, slice4 := (k.slice4 + 1) % 64, slice5 := (k.slice5 + 1) % 32, changes4 := []
                      changes5 := [], resyncAsked := false }
    lsw := { s.lsw with restart := 0, resynced := false, cmd := if linkUp || k.autonomous.testBit 4 then s.lsw.cmd else cmd }
    ilk := { s.ilk with sendClr := false } }
  if tell then s.says [(0x0A08, p4 (n : Nat))] else s

/-- The frames built in the last tick are the ones sent in this one. What is written from clock 0 on waits for the frame of its own tick
(R27). -/
def Links.newTick (k : Links) : Links :=
  { k with now4 := k.next4, next4 := { k.next4 with changes := if k.next4.sent then [] else k.next4.changes }
           now5 := k.next5, next5 := { k.next5 with changes := if k.next5.sent then [] else k.next5.changes } }

end Sys2Proof.Machine
end

