-- ==== Sys2Proof/Machine/RegWrite.lean ====
section
/-! DEFINITION. Writes of BAR0 (R10 to R13, R34, R41, R42, R336, R417, R418, R422, R438): the actions of WO and W1C fields, refusals,
shadows and groups, and what a taken write does beside. -/

namespace Sys2Proof.Machine

/-- Some bits of a word replaced by those of another. -/
def mergeWord (old new : Word) (mask : Nat) : Word :=
  let m : Word := BitVec.ofNat 32 mask
  (old &&& ~~~m) ||| (new &&& m)

/-- A refused write is recorded (R417). -/
def State.rejectWrite (port off cause : Nat) (s : State) : State :=
  let c := s.cfg
  let first := !c.reject
  ({ s with cfg := { c with reject := true, rejCause := if first then cause else c.rejCause, rejPort := if first then port else c.rejPort
                            rejOff := if first then off else c.rejOff, rejCount := satInc 16 c.rejCount } } : State).says
    [(0x1001, p1 port ++ p4 (off : Nat) ++ p1 cause)]

/-- Error counters of the links cleared (GEN_CTRL.CLR_LINK_CNT). -/
def State.clrLinks (s : State) : State := { s with links := { s.links with l := s.links.l.map (fun x => { x with errors := 0 }) } }

/-- High-water marks of the slots cleared. -/
def State.clrSlots (s : State) : State := { s with time := { s.time with hwm := Vector.replicate 11 0 } }

/-- The release of the safe hold is asked for (R50). -/
def State.askClear (s : State) : State := { s with time := { s.time with clrAsked := true } }

/-- Cycle counters cleared. -/
def State.clrCycleCounts (s : State) : State :=
  { s with seq := { s.seq with portals := s.seq.portals.map (fun x => { x with cycles := 0 }) } }

/-- The clearing of the interlock latch is asked for (R119). -/
def State.askLatchClear (s : State) : State := { s with ilk := { s.ilk with clrAsked := true } }

/-- Trip counters cleared. -/
def State.clrTripCounts (s : State) : State :=
  { s with leaves := s.leaves.map (fun x => { x with obs := { x.obs with tripsC := 0, tripsO := 0 } }) }

/-- STP_S_COUNT of every step cleared. -/
def State.clrStepCounts (s : State) : State := { s with steps := s.steps.map (fun d => { d with stalls := 0, ocCount := 0 }) }

/-- Error and change counters of feedback cleared. -/
def State.clrFbkCounts (s : State) : State :=
  { s with leaves := s.leaves.map (fun x => { x with fbk := { x.fbk with seqErrors := 0, dirChanges := 0 } })
           encs := s.encs.map (fun e => { e with phaseErrors := 0, mismatches := 0 }) }

/-- A portal's state lets a feedback fault be cleared (R250). -/
def PState.clearsFbk : PState → Bool
  | .fault => true | .held => true | .isolated => true | .manual => true
  | .closedLocked => false | .unlocking => false | .opening => false | .opened => false | .closing => false | .obstructed => false
  | .reopening => false

/-- REF of a portal cleared (R85, R250). -/
def State.clearRef (p : Nat) (s : State) : State :=
  { s with seq := { s.seq with portals := s.seq.portals.upd p (fun x => { x with ref := false }) } }

/-- A Hall fault is asked to be cleared (R250). -/
def State.clrHallFault (s : State) (l : Nat) : State :=
  let b := (s.leaves.nth l).fbk
  let stands := (b.invalid && decide (3 ≤ b.invTicks)) || decide (b.causeAt = s.time.tick + 1)
  let ok := (s.seq.portals.nth (l / 2)).st.clearsFbk && !stands
  let s := if ok then
      let s := (s.leaf l (fun x => { x with fbk := x.fbk.clearFault })).clearRef (l / 2)
      match servingPort s.regs l with
      | some e => { s with encs := s.encs.upd e (fun e => { e with hallRun := 0 }) }
      | none => s
    else s
  s.says [(0x0807, p1 l ++ p1 (b2n !ok))]

/-- An encoder fault is asked to be cleared (R250). -/
def State.clrEncFault (s : State) (e : Nat) : State :=
  let l := s.regs.FBK_E_CFG_LEAF e
  let stands := decide ((s.encs.nth e).causeAt = s.time.tick + 1)
  let ok := decide (16 ≤ l) || ((s.seq.portals.nth (l / 2)).st.clearsFbk && !stands)
  let s := if ok then
      let s : State := { s with encs := s.encs.upd e EncFbk.clearFault }
      if l < 16 then s.clearRef (l / 2) else s
    else s
  s.says [(0x0807, p1 e ++ p1 (b2n !ok))]

/-- Every alarm bit of the patina cleared. -/
def State.clrAlarms (s : State) : State :=
  s.patMod (fun p => { p with st := { p.st with leaves := p.st.leaves.map (fun x => { x with alarm := 0 })
                                                portals := p.st.portals.map (fun x => { x with alarm := 0 }) } })

/-- A save of the patina is asked for (R265). -/
def State.askSave (s : State) : State := s.patMod (fun p => { p with saveAsked := true })

/-- LSW_C_COUNT and LSW_C_TURN_ONS of every channel cleared. -/
def State.clrChanCounts (s : State) : State :=
  { s with sw := { s.sw with chans := s.sw.chans.map (fun c => { c with ocTrips := 0, thTrips := 0, turnOns := 0 }) }
           lsw := { s.lsw with view := s.lsw.view.map (fun c => { c with ocTrips := 0, thTrips := 0, turnOns := 0 }) } }

/-- FIO_F_COUNT and FIO_O_COUNT of every point cleared. -/
def State.clrFieldCounts (s : State) : State :=
  { s with field := { s.field with ins := s.field.ins.map (fun x => { x with changes := 0, wbEvents := 0 }) }
           fio := { s.fio with ins := s.fio.ins.map (fun x => { x with changes := 0, wbEvents := 0 })
                               outs := s.fio.outs.map (fun o => { o with forcedEvents := 0, lowEvents := 0 }) } }

/-- HIF_TRACK_HWM cleared. -/
def State.clrTrackHwm (s : State) : State := { s with hif := { s.hif with hwm := 0 } }

/-- HIF_P_STAT0 to HIF_P_STAT2 of a port cleared. -/
def State.clrPortStat (port : Nat) (s : State) : State :=
  { s with hif := s.hif.port port (fun p =>
    { p with jetsIgnored := 0, pageViol := 0, lost := 0, unrouted := 0, lateFetch := 0, deferred := 0 }) }

/-- MEM_M_CE_COUNT and MEM_M_UE_COUNT of both memories cleared, CONSUMED with them. -/
def State.clrMemCounts (s : State) : State :=
  { s with mem0 := { s.mem0 with ceCount := 0, ueCount := 0, consumed := 0 }
           mem1 := { s.mem1 with ceCount := 0, ueCount := 0, consumed := 0 } }

/-- REC_COUNT cleared. -/
def State.clrRecCount (s : State) : State := s.recMod (fun r => { r with damaged := 0, cuts := 0 })

/-- The first tick whose clock 0 takes a T-class write that came at a clock of the present tick (R42). -/
def State.dueAt (clk : Nat) (s : State) : Nat := if clk < 9800 then s.time.tick + 1 else s.time.tick + 2

/-- A port's group opens (R418). -/
def State.groupOpen (port : Nat) (s : State) : State := { s with cfg := { s.cfg with groupOpen := s.cfg.groupOpen.put port true } }

/-- A port's group is released (R418). -/
def State.groupCommit (port clk : Nat) (s : State) : State :=
  let due := s.dueAt clk
  let new := (s.cfg.groups.nth port).map (fun x => (⟨port, x.1, x.2, due⟩ : Shadow))
  { s with cfg := { s.cfg with groupOpen := s.cfg.groupOpen.put port false, groups := s.cfg.groups.put port []
                               shadows := s.cfg.shadows ++ new } }

/-- A compare unit is disarmed at the next boundary (R200). -/
def State.disarm (a clk : Nat) (s : State) : State :=
  let due := s.dueAt clk
  s.move a (fun m => { m with cmp := { m.cmp with disarmDue := due } })

/-- GEN_RESET (R435). -/
def State.askReset (port : Nat) (w : Word) (s : State) : State :=
  if fldW w 31 16 = 0x4858 ∧ w.getLsbD 0 ∧ port = s.regs.HIF_CFG_SAFETY_PORT then { s with boot := { s.boot with resetAsked := true } }
  else s

/-- The resynchronisation command is asked for (R26). -/
def State.askResync (s : State) : State := { s with links := { s.links with resyncAsked := true } }

/-- The indices whose bits are set in a field. -/
def setBits (w : Word) (hi lo : Nat) : List Nat := indices (hi + 1 - lo) (fun k => (fldW w hi lo).testBit k)

/-- The actions of the WO fields of a register written with a word (R12). -/
def State.wordActs (r : RegRow) (i port clk : Nat) (w : Word) (s : State) : State :=
  let b := r.base
  let on := fun (k : Nat) (f : State → State) (s : State) => if w.getLsbD k then f s else s
  if b = Reg.GEN_CTRL.base then on 0 State.clrLinks (on 1 State.askResync s)
  else if b = Reg.GEN_RESET.base then s.askReset port w
  else if b = Reg.TCK_CTRL.base then on 0 State.askClear (on 1 State.clrSlots s)
  else if b = Reg.SEQ_CTRL.base then on 0 State.clrCycleCounts s
  else if b = Reg.ILK_CTRL.base then on 0 State.askLatchClear s
  else if b = Reg.OBS_CTRL.base then on 0 State.clrTripCounts s
  else if b = Reg.LDR_CTRL.base then (setBits w 15 0).foldl State.clrLeafOc s
  else if b = Reg.MPG_A_CMP_CFG.base then on 7 (State.disarm i clk) s
  else if b = Reg.STP_CTRL.base then on 0 State.clrStepCounts ((setBits w 15 8).foldl State.clrStepOc s)
  else if b = Reg.FBK_CTRL.base then
    on 24 State.clrFbkCounts ((setBits w 23 16).foldl State.clrEncFault ((setBits w 15 0).foldl State.clrHallFault s))
  else if b = Reg.PAT_CTRL.base then on 0 State.askSave (on 1 State.clrAlarms s)
  else if b = Reg.LSW_CTRL.base then on 0 State.clrChanCounts s
  else if b = Reg.FIO_CTRL.base then on 0 State.clrFieldCounts s
  else if b = Reg.HIF_CTRL.base then on 0 State.clrTrackHwm s
  else if b = Reg.HIF_P_CTRL.base then on 0 (State.clrPortStat i) s
  else if b = Reg.HIF_R_CTRL.base then on 1 (State.ringDisable (i / 64) (i % 64)) (on 0 (State.ringEnable (i / 64) (i % 64)) s)
  else if b = Reg.MEM_CTRL.base then on 0 State.clrMemCounts s
  else if b = Reg.REC_CTRL.base then on 0 State.clrRecCount s
  else if b = Reg.CFG_CTRL.base then on 1 (State.groupCommit port clk) (on 0 (State.groupOpen port) s)
  else s

/-- The W1C fields of a register written with a word (R12). -/
def State.wordClears (r : RegRow) (i : Nat) (w : Word) (s : State) : State :=
  let b := r.base
  let bit := fun (k : Nat) => w.getLsbD k
  if b = Reg.GEN_LINK_STATUS.base then
    { s with links := { s.links with l := s.links.l.mapIdx (fun n x => if bit (8 + n) then { x with sticky := false } else x) } }
  else if b = Reg.MPG_A_CMP_STATUS.base then
    s.move i (fun m => { m with cmp := { m.cmp with behind := m.cmp.behind && !bit 2, fired := m.cmp.fired && !bit 1 } })
  else if b = Reg.FBK_L_STATUS.base then
    s.leaf i (fun x => { x with fbk := { x.fbk with hallMm := x.fbk.hallMm && !bit 9, seqErr := x.fbk.seqErr && !bit 8
                                                    dirChg := x.fbk.dirChg && !bit 5 } })
  else if b = Reg.FBK_E_STATUS.base then
    { s with encs := s.encs.upd i (fun e => { e with indexMm := e.indexMm && !bit 7, phaseErr := e.phaseErr && !bit 6 }) }
  else if b = Reg.LSW_G_FLAGS.base then
    if bit 1 then { s with lsw := { s.lsw with dip := setBit s.lsw.dip i false } } else s
  else if b = Reg.FIO_F_STATUS.base then
    if bit 7 then { s with fio := { s.fio with chg := setBit s.fio.chg i false } } else s
  else if b = Reg.CAN_C_TXFAIL.base then
    s.can (i / 4) (fun c => { c with txfail := andNot c.txfail (w.toNat * 2 ^ (32 * (i % 4))) })
  else if b = Reg.MEM_M_INJ_STATUS.base then
    if bit 1 then
      (if i = 0 then { s with mem0 := { s.mem0 with injFired := false } } else { s with mem1 := { s.mem1 with injFired := false } })
    else s
  else if b = Reg.CFG_REJECT.base then
    if bit 24 then { s with cfg := { s.cfg with reject := false } } else s
  else s

/-- The bits of a register that the active relief holds (R422). -/
def Cfg.heldMask (off : Nat) (c : Cfg) : Nat :=
  (c.saved.filter (fun e => decide (e.off = off))).foldl (fun m e => m ||| ((2 ^ e.width - 1) * 2 ^ e.lsb)) 0

/-- NT starts anew: its mode has changed. -/
def Time.restartNt (t : Time) : Time :=
  { t with ntValid := false, anchors := 0, anchorNt := 0, anchorDtc := 0, rate := 0, lastRefDtc := 0, lastSentNt := 0, refAge := 0
           masterAge := 0 }

/-- A setting of the switch die or of the field die written in tick n rides in the frame of the start of tick n + 1 (R27). -/
def State.noteRemote (off : Nat) (w : Word) (s : State) : State :=
  let four := decide (off / 65536 = 10) || (decide (0x30004 ≤ off) && decide (off < 0x30020)) ||
    (decide (0xB0040 ≤ off) && decide (off < 0xB0050))
  let five := decide (off = 0xB0008) || (decide (0xB1000 ≤ off) && decide (off < 0xC0000))
  let k := s.links
  { s with links := { k with next4 := if four then k.next4.amend off (s.settingWord off w) else k.next4
                             next5 := if five then k.next5.amend off w else k.next5 } }

/-- A register of class L or I takes a word, with what hangs on it (R27, R56, R314, R316). -/
def State.takeWord (r : RegRow) (i : Nat) (w : Word) (s : State) : State :=
  let old := s.regs
  let f := old.setWord r i w
  let s : State := ({ s with regs := f } : State).noteRemote (r.addr i) w
  let b := r.base
  if b = Reg.CAN_C_MODE.base then
    s.can i (fun c => if c.mode = 0 then c.toMode i (f.CAN_C_MODE_MODE i) else { c with asked := true })
  else if b = Reg.CAN_C_OBJ_EN.base then
    let ctl := i / 4
    s.can ctl (fun c => { c with txreq := (List.range 32).foldl (fun m k =>
      let o := 32 * (i % 4) + k
      if objEnabled old ctl o && !objEnabled f ctl o && objTx f ctl o then setBit m o false else m) c.txreq })
  else if b = Reg.TCK_NT_CFG.base then
    if f.TCK_NT_CFG_MODE = old.TCK_NT_CFG_MODE ∧ f.TCK_NT_CFG_SRC = old.TCK_NT_CFG_SRC then s
    else { s with time := s.time.restartNt }
  else s

/-- The register file as a port's T-class writes that wait would leave it. -/
def State.pendingRegs (port : Nat) (s : State) : RegFile :=
  let f := s.cfg.shadows.foldl (fun (f : RegFile) x => f.setOff x.off x.word) s.regs
  (s.cfg.groups.nth port).foldl (fun (f : RegFile) x => f.setOff x.1 x.2) f

/-- A T-class word goes to the port's open group or to a shadow (R41, R418): none where the group is full. -/
def State.shadowWord (port off clk : Nat) (w : Word) (s : State) : Option State :=
  if s.cfg.groupOpen.nth port then
    let g := s.cfg.groups.nth port
    let has := g.any (fun x => decide (x.1 = off))
    if !has ∧ 256 ≤ g.length then none else
    let g := if has then g.map (fun x => if x.1 = off then (off, w) else x) else g ++ [(off, w)]
    some { s with cfg := { s.cfg with groups := s.cfg.groups.put port g } }
  else some { s with cfg := { s.cfg with shadows := s.cfg.shadows ++ [⟨port, off, w, s.dueAt clk⟩] } }

/-- The bits of a register that belong to the time master: a host's write has no effect on them (R330). -/
def masterBits (f : RegFile) (r : RegRow) (i : Nat) : Nat :=
  if (r.base = Reg.CAN_O_ID.base ∨ r.base = Reg.CAN_O_CFG.base) ∧ masterObj f (i / 128) (i % 128) then 0xFFFFFFFF
  else if r.base = Reg.CAN_C_OBJ_EN.base ∧ i % 4 = 3 ∧ masterObj f (i / 4) 127 then 0x80000000
  else 0

/-- The RW and RWL fields of a register written with a word: taken, shadowed or refused (R417, R418, R422). -/
def State.wordFields (r : RegRow) (i port clk : Nat) (w : Word) (s : State) : State :=
  let off := r.addr i
  let mask := andNot (r.rw ||| r.rwl) (masterBits s.regs r i)
  if mask = 0 then s
  else if r.rwl ≠ 0 then s.rejectWrite port off 2
  else if r.cls = .idle ∧ s.blockRuns r i then s.rejectWrite port off 1
  else
    let g := if r.cls = .tick then s.pendingRegs port else s.regs
    let old := g.word r i
    let new := mergeWord old w mask
    let new := if r.base = Reg.HIF_R_CFG.base ∧ i / 64 = s.regs.HIF_CFG_SAFETY_PORT ∧ i % 64 < 4 then mergeWord new 0 0xC else new
    let held := s.cfg.heldMask off
    let take := mergeWord new (s.regs.word r i) held
    let f := g.setWord r i take
    if !valueOk g f r i w || !s.stateOk f r i then s.rejectWrite port off 3
    else
      let t := if r.cls = .tick then s.shadowWord port off clk take else some (s.takeWord r i take)
      match t with
      | none => s.rejectWrite port off 5
      | some t => if take = new then t else t.rejectWrite port off 4

/-- A write of BAR0 (R10, R11, R336, R438). be: byte enables. -/
def State.regWrite (port off : Nat) (w : Word) (be clk : Nat) (s : State) : State :=
  if !s.up ∨ !s.portLive port ∨ be ≠ 15 ∨ off % 4 ≠ 0 ∨ 0x100000 ≤ off ∨ portReg (1 - port) off then s else
  match findReg off with
  | none => s
  | some (r, i) => ((s.wordActs r i port clk w).wordClears r i w).wordFields r i port clk w

/-- A profile field taken at a boundary is judged against the move that runs (R193). -/
def State.judgeField (r : RegRow) (i : Nat) (w : Word) (s : State) : State :=
  let a := i / 4
  let x := (s.moves.nth a).judgeWrite a (i % 4) (r.base - Reg.MPG_A_Sk_RAMP.base) w.toNat
  (s.move a (fun _ => x.1)).says x.2

/-- A shadow is taken at clock 0 (R41, R419): the state, and the axis whose compare position was written. -/
def State.takeShadow (a : State × List Nat) (x : Shadow) : State × List Nat :=
  let s := a.1
  match findReg x.off with
  | none => a
  | some (r, i) =>
    let take := mergeWord x.word (s.regs.word r i) (s.cfg.heldMask x.off)
    let s : State := { s with regs := s.regs.setWord r i take }
    let s := if r.inner = 4 ∧ r.base / 65536 = 6 then s.judgeField r i take else s
    let s := if take = x.word then s else s.rejectWrite x.port x.off 4
    (s, if r.base = Reg.MPG_A_CMP_POS.base then i :: a.2 else a.2)

/-- Shadows and released groups that are due, port A before port B (R34, R419). -/
def State.takeShadows (s : State) : State × List Nat :=
  let due := s.cfg.shadows.filter (fun x => decide (x.due ≤ s.time.tick))
  let s : State := { s with cfg := { s.cfg with shadows := s.cfg.shadows.filter (fun x => !decide (x.due ≤ s.time.tick)) } }
  ((due.filter (fun x => decide (x.port = 0))) ++ (due.filter (fun x => decide (x.port ≠ 0)))).foldl State.takeShadow (s, [])

end Sys2Proof.Machine
end

