-- ==== Sys2Proof/Machine/PagesCmd.lean ====
section
/-! DEFINITION. The commands that move armatures and microstep tables through cistern pages: ARM_LOAD and ARM_READ (R157), TBL_LOAD and
TBL_READ (R211). -/

namespace Sys2Proof.Machine

/-- A command's page was taken as DEVICE-owned and not busy: REJECTED 2, BUSY 1, else 0 (R157, R211). -/
def State.devicePage (page : Nat) (s : State) : Nat :=
  if s.hif.owner page ≠ 0 then 2 else if s.hif.busy.testBit page then 1 else 0

/-- Any word of a list is marked poisoned. -/
def anyBad (l : List (DWord × Bool)) : Bool := l.any (fun x => x.2)

/-- Words copied within memory 0, poison carried (R379); the page passes to the host that issued the command. -/
def State.copyPage (job : Job) (page src dst n : Nat) (s : State) : State :=
  let r := s.mem0.readWords s.regs 0 14 src n
  ({ s with mem0 := r.1.writeWords 0 14 dst r.2, hif := s.hif.setOwner page (hostOf job.cmd.port) } : State).finish
    ⟨job, if anyBad r.2 then 3 else 0, 0⟩

/-- An OBS command is judged and carried out in stage 6 (R157): 1 ARM_LOAD, 2 ARM_READ. -/
def State.obsCmd (job : Job) (code : Nat) (s : State) : State :=
  let c := job.cmd
  let w := c.param.toNat
  let dir := w % 2
  let page := bitsOf w 21 12
  let l := c.index
  let answer := fun (st : Nat) => s.finish ⟨job, st, 0⟩
  if c.level ≠ 1 ∨ 16 ≤ l ∨ bitsOf w 11 1 ≠ 0 ∨ bitsOf w 31 22 ≠ 0 ∨ code = 0 ∨ 2 < code ∨
      !serviceAuth s.regs c.port (bankOf s.regs (l / 2)) then answer 2
  else if s.devicePage page ≠ 0 then answer (s.devicePage page)
  else if code = 1 then
    if s.runsIn l dir then answer 1 else s.copyPage job page (512 * page) (armAddr l dir 0 / 8) 256
  else s.copyPage job page (armAddr l dir 0 / 8) (512 * page) 256

/-- First word of a step's microstep table (R37). -/
def tableWord (p : Nat) : Nat := 0x82000 + 0x80 * p

/-- The 32-bit entries of words. -/
def entriesOf (l : List (DWord × Bool)) : List Nat := l.flatMap (fun x => [bitsOf x.1.toNat 31 0, bitsOf x.1.toNat 63 32])

/-- An entry that TBL_LOAD accepts (R211). -/
def entryOk (e : Nat) : Bool :=
  let a := bitsOf e 15 0
  let b := bitsOf e 31 16
  decide (16384 * 16384 ≤ a * a + b * b) && decide (a * a + b * b ≤ 65535 * 65535)

/-- An STP command is judged and carried out in stage 6 (R211): 1 TBL_LOAD, 2 TBL_READ. -/
def State.stpCmd (job : Job) (code : Nat) (s : State) : State :=
  let c := job.cmd
  let w := c.param.toNat
  let page := bitsOf w 21 12
  let p := c.index - 16
  let answer := fun (st : Nat) (s : State) => s.finish ⟨job, st, 0⟩
  if c.level ≠ 1 ∨ c.index < 16 ∨ 24 ≤ c.index ∨ bitsOf w 11 0 ≠ 0 ∨ bitsOf w 31 22 ≠ 0 ∨ code = 0 ∨ 2 < code ∨
      !serviceAuth s.regs c.port (bankOf s.regs p) then answer 2 s
  else if s.devicePage page ≠ 0 then answer (s.devicePage page) s
  else if code = 2 then s.copyPage job page (tableWord p) (512 * page) 128
  else if (s.steps.nth p).mode = 3 then answer 1 s
  else
    let r := s.mem0.readWords s.regs 0 14 (512 * page) 128
    let s : State := { s with mem0 := r.1 }
    let es := entriesOf r.2
    if anyBad r.2 then answer 3 s
    else if !es.all entryOk then answer 2 s
    else answer 0 (({ s with hif := s.hif.setOwner page (hostOf c.port) } : State).stepD p (fun d => { d with tblNext := es }))

/-- Words of pairs of entries. -/
def entryWords : List Nat → List (DWord × Bool)
  | a :: b :: l => (BitVec.ofNat 64 (a + 4294967296 * b), false) :: entryWords l
  | _ => []

/-- Tables that wait are taken whole at the tick boundary (R211). -/
def State.takeTables (s : State) : State :=
  (List.range 8).foldl (fun (s : State) p =>
    let t := (s.steps.nth p).tblNext
    if t.isEmpty then s else
    ({ s with mem0 := s.mem0.writeWords 0 14 (tableWord p) (entryWords t) } : State).stepD p (fun d => { d with tblNext := [] })) s

end Sys2Proof.Machine
end

