-- ==== Sys2Proof/Machine/RegStarts.lean ====
section
/-! DEFINITION. Where the writable fields of each register begin, as the register tables of the chapters give them: what an image
entry may name (R410, R413). -/

namespace Sys2Proof.Machine

/-- Lowest bits of the writable fields, part 0. -/
def fieldStarts0 : List (Nat × Nat) :=
  [(Reg.TCK_NT_CFG.base, 0x1000105),
   (Reg.TCK_NT_REF_ID.base, 0x20000001),
   (Reg.TCK_NT_STEPLIM.base, 0x1),
   (Reg.SEQ_BANK_MAP.base, 0x10001),
   (Reg.SEQ_AUTH.base, 0x1001),
   (Reg.SEQ_BANK_CFG.base, 0x10001F1),
   (Reg.SEQ_BANK_TIME.base, 0x10001),
   (Reg.SEQ_P_INMAP.base, 0x1010101),
   (Reg.SEQ_P_INMAP2.base, 0x1),
   (Reg.SEQ_P_CHMAP.base, 0x1010101),
   (Reg.SEQ_P_CFG.base, 0x1119),
   (Reg.SEQ_P_OPEN_POS.base, 0x1),
   (Reg.SEQ_P_TOL.base, 0x10001),
   (Reg.SEQ_P_STEP_POS.base, 0x1),
   (Reg.SEQ_P_STEP_ZONE.base, 0x1),
   (Reg.SEQ_P_TIMER0.base, 0x10001),
   (Reg.SEQ_P_TIMER1.base, 0x10001),
   (Reg.SEQ_P_TIMER2.base, 0x10001),
   (Reg.SEQ_P_TIMER3.base, 0x10001),
   (Reg.SEQ_P_LOCK.base, 0x10001),
   (Reg.SEQ_P_LOCKSIG.base, 0x10001),
   (Reg.SEQ_P_LAMPMAP.base, 0x10001)]

/-- Lowest bits of the writable fields, part 1. -/
def fieldStarts1 : List (Nat × Nat) :=
  [(Reg.SEQ_P_REFSPEED.base, 0x1),
   (Reg.ILK_CFG.base, 0x10B),
   (Reg.ILK_FB.base, 0x10001),
   (Reg.ILK_WIN.base, 0x10001),
   (Reg.ILK_B_MAP.base, 0x1010101),
   (Reg.OBS_L_KT.base, 0x1),
   (Reg.OBS_L_KF.base, 0x1),
   (Reg.OBS_L_MASS.base, 0x1),
   (Reg.OBS_L_STROKE.base, 0x1),
   (Reg.OBS_L_EDGE.base, 0x10001),
   (Reg.OBS_L_CRIT_C.base, 0x1010101),
   (Reg.OBS_L_CRIT_O.base, 0x1010101),
   (Reg.OBS_L_FORCE_C.base, 0x10001),
   (Reg.OBS_L_FORCE_O.base, 0x10001),
   (Reg.OBS_L_MARGIN_C.base, 0x10001),
   (Reg.OBS_L_MARGIN_O.base, 0x10001),
   (Reg.OBS_L_ZONE_C.base, 0x10001),
   (Reg.OBS_L_ZONE_O.base, 0x10001),
   (Reg.OBS_L_SPDMIN_C.base, 0x1),
   (Reg.OBS_L_SPDMIN_O.base, 0x1),
   (Reg.OBS_L_REACT_C.base, 0x5),
   (Reg.OBS_L_REACT_O.base, 0x5)]

/-- Lowest bits of the writable fields, part 2. -/
def fieldStarts2 : List (Nat × Nat) :=
  [(Reg.OBS_L_REVDIST_C.base, 0x1),
   (Reg.OBS_L_REVDIST_O.base, 0x1),
   (Reg.OBS_L_REVACC_C.base, 0x1),
   (Reg.OBS_L_REVACC_O.base, 0x1),
   (Reg.OBS_L_REVSPD_C.base, 0x1),
   (Reg.OBS_L_REVSPD_O.base, 0x1),
   (Reg.OBS_P_CURTAIN.base, 0x1010017),
   (Reg.LDR_L_CFG.base, 0x1503),
   (Reg.LDR_L_UMREV.base, 0x1),
   (Reg.LDR_L_HALL.base, 0x1),
   (Reg.LDR_L_MOTOR.base, 0x10001),
   (Reg.LDR_L_KE.base, 0x1),
   (Reg.LDR_L_CUR_PI.base, 0x10001),
   (Reg.LDR_L_SPD_PI.base, 0x10001),
   (Reg.LDR_L_POS.base, 0x1),
   (Reg.LDR_L_ILIM.base, 0x10001),
   (Reg.LDR_L_OC.base, 0x10001),
   (Reg.LDR_L_I2T.base, 0x10001),
   (Reg.LDR_L_INJ.base, 0x10001),
   (Reg.LDR_RAIL_CFG.base, 0x10001),
   (Reg.LDR_RAIL_OV.base, 0x10001),
   (Reg.LDR_UV_DECEL.base, 0x1)]

/-- Lowest bits of the writable fields, part 3. -/
def fieldStarts3 : List (Nat × Nat) :=
  [(Reg.LDR_PWR.base, 0x10001),
   (Reg.LDR_TEMP_CFG.base, 0x10001),
   (Reg.LDR_PWM.base, 0x10101),
   (Reg.MPG_A_CFG.base, 0x1),
   (Reg.MPG_A_LIM_LO.base, 0x1),
   (Reg.MPG_A_LIM_HI.base, 0x1),
   (Reg.MPG_A_Sk_RAMP.base, 0x1),
   (Reg.MPG_A_Sk_V_START.base, 0x1),
   (Reg.MPG_A_Sk_V_STOP.base, 0x1),
   (Reg.MPG_A_Sk_V_BREAK.base, 0x1),
   (Reg.MPG_A_Sk_V_MAX.base, 0x1),
   (Reg.MPG_A_Sk_A1.base, 0x1),
   (Reg.MPG_A_Sk_A2.base, 0x1),
   (Reg.MPG_A_Sk_D1.base, 0x1),
   (Reg.MPG_A_Sk_D2.base, 0x1),
   (Reg.MPG_A_Sk_JERK.base, 0x1),
   (Reg.MPG_A_Sk_CUSHION.base, 0x1),
   (Reg.MPG_A_CMP_POS.base, 0x1),
   (Reg.MPG_A_CMP_CFG.base, 0x1),
   (Reg.MPG_A_CMP_INTERVAL.base, 0x1),
   (Reg.MPG_A_GEAR_CFG.base, 0x1),
   (Reg.MPG_A_RATIO1.base, 0x1)]

/-- Lowest bits of the writable fields, part 4. -/
def fieldStarts4 : List (Nat × Nat) :=
  [(Reg.MPG_A_RATIO2.base, 0x1),
   (Reg.MPG_A_M_CHANGE.base, 0x1),
   (Reg.STP_S_CFG.base, 0x1000003),
   (Reg.STP_S_MOTOR.base, 0x10001),
   (Reg.STP_S_KE.base, 0x1),
   (Reg.STP_S_CUR.base, 0x10001),
   (Reg.STP_S_CUR2.base, 0x10001),
   (Reg.STP_S_ADAPT.base, 0x1010101),
   (Reg.STP_S_LOADTH.base, 0x10001),
   (Reg.STP_S_STALL.base, 0x10100),
   (Reg.STP_S_VMIN.base, 0x1),
   (Reg.STP_S_HOLD.base, 0x1),
   (Reg.STP_S_PWM.base, 0x10101),
   (Reg.STP_S_OC.base, 0x10001),
   (Reg.STP_S_HOME.base, 0x1000001),
   (Reg.STP_S_HOME_DIST.base, 0x1),
   (Reg.FBK_FILT.base, 0x101),
   (Reg.FBK_L_CFG.base, 0x3),
   (Reg.FBK_L_WIN.base, 0x10001),
   (Reg.FBK_E_CFG.base, 0x701),
   (Reg.FBK_E_GEOM.base, 0x1010001),
   (Reg.FBK_E_WIN.base, 0x10001)]

/-- Lowest bits of the writable fields, part 5. -/
def fieldStarts5 : List (Nat × Nat) :=
  [(Reg.PAT_CFG.base, 0x1010001),
   (Reg.PAT_FILT.base, 0x11010001),
   (Reg.PAT_ARM_CFG.base, 0x1010001),
   (Reg.PAT_EXP_LIM.base, 0x10001),
   (Reg.PAT_MAR_LIM.base, 0x10001),
   (Reg.PAT_CUSH_LIM.base, 0x10001),
   (Reg.PAT_CUSH_CLR.base, 0x1),
   (Reg.PAT_TO_LIM.base, 0x1010101),
   (Reg.PAT_INR_LIM.base, 0x1010100),
   (Reg.LSW_DIM_CFG.base, 0x10001),
   (Reg.LSW_G_RAIL_CFG.base, 0x10001),
   (Reg.LSW_G_RAIL_TIME.base, 0x10101),
   (Reg.LSW_G_SENSE.base, 0x15),
   (Reg.LSW_C_CFG.base, 0x11010101),
   (Reg.LSW_C_LIMIT.base, 0x10001),
   (Reg.LSW_C_TIME.base, 0x10101),
   (Reg.LSW_C_OL.base, 0x1),
   (Reg.FIO_SUPPLY_CFG.base, 0x10000),
   (Reg.FIO_TL_CFG.base, 0x10101),
   (Reg.FIO_TL_TIME.base, 0x10000),
   (Reg.FIO_TL_FILT0.base, 0x1),
   (Reg.FIO_TL_FILT1.base, 0x1)]

/-- Lowest bits of the writable fields, part 6. -/
def fieldStarts6 : List (Nat × Nat) :=
  [(Reg.FIO_F_CFG.base, 0x10103),
   (Reg.FIO_O_CFG.base, 0x101),
   (Reg.CAN_C_MODE.base, 0x1),
   (Reg.CAN_C_CFG.base, 0x1),
   (Reg.CAN_C_NBT.base, 0x1010101),
   (Reg.CAN_C_DBT.base, 0x10111),
   (Reg.CAN_C_TDC.base, 0x80010001),
   (Reg.CAN_C_OBJ_EN.base, 0x1),
   (Reg.CAN_O_ID.base, 0x20000001),
   (Reg.CAN_O_CFG.base, 0x10F),
   (Reg.CAN_C_AUTH.base, 0x3),
   (Reg.HIF_CFG.base, 0x1),
   (Reg.HIF_SUBSYS.base, 0x10001),
   (Reg.HIF_R_CFG.base, 0x11005),
   (Reg.HIF_R_BASE_LO.base, 0x1),
   (Reg.HIF_R_BASE_HI.base, 0x1),
   (Reg.HIF_R_CQ_LO.base, 0x1),
   (Reg.HIF_R_CQ_HI.base, 0x1),
   (Reg.HIF_R_EVMASK.base, 0x1),
   (Reg.HIF_R_MOD.base, 0x10001),
   (Reg.MEM_CFG.base, 0x1),
   (Reg.MEM_AUTH.base, 0x3)]

/-- Lowest bits of the writable fields, part 7. -/
def fieldStarts7 : List (Nat × Nat) :=
  [(Reg.MEM_M_RANGE_LO.base, 0x1),
   (Reg.MEM_M_RANGE_HI.base, 0x1),
   (Reg.MEM_M_PATROL.base, 0x1),
   (Reg.MEM_M_WEIR.base, 0x10001),
   (Reg.MEM_M_FLIP0.base, 0x1),
   (Reg.MEM_M_FLIP1.base, 0x1),
   (Reg.MEM_M_FLIP2.base, 0x1),
   (Reg.MEM_M_INJ_ADDR.base, 0x1),
   (Reg.MEM_M_INJ_CFG.base, 0x1),
   (Reg.REC_CFG.base, 0x10101),
   (Reg.REC_AUTH.base, 0x3),
   (Reg.REC_P_FROM_LO.base, 0x1),
   (Reg.REC_P_FROM_HI.base, 0x1),
   (Reg.REC_U_CFG.base, 0x1010100),
   (Reg.REC_U_PRE.base, 0x1),
   (Reg.CFG_AUTH.base, 0xF),
   (Reg.CFG_RELIEF_WAIT.base, 0x1),
   (Reg.GEN_WDT.base, 0x101)]

/-- The lowest bits of the writable fields of a row, as a mask. -/
def fieldStarts (base : Nat) : Nat :=
  (lookupStart (fieldStarts0 ++ fieldStarts1 ++ fieldStarts2 ++ fieldStarts3 ++ fieldStarts4 ++ fieldStarts5 ++ fieldStarts6 ++ fieldStarts7)).getD 0
where
  /-- Search by base. -/
  lookupStart : List (Nat × Nat) → Option Nat
    | [] => none
    | (b, m) :: l => if b = base then some m else lookupStart l

/-- Bits lsb to lsb + width - 1 are one writable field of a row. -/
def isField (r : RegRow) (lsb width : Nat) : Bool :=
  let m := fieldStarts r.base
  let w := r.rw ||| r.rwl
  decide (0 < width) && decide (lsb + width ≤ 32) && m.testBit lsb &&
    (List.range (width - 1)).all (fun k => w.testBit (lsb + 1 + k) && !m.testBit (lsb + 1 + k)) &&
    (m.testBit (lsb + width) || !w.testBit (lsb + width))

end Sys2Proof.Machine
end

