-- ==== Sys2Proof/Machine/Cfg.lean ====
section
/-! DEFINITION. Configuration (chapter 17): image banks and their check, the loader, the commit, reliefs, image commands. -/

namespace Sys2Proof.Machine

/-- First word of a bank in memory 1 (R408). -/
def bankWord (b : Nat) : Nat := 0x7C0000 + 0x20000 * b

/-- MAGIC and COMMIT (R409). -/
def imgMagic : Nat := 0x46435848
/-- COMMIT of a committed image. -/
def imgCommitWord : Nat := 0x5A5AC3C3

/-- An image whose check has passed. -/
structure Image where
  gen    : Nat
  id     : Nat
  boot   : Nat
  plinth : List CfgEntry
  reliefs : List (List CfgEntry)
  armOff : Nat
  tblOff : Nat

/-- Words of a bank read by the loader (agent 12 of R380): offset in words of eight bytes. -/
def MemUnit.bankRead (rf : RegFile) (b off n : Nat) (u : MemUnit) : MemUnit × List (DWord × Bool) :=
  u.useWords rf 1 12 (bankWord b + off) n

/-- A word of a list as a number. -/
def wordAt (l : List (DWord × Bool)) (i : Nat) : Nat := (l.nth i).1.toNat

/-- An entry as its eight bytes give it (R410). -/
def entryOf (d : Nat) : CfgEntry := ⟨bitsOf d 19 0, bitsOf d 25 21, bitsOf d 30 26 + 1, bitsOf d 63 32⟩

/-- The form of an entry (R410). -/
def entryForm (d : Nat) : Bool :=
  let e := entryOf d
  !d.testBit 31 && !d.testBit 20 && decide (e.off % 4 = 0) && decide (e.lsb + e.width ≤ 32) && decide (e.value < 2 ^ e.width)

/-- Entries rise by OFFSET, then LSB (R410). -/
def entriesRise : List CfgEntry → Bool
  | [] => true
  | [_] => true
  | a :: b :: l => (decide (a.off < b.off) || (decide (a.off = b.off) && decide (a.lsb < b.lsb))) && entriesRise (b :: l)

/-- An entry names one writable field (R413 cause 5). -/
def plinthEntry (e : CfgEntry) : Bool :=
  match findReg e.off with
  | none => false
  | some (r, _) => isField r e.lsb e.width

/-- An entry a relief may hold (R421): one RW field, outside GEN, TCK, HIF, MEM and CFG. -/
def reliefEntry (e : CfgEntry) : Bool :=
  let blk := e.off / 65536
  match findReg e.off with
  | none => false
  | some (r, _) => isField r e.lsb e.width && r.rw.testBit e.lsb && decide (1 < blk) && decide (blk ≠ 13) && decide (blk ≠ 14) &&
      decide (e.off < 0xF8000)

/-- A section lies within its limits (R409): offset and length of a section, length of the image. -/
def sectionOk (off len img : Nat) : Bool :=
  decide (len = 0) || (decide (0x1000 ≤ off) && decide (off % 8 = 0) && decide (len % 8 = 0) && decide (off + len + 4 ≤ img))

/-- A field of a word replaced. -/
def putField (w lsb width v : Nat) : Nat := w - bitsOf w (lsb + width - 1) lsb * 2 ^ lsb + v % 2 ^ width * 2 ^ lsb

/-- The word of a register with the values of a list's entries for it. -/
def entriesWord (off : Nat) (es : List CfgEntry) (w : Word) : Word :=
  BitVec.ofNat 32 ((es.filter (fun e => decide (e.off = off))).foldl (fun w e => putField w e.lsb e.width e.value) w.toNat)

/-- The registers that entries name, in their order. -/
def entryRegs (es : List CfgEntry) : List Nat := (es.map (fun e => e.off)).eraseDups

/-- One register of the plinth written (R414): none where a range rule refuses it. -/
def plinthReg (es : List CfgEntry) (f : Option RegFile) (off : Nat) : Option RegFile :=
  match f, findReg off with
  | some f, some (r, i) =>
    let w := entriesWord off es (f.word r i)
    let g := f.setWord r i w
    if valueOk f g r i w then some (if off / 65536 = 13 then g.safetyClasses else g) else none
  | _, _ => none

/-- The registers as a plinth leaves them (R410, R414); none where a field refuses its entry. -/
def plinthRegs (es : List CfgEntry) : Option RegFile := (entryRegs es).foldl (plinthReg es) (some RegFile.reset.safetyClasses)

/-- Words of a section of an image. -/
def sectionWords (ws : List (DWord × Bool)) (off len : Nat) : List Nat :=
  ((ws.drop (off / 8)).take (len / 8)).map (fun x => x.1.toNat)

/-- The check of an image's words (R409 to R414, R421): the cause of R413, 0 none, and the image. ws: the words of its length. -/
def imgCheck (ws : List (DWord × Bool)) : Nat × Option Image :=
  let h := wordAt ws
  let len := bitsOf (h 2) 63 32
  let count := bitsOf (h 2) 31 24
  let crc := ofLe ((wordBytes ((ws.drop (len / 8 - 1)).take 1)).drop 4)
  let body := ((wordBytes ws).take (len - 4)).drop 16
  let pl := sectionWords ws (bitsOf (h 4) 31 0) (bitsOf (h 4) 63 32)
  let rels := (List.range count).map (fun r => sectionWords ws (bitsOf (h (8 + 2 * r)) 31 0) (bitsOf (h (8 + 2 * r)) 63 32))
  if anyBad ws then (4, none)
  else if crc32c body ≠ crc then (3, none)
  else
    let es := pl.map entryOf
    let rs := rels.map (fun l => l.map entryOf)
    if !pl.all entryForm || !entriesRise es || !es.all plinthEntry || (plinthRegs es).isNone then (5, none)
    else if !rels.all (fun l => l.all entryForm) || !rs.all entriesRise || !rs.all (fun l => l.all reliefEntry) then (7, none)
    else (0, some ⟨bitsOf (h 0) 63 32, bitsOf (h 3) 31 0, bitsOf (h 3) 39 32, es, rs, bitsOf (h 5) 31 0, bitsOf (h 5) 63 32⟩)

/-- The checks of an image's header (R409): causes 1 and 2 of R413, 0 none. hs: its first forty words. -/
def headerCause (hs : List (DWord × Bool)) : Nat :=
  let h := wordAt hs
  let count := bitsOf (h 2) 31 24
  let len := bitsOf (h 2) 63 32
  let boot := bitsOf (h 3) 39 32
  let blob := fun (off n : Nat) => decide (off = 0) || sectionOk off n len
  if bitsOf (h 0) 31 0 ≠ imgMagic ∨ bitsOf (h 2) 15 0 ≠ 1 ∨ bitsOf (h 2) 23 16 ≠ 1 then 1
  else if 16 < count ∨ len % 8 ≠ 0 ∨ len < 0x1000 ∨ 0xA0000 < len ∨ !(decide (boot = 0xFF) || decide (boot < count)) ∨
      !sectionOk (bitsOf (h 4) 31 0) (bitsOf (h 4) 63 32) len ∨ !blob (bitsOf (h 5) 31 0) 65536 ∨ !blob (bitsOf (h 5) 63 32) 8192 ∨
      !(List.range count).all (fun r => sectionOk (bitsOf (h (8 + 2 * r)) 31 0) (bitsOf (h (8 + 2 * r)) 63 32) len) then 2
  else 0

/-- A bank verified as the loader does (R413, R414): cause, 0 none, and the image. -/
def MemUnit.imgVerify (rf : RegFile) (b : Nat) (u : MemUnit) : MemUnit × Nat × Option Image :=
  let a := u.bankRead rf b 0 40
  if anyBad a.2 then (a.1, 4, none)
  else if headerCause a.2 ≠ 0 then (a.1, headerCause a.2, none)
  else
    let c := a.1.bankRead rf b 0 (bitsOf (wordAt a.2 2) 63 32 / 8)
    (c.1, imgCheck c.2)

/-- A bank's header as the loader first sees it: GENERATION and CFG_ID where MAGIC and COMMIT match (R413), and whether COMMIT
matches. -/
def MemUnit.imgProbe (rf : RegFile) (b : Nat) (u : MemUnit) : MemUnit × Option (Nat × Nat) × Bool :=
  let a := u.bankRead rf b 0 4
  let com := decide (bitsOf (wordAt a.2 1) 31 0 = imgCommitWord)
  (a.1, if bitsOf (wordAt a.2 0) 31 0 = imgMagic ∧ com then some (bitsOf (wordAt a.2 0) 63 32, bitsOf (wordAt a.2 3) 31 0) else none, com)

/-- Change of a bank's state. -/
def State.bankState (b : Nat) (f : BankState → BankState) (s : State) : State :=
  { s with cfg := { s.cfg with banks := s.cfg.banks.upd b f } }

/-- Default contents written over a region of memory 0 (R210, R412). -/
def MemUnit.defaults (arm tbl : Bool) (u : MemUnit) : MemUnit :=
  { u with store := { u.store with
      armDefault := u.store.armDefault || arm, tblDefault := u.store.tblDefault || tbl
      cells := u.store.cells.filter (fun c => !(arm && inArmRegion c.1) && !(tbl && inTblRegion c.1)) } }

/-- A blob of the image copied into memory 0 as full words, or the defaults where there is none (R412). -/
def State.loadBlob (b off dst n : Nat) (s : State) : State :=
  if off = 0 then { s with mem0 := s.mem0.defaults (decide (dst = 0x80000)) (decide (dst = 0x82000)) } else
  let r := s.mem1.bankRead s.regs b (off / 8) n
  { s with mem1 := r.1, mem0 := s.mem0.writeWords 0 14 dst r.2 }

/-- A word that a relief writes or gives back (R419, R420): the state, and the axes whose compare position was written. -/
def State.reliefWord (es : List CfgEntry) (check : Bool) (a : State × List Nat) (off : Nat) : State × List Nat :=
  let s := a.1
  match findReg off with
  | none => a
  | some (r, i) =>
    let w := entriesWord off es (s.regs.word r i)
    if check && !valueOk s.regs (s.regs.setWord r i w) r i w then a else
    let s := if r.cls = .tick then ({ s with regs := s.regs.setWord r i w } : State).noteRemote off w else s.takeWord r i w
    let s := if r.inner = 4 ∧ r.base / 65536 = 6 then s.judgeField r i w else s
    (s, if r.base = Reg.MPG_A_CMP_POS.base then i :: a.2 else a.2)

/-- The value in use of each field that entries name. -/
def savedValues (f : RegFile) (es : List CfgEntry) : List CfgEntry :=
  es.map (fun e =>
    match findReg e.off with
    | none => e
    | some (r, i) => { e with value := f.fld r i (e.lsb + e.width - 1) e.lsb })

/-- The relief in force is withdrawn and another, or none, applied (R419, R420). -/
def State.changeRelief (new : Nat) (s : State) : State × List Nat :=
  let a := (entryRegs s.cfg.saved).foldl (State.reliefWord s.cfg.saved false) (s, [])
  let es := s.cfg.reliefs.nth new
  let b := (entryRegs es).foldl (State.reliefWord es true)
    ({ a.1 with cfg := { a.1.cfg with saved := savedValues a.1.regs es, relief := new } }, a.2)
  b

/-- An image is put into force (R412, R414): plinth, blobs, boot relief. -/
def State.applyImage (b : Nat) (m : Image) (s : State) : State :=
  let f := (plinthRegs m.plinth).getD s.regs
  let s : State := { s with
    regs := f, cfg := { s.cfg with bank := b, id := m.id, gen := m.gen, noImage := false, reliefs := m.reliefs, relief := 0x1F, saved := [] } }
  let s := (List.range 4).foldl (fun (s : State) c =>
    if f.CAN_C_MODE_MODE c = 0 then s else s.can c (fun x => x.toMode c (f.CAN_C_MODE_MODE c))) s
  let s := (s.loadBlob b m.armOff 0x80000 8192).loadBlob b m.tblOff 0x82000 1024
  if m.boot = 0xFF then s else (s.changeRelief m.boot).1

/-- One candidate tried (R413); done: a bank has been loaded already. -/
def State.tryBank (a : State × Bool) (b : Nat) : State × Bool :=
  if a.2 then a else
  let s := a.1
  let r := s.mem1.imgVerify s.regs b
  let s : State := { s with mem1 := r.1 }
  match r.2.2 with
  | some m => ((s.bankState b (fun x => { x with cause := 0, valid := true, gen := m.gen, id := m.id })).applyImage b m, true)
  | none => ((s.bankState b (fun x => { x with cause := r.2.1, valid := false })).says [(0x1003, p1 b ++ p1 r.2.1)], false)

/-- What the loader's first look shows of a bank: COMMITTED, and GENERATION and CFG_ID of a candidate. -/
def State.bankSeen (b : Nat) (id : Option (Nat × Nat)) (com : Bool) (s : State) : State :=
  s.bankState b (fun x => { x with committed := com, gen := (id.getD (x.gen, x.id)).1, id := (id.getD (x.gen, x.id)).2 })

/-- A bank that is not committed fails (R413 cause 6). -/
def State.uncommitted (b : Nat) (id : Option (Nat × Nat)) (com : Bool) (s : State) : State :=
  let s := s.bankSeen b id com
  if com then s else (s.bankState b (fun x => { x with cause := 6, valid := false })).says [(0x1003, p1 b ++ p1 6)]

/-- PORTAL_EN set to none (R415, R436). -/
def RegFile.noPortals (f : RegFile) : RegFile :=
  f.setWord Reg.SEQ_BANK_MAP 0 (f.word Reg.SEQ_BANK_MAP 0 &&& 0xFF00FFFF)

/-- The order in which the loader tries the banks whose MAGIC and COMMIT match (R413), by their GENERATION. -/
def bankOrder (a b : Option Nat) : List Nat :=
  match a, b with
  | some g0, some g1 => if g0 < g1 then [1, 0] else [0, 1]
  | some _, none => [0]
  | none, some _ => [1]
  | none, none => []

/-- No image is in force (R412, R415, R455); bank: the one that is not the idle bank. -/
def State.noImage (bank : Nat) (s : State) : State :=
  ({ s with regs := RegFile.reset.safetyClasses.noPortals, mem0 := s.mem0.defaults true true
            cfg := { s.cfg with noImage := true, bank := bank, id := 0, gen := 0, reliefs := [], relief := 0x1F, saved := [] } } :
    State).says [(0x1004, [])]

/-- The load at start-up (R413 to R415, R455). -/
def State.loadConfig (s : State) : State :=
  let p0 := s.mem1.imgProbe s.regs 0
  let p1' := p0.1.imgProbe s.regs 1
  let order := bankOrder (p0.2.1.map (fun x => x.1)) (p1'.2.1.map (fun x => x.1))
  let s : State := { s with mem1 := p1'.1 }
  if s.boot.straps.testBit 7 then
    let s := (s.bankSeen 0 p0.2.1 p0.2.2).bankSeen 1 p1'.2.1 p1'.2.2
    s.noImage (1 - (order.head?).getD 0)
  else
    let r := order.foldl State.tryBank ((s.uncommitted 0 p0.2.1 p0.2.2).uncommitted 1 p1'.2.1 p1'.2.2, false)
    if r.2 then r.1 else r.1.noImage 0

/-- FIO_ILK_WIRING of the portals in scope (R300). -/
def wiringEvents (rf : RegFile) : List Ev :=
  (indices 8 (fun p => rf.ILK_CFG_SCOPE.testBit p && decide (wiringFlags rf p ≠ 0))).map (fun p => (0x0B08, p1 p ++ p1 (wiringFlags rf p)))

/-- The configuration commit (R110, R300, R375, R416, R436). -/
def State.commitConfig (s : State) : State :=
  let s : State := { s with regs := if s.boot.storm then s.regs.noPortals else s.regs }
  let k := s.ilk.commitCheck s.regs
  let mode := b2n (s.boot.straps.testBit 0)
  let exp := s.regs.MEM_CFG_INIT_EXP
  let s := ({ s with ilk := k.1, cfg := { s.cfg with committed := true } } : State).says k.2
  let s := s.says (wiringEvents s.regs)
  let s := if exp ≠ 0 ∧ exp ≠ mode + 1 then s.says [(0x0E06, p1 mode ++ p1 exp)] else s
  s.sendSettings.says [(0x1002, p1 s.cfg.bank ++ p4 (s.cfg.gen : Nat) ++ p4 (s.cfg.id : Nat) ++ p1 s.cfg.relief)]

/-- A port may ask for reliefs, or for image commands (R424). -/
def cfgAuth (rf : RegFile) (port : Nat) (install : Bool) : Bool :=
  decide ((if install then (if port = 0 then rf.CFG_AUTH_INSTALL_A else rf.CFG_AUTH_INSTALL_B)
    else if port = 0 then rf.CFG_AUTH_RELIEF_A else rf.CFG_AUTH_RELIEF_B) = 1)

/-- RELIEF_SET is judged (R423). -/
def State.reliefCmd (job : Job) (s : State) : State :=
  let c := job.cmd
  let w := c.param.toNat
  let r := w % 32
  let answer := fun (st : Nat) => s.finish ⟨job, st, 0⟩
  if c.level ≠ 4 ∨ c.index ≠ 0 ∨ !cfgAuth s.regs c.port false ∨ 32 ≤ w ∨ !(decide (r = 0x1F) || decide (r < s.cfg.reliefs.length)) then answer 2
  else if s.cfg.request.isSome then answer 1
  else if s.cfg.relief = r then answer 0
  else
    let left := if c.limit = 0 then 20 * max s.regs.CFG_RELIEF_WAIT_WAIT_MS 1 else job.born + 20 * c.limit - s.time.tick
    { s with cfg := { s.cfg with request := some ⟨r, job, s.time.tick, left, false, false, 0, false⟩ } }

/-- No I-class field that the change writes belongs to a running block (R423). -/
def State.reliefFree (r : Nat) (s : State) : Bool :=
  (s.cfg.saved ++ s.cfg.reliefs.nth r).all (fun e =>
    match findReg e.off with
    | none => true
    | some (row, i) => !(decide (row.cls = .idle) && s.blockRuns row i))

/-- Change of the pending request. -/
def State.reliefReq (f : ReliefReq → ReliefReq) (s : State) : State :=
  { s with cfg := { s.cfg with request := s.cfg.request.map f } }

/-- The boundary guard checks the pending request (R423). -/
def State.reliefGuard (s : State) : State :=
  match s.cfg.request with
  | none => s
  | some q => if !q.applied ∧ !q.poison ∧ s.reliefFree q.relief then s.reliefReq (fun q => { q with go := true }) else s

/-- A word of the relief's section is poisoned as the loader reads it (R423): the state after the reading, and whether. -/
def State.reliefPoison (r : Nat) (s : State) : State × Bool :=
  if 16 ≤ r then (s, false) else
  let a := s.mem1.bankRead s.regs s.cfg.bank (8 + 2 * r) 1
  let b := a.1.bankRead s.regs s.cfg.bank (bitsOf (wordAt a.2 0) 31 0 / 8 % 0x14000) (min (bitsOf (wordAt a.2 0) 63 32 / 8) 0x14000)
  ({ s with mem1 := b.1 }, anyBad a.2 || anyBad b.2)

/-- A request that passed the check is applied at clock 0 (R419, R423): the state, and the axes whose compare position was written. -/
def State.reliefTake (s : State) : State × List Nat :=
  match s.cfg.request with
  | none => (s, [])
  | some q =>
    if !q.go ∨ q.applied ∨ q.poison then (s, []) else
    let x := s.reliefPoison q.relief
    if x.2 then (x.1.reliefReq (fun q => { q with poison := true }), []) else
    let old := x.1.cfg.relief
    let a := x.1.changeRelief q.relief
    (a.1.reliefReq (fun q => { q with applied := true, was := old }), a.2)

/-- The request leaves with a status. -/
def State.reliefEnd (q : ReliefReq) (status result : Nat) (s : State) : State :=
  ({ s with cfg := { s.cfg with request := none } } : State).finish ⟨q.job, status, result⟩

/-- A request's time limit has passed (R423). -/
def State.reliefTimeout (s : State) : State :=
  match s.cfg.request with
  | none => s
  | some q => if q.applied ∨ q.poison then s else s.reliefEnd q 4 0

/-- The request in stage 11 (R423): complete, out of time, or waiting. -/
def State.reliefTick (s : State) : State :=
  match s.cfg.request with
  | none => s
  | some q =>
    if q.applied then (s.says [(0x1005, p1 q.was ++ p1 q.relief)]).reliefEnd q 0 0
    else if q.poison then s.reliefEnd q 2 4
    else if q.left ≤ 1 then s.reliefTimeout
    else s.reliefReq (fun q => { q with left := q.left - 1 })

/-- Bytes of four written into a bank of memory 1. -/
def State.bankPut (b off v : Nat) (s : State) : State :=
  { s with mem1 := s.mem1.writeBytes s.regs 1 14 (8 * bankWord b + off) (leBytes 4 v) }

/-- The idle bank. -/
def Cfg.idle (c : Cfg) : Nat := 1 - c.bank

/-- An image command is judged (R424): 2 IMG_WRITE, 3 IMG_COMMIT, 4 IMG_READ. -/
def State.imgCmd (job : Job) (code : Nat) (s : State) : State :=
  let c := job.cmd
  let w := c.param.toNat
  let count := bitsOf w 31 24
  let page := bitsOf w 21 12
  let off := bitsOf w 11 4
  let owner := if code = 2 then hostOf c.port else 0
  let b := if code = 4 then w % 2 else s.cfg.idle
  let answer := fun (st : Nat) => s.finish ⟨job, st, 0⟩
  let start := fun (s : State) => { s with cfg := { s.cfg with install := some ⟨job, code, b, page, count, off, 0, false⟩ } }
  if c.level ≠ 4 ∨ c.index ≠ 0 ∨ !cfgAuth s.regs c.port true then answer 2
  else if code = 3 then
    if w ≠ 0 then answer 2 else if s.cfg.install.isSome then answer 1 else start s
  else if bitsOf w 23 22 ≠ 0 ∨ bitsOf w 3 1 ≠ 0 ∨ (code = 2 ∧ w % 2 = 1) ∨ count = 0 ∨ 160 < count ∨ 160 < off + count ∨
      1024 < page + count ∨ !s.hif.allOwned page count owner then answer 2
  else if s.hif.anyBusy page count ∨ s.cfg.install.isSome then answer 1
  else
    let s := start { s with hif := s.hif.setBusy page count true }
    if code = 2 then (s.bankPut b 8 0).bankState b (fun x => { x with committed := false }) else s

/-- A CFG command is judged in stage 11 (R424). -/
def State.cfgCmd (job : Job) (code : Nat) (s : State) : State :=
  if code = 1 then s.reliefCmd job
  else if code = 2 ∨ code = 3 ∨ code = 4 then s.imgCmd job code
  else s.finish ⟨job, 2, 0⟩

/-- COMMITTED of a bank follows the first page that IMG_WRITE puts into it. -/
def State.headWritten (q : Install) (ws : List (DWord × Bool)) (s : State) : State :=
  if q.off4k + q.moved = 0 then s.bankState q.bank (fun x => { x with committed := decide (bitsOf (wordAt ws 1) 31 0 = imgCommitWord) }) else s

/-- One page of an image command moves, poison carried (R379, R424). -/
def State.imgPage (q : Install) (s : State) : State × Install :=
  let p := 512 * (q.page + q.moved)
  let d := bankWord q.bank + 512 * (q.off4k + q.moved)
  if q.code = 2 then
    let r := s.mem0.readWords s.regs 0 12 p 512
    (({ s with mem0 := r.1, mem1 := s.mem1.writeWords 1 14 d r.2 } : State).headWritten q r.2, { q with moved := q.moved + 1, poison := q.poison || anyBad r.2 })
  else
    let r := s.mem1.readWords s.regs 1 12 d 512
    ({ s with mem1 := r.1, mem0 := s.mem0.writeWords 0 14 p r.2 }, { q with moved := q.moved + 1, poison := q.poison || anyBad r.2 })

/-- Pages of an image command, as many as given or as are left. -/
def State.imgPages (s : State) (q : Install) : Nat → State × Install
  | 0 => (s, q)
  | n + 1 => if q.count ≤ q.moved then (s, q) else
    let x := s.imgPage q
    x.1.imgPages x.2 n

/-- An image command ends: its pages cease to be busy. -/
def State.imgEnd (q : Install) (status result : Nat) (s : State) : State :=
  ({ s with hif := if q.code = 3 then s.hif else s.hif.setBusy q.page q.count false, cfg := { s.cfg with install := none } } : State).finish
    ⟨q.job, status, result⟩

/-- All pages of an image command have moved (R424): pages read pass to the issuing host. -/
def State.imgMoved (q : Install) (s : State) : State :=
  let s : State := if q.code = 4 then { s with hif := s.hif.setOwners q.page q.count (hostOf q.job.cmd.port) } else s
  s.imgEnd q (if q.poison then 3 else 0) 0

/-- The higher GENERATION of the two banks (R455): of those whose MAGIC matches. -/
def State.topGen (s : State) : State × Nat :=
  let a := s.mem1.bankRead s.regs 0 0 1
  let b := a.1.bankRead s.regs 1 0 1
  let g := fun (w : Nat) => if bitsOf w 31 0 = imgMagic then bitsOf w 63 32 else 0
  ({ s with mem1 := b.1 }, max (g (wordAt a.2 0)) (g (wordAt b.2 0)))

/-- IMG_COMMIT is carried out (R424, R455). -/
def State.imgCommit (q : Install) (s : State) : State :=
  let r := s.mem1.imgVerify s.regs q.bank
  let s : State := { s with mem1 := r.1 }
  match r.2.2 with
  | none => (s.bankState q.bank (fun x => { x with cause := r.2.1, valid := false })).imgEnd q 2 r.2.1
  | some m =>
    let g := if s.boot.straps.testBit 7 then s.topGen else (s, s.cfg.gen)
    let s := g.1
    let gen := (g.2 + 1) % 4294967296
    let s := s.putSection q.bank ⟨0, true, .reset, []⟩
    let s := (s.bankPut q.bank 4 gen).bankPut q.bank 8 imgCommitWord
    ((s.bankState q.bank (fun _ => ⟨0, true, true, gen, m.id⟩)).says [(0x1006, p1 q.bank ++ p4 (gen : Nat) ++ p4 (m.id : Nat))]).imgEnd q 0 0

/-- The running image command finishes (R424): code 2 or 4 its pages, 3 its commit. -/
def State.imgDone (code : Nat) (s : State) : State :=
  match s.cfg.install with
  | none => s
  | some q =>
    if q.code ≠ code then s
    else if code = 3 then s.imgCommit q
    else
      let x := s.imgPages q 160
      x.1.imgMoved x.2

/-- One tick of the running image command in stage 11, one page per tick (R347, R424, log 12). -/
def State.imgTick (s : State) : State :=
  match s.cfg.install with
  | none => s
  | some q =>
    if q.job.cmd.limit ≠ 0 ∧ q.job.born + 20 * q.job.cmd.limit ≤ s.time.tick then s.imgEnd q 4 0
    else if q.code = 3 then s.imgCommit q
    else
      let x := s.imgPage q
      if x.2.count ≤ x.2.moved then x.1.imgMoved x.2 else { x.1 with cfg := { x.1.cfg with install := some x.2 } }

end Sys2Proof.Machine
end

