-- ==== Sys2Proof/Machine/Boot.lean ====
section
/-! DEFINITION. Resets and start-up (chapter 18): device and core resets, reset release, VDRV of the bridge dies, link-up. -/

namespace Sys2Proof.Machine

/-- The core die runs: from reset release on. -/
def State.coreRuns (s : State) : Bool :=
  match s.boot.phase with
  | .linkUp _ => true | .first => true | .running => true
  | .deviceReset => false | .coreReset => false | .testMode => false

/-- What a core reset leaves of a bridge die (R431): the die itself is not reset; what the core die holds of it is. -/
def BridgeDie.coreReset (d : BridgeDie) : BridgeDie :=
  { BridgeDie.reset with
    armed := d.armed, good := d.good, missed := d.missed, safe := d.safe, vdrvOk := d.vdrvOk, loaded := d.loaded, edge := d.edge
    override := d.override, leafTrip := d.leafTrip, stepTrip := d.stepTrip, half := d.half }

/-- What a device reset leaves of a bridge die: its inputs, the gate driver supply and the sensitive edges. -/
def BridgeDie.deviceReset (d : BridgeDie) : BridgeDie := { BridgeDie.reset with vdrvOk := d.vdrvOk, edge := d.edge }

/-- 600 s in ticks (R436). -/
def stormSpan : Nat := 12000000

/-- A tick of the switch die's own oscillator: the ages of the last watchdog and clock resets (R436). -/
def Boot.older (b : Boot) : Boot := { b with stormTimes := (b.stormTimes.map (· + 1)).filter (fun t => decide (t < stormSpan)) }

/-- Start-up data as a reset leaves them (R431, R436). -/
def Boot.enter (device : Bool) (cause : Nat) (b : Boot) : Boot :=
  let counts := !device && (decide (cause = 4) || decide (cause = 5))
  let times := if device then [] else if counts then 0 :: b.stormTimes else b.stormTimes
  { Boot.reset with
    phase := if device then .deviceReset else .coreReset
    straps := b.straps, cause := 2 ^ cause, vdrvLow := b.vdrvLow
    coreResets := if device then 0 else satInc 8 b.coreResets
    storm := !device && (b.storm || (counts && decide (3 ≤ times.length)))
    stormTimes := times }

/-- A reset begins (R431, R446): the core die and the record die's interface, and in a device reset every other die. -/
def State.enterReset (device : Bool) (cause : Nat) (s : State) : State :=
  { State.reset with
    pending := s.pending, freeCount := s.freeCount, out := s.out
    boot := s.boot.enter device cause
    sw := if device then { SwitchDie.reset with dim := s.sw.dim } else s.sw
    field := if device then FieldDie.reset else s.field
    dies := s.dies.map (if device then BridgeDie.deviceReset else BridgeDie.coreReset)
    pat := { Pat.reset with sections := s.pat.sections }
    mem0 := .reset s.mem0.store, mem1 := .reset s.mem1.store }

/-- A device reset; none in test mode's stead: it ends that mode too (R431, R456). -/
def State.deviceReset (cause : Nat) (s : State) : State := s.enterReset true cause

/-- A core reset (R431): only where the core die runs. -/
def State.coreReset (cause : Nat) (s : State) : State := if s.coreRuns then s.enterReset false cause else s

/-- RST_N is low for a time in ns (R432). -/
def State.rstLow (ns : Nat) (s : State) : State :=
  if ns < 1000 then s else
  let t := s.deviceReset 1
  { t with boot := { t.boot with shortPulse := decide (ns < 10000) } }

/-- Which words of memory 0 a short pulse leaves valid under VALIDBIT is open (R432): free value n + w decides on word w, and one on all
words not listed (log 4). -/
def Memory.partly (n : Nat) (m : Memory) : Memory :=
  ⟨m.filled && (Config.freeValue n).testBit 0, false, false,
   (m.cells.filter (fun c => c.2.valid && (Config.freeValue (n + 1 + c.1)).testBit 0)).filter (fun c =>
     !(m.filled && (Config.freeValue n).testBit 0 && decide (c.2 = .encode 0)))⟩

/-- Memory 0 at reset release (R373, R374, R432). -/
def State.initMemory (straps : Nat) (s : State) : State :=
  if !straps.testBit 0 then { s with mem0 := .reset ⟨true, false, false, []⟩ }
  else if s.boot.shortPulse then
    { s with mem0 := .reset (s.mem0.store.partly s.freeCount), freeCount := s.freeCount + 1 + memWords 0 }
  else { s with mem0 := .reset .blank }

/-- Straps are sampled and the DTC starts (R433, R437 step 1); us: from reset release to the commit, whose tick is the first the model
numbers. -/
def State.sampleStraps (straps fillClocks us : Nat) (s : State) : State :=
  { s with boot := { s.boot with phase := .linkUp 0, straps := straps % 512, fillClocks := if straps.testBit 0 then 0 else fillClocks }
           time := { Time.reset with tick := us / 50 }
           cfg := { s.cfg with loadUs := us } }

/-- Reset release (R433, R437 steps 1 to 3): up to the configuration commit. Link 7 is up from its first use on (R18). The test strap keeps the chip from starting (R456). -/
def State.release (straps fillClocks us : Nat) (s : State) : State :=
  if s.boot.phase ≠ .deviceReset ∧ s.boot.phase ≠ .coreReset then s
  else if straps.testBit 8 then { s with boot := { s.boot with phase := .testMode, straps := straps % 512 } }
  else
    let s := (s.sampleStraps straps fillClocks us).initMemory straps
    let ages := (s.boot.stormTimes.map (· + us / 50)).filter (fun t => decide (t < stormSpan))
    let s : State := { s with boot := { s.boot with stormTimes := ages } }
    (s.link 7 (fun l => { l with up := true })).findHead.loadConfig.patRestore.commitConfig

/-- VDRV of a bridge die falls below its threshold (R442): its gate drivers are disabled. -/
def State.vdrvLow (b mv10 : Nat) (s : State) : State :=
  let s : State := (s.die b (fun d => { d with vdrvOk := false, armed := false }))
  let s : State := { s with boot := { s.boot with vdrvLow := setBit s.boot.vdrvLow b true } }
  if s.coreRuns then s.says [(0x0005, p1 b ++ p1 1 ++ p2 (mv10 : Nat))] else s

/-- VDRV of a bridge die rises above its threshold (R442): it may arm again by R161. -/
def State.vdrvBack (b mv10 : Nat) (s : State) : State :=
  let s : State := s.die b (fun d => ({ d with vdrvOk := true } : BridgeDie).tryArm)
  let s : State := { s with boot := { s.boot with vdrvLow := setBit s.boot.vdrvLow b false } }
  if s.coreRuns then s.says [(0x0005, p1 b ++ p1 0 ++ p2 (mv10 : Nat))] else s

end Sys2Proof.Machine
end

