-- ==== Sys2Proof/Machine/Tick.lean ====
section
/-! DEFINITION. One control tick (R29, R38 to R51): the boundary, the stages 1 to 11 in their order, the overrun and its safe hold, and the
ticks of link-up (R439, R440). -/

namespace Sys2Proof.Machine

/-- Units the stage of a slot completes: all, or those an abort left done (R47). -/
def stageUnits (ov : List Overrun) (slot : Nat) : Nat :=
  match ov.find? (fun o => decide (o.slot = slot)) with
  | some o => o.progress
  | none => 1000

/-- The stage of a slot runs to its end. -/
def stageWhole (ov : List Overrun) (slot : Nat) : Bool := ov.all (fun o => decide (o.slot ≠ slot))

/-- A compare unit asked to disarm before this boundary is disarmed (R200). -/
def State.takeDisarms (s : State) : State :=
  { s with moves := s.moves.map (fun m =>
      if m.cmp.disarmDue ≠ 0 ∧ m.cmp.disarmDue ≤ s.time.tick then { m with cmp := { m.cmp with armed := false, disarmDue := 0 } } else m) }

/-- The safe hold is released at a boundary where that was asked for and the last 16 ticks before the request had no overrun (R50). -/
def State.takeClear (s : State) : State :=
  let t := s.time
  if !t.clrAsked then s
  else if 16 < t.sinceOvr ∨ t.ovrCount = 0 then
    let s' : State := { s with time := { t with clrAsked := false, overrun := false } }
    if t.overrun then s'.says [(0x0102, p4 ((t.tick - t.holdStart : Nat) : Int))] else s'
  else ({ s with time := { t with clrAsked := false } } : State).says [(0x0103, p4 (t.sinceOvr : Nat))]

/-- ARMED is set at clock 0 of the tick after the first complete tick (R440). -/
def State.takeArmed (s : State) : State :=
  if s.boot.phase = .running ∧ !s.time.armed then
    { s with time := { s.time with armed := true }, boot := { s.boot with bootUs := 50 * s.time.tick } }
  else s

/-- Clock 0 of a tick (R41, R45, R50, R200, R211, R418, R419, R440): the state, and the axes whose compare position was written. -/
def State.boundary (s : State) : State × List Nat :=
  let s : State := { s with
    time := { s.time with tick := s.time.tick + 1 }
    hif := { s.hif with placed := 0, slotOver := false }
    boot := s.boot.older
    leaves := s.leaves.map (fun x => { x with obs := { x.obs with began := false } })
    sw := s.sw.endTick, field := s.field.endTick
    dies := s.dies.map BridgeDie.newTick, links := s.links.newTick }
  let s := s.takeClear.takeArmed.beginMoves
  let a := s.reliefTake
  let b := a.1.takeShadows
  let s := b.1.takeTables.takeDisarms
  ({ s with time := { s.time with sinceOvr := s.time.sinceOvr + 1 } }, a.2 ++ b.2)

/-- Stage 1 (R29): frames of links 4 and 5, values of links 0 to 3, happenings of the CAN controllers. The channels that tripped. -/
def State.intake (n : Nat) (a : TickIn) (s : State) : State × List Nat :=
  let r := if 0 < n then s.link4Intake a.link4Ok a.swTemp else (s, [])
  let s := if 1 < n then r.1.link5Intake a.link5Ok else r.1
  let s := (List.range (min 4 (n - 2))).foldl (fun (s : State) b => s.dieIntake b (a.dies.nth b)) s
  let s := s.canRecover.canPosts
  ({ s with boot := { s.boot with vdrvV := a.vdrv % 65536 } }, r.2)

/-- The direction in which an axis moves: 1, -1, or 0 at rest (R201). -/
def Move.heading (m : Move) : Int :=
  if !m.phase.moving then 0
  else if 0 < m.vSet then 1
  else if m.vSet < 0 then -1
  else if m.speedDir ≠ 0 then m.speedDir
  else if m.pSet < m.target * q16 then 1
  else if m.target * q16 < m.pSet then -1
  else 0

/-- The position a compare unit reads: measured of a leaf, commanded of a step (R200). -/
def State.comparePos (a : Nat) (s : State) : Int := if a < 16 then (s.leaves.nth a).fbk.posUm else (s.moves.nth a).pos

/-- The compare unit of an axis in stage 2; armed: its position was written at the boundary (R200, R201). -/
def State.compareAxis (armed : List Nat) (s : State) (a : Nat) : State :=
  let m := s.moves.nth a
  let pos := s.comparePos a
  let cmp := signed 32 (s.regs.MPG_A_CMP_POS_CMP_POS a)
  if armed.contains a then
    let r := m.cmp.arm a cmp pos m.heading
    (s.move a (fun m => { m with cmp := r.1 })).says r.2
  else
    let r := m.cmp.step s.regs a s.time.tick pos
    let s : State := if r.2.1 = cmp then s else
      { s with regs := s.regs.setWord Reg.MPG_A_CMP_POS a (BitVec.ofNat 32 (pattern 32 r.2.1)) }
    (s.move a (fun m => { m with cmp := r.1 })).says r.2.2

/-- Stage 2 of the leaves and encoder ports below n (16 leaves before 8 ports), then the compare units of the axes below n. The unit of an
axis whose position was written takes that write at the boundary, whatever stage 2 finishes (R200). -/
def State.feedbackTick (n : Nat) (a : TickIn) (armed : List Nat) (s : State) : State :=
  let r := feedbackStage s.regs n s.time.tick a.hall a.enc (s.leaves.map (fun x => x.fbk)) s.encs
  let s : State := { s with
    leaves := s.leaves.mapIdx (fun l x => { x with fbk := r.1.nth l }), encs := r.2.1 }
  ((List.range 24).filter (fun a => decide (a < n) || armed.contains a)).foldl (State.compareAxis armed) (s.says r.2.2)

/-- The first complete tick has not ended yet, or later (R119, R440). -/
def State.started (s : State) : Bool :=
  match s.boot.phase with
  | .first => true | .running => true
  | .linkUp _ => false | .deviceReset => false | .coreReset => false | .testMode => false

/-- What stage 5 sees (R107 to R118). -/
def State.ilkIn (a : TickIn) (s : State) : IlkIn :=
  let rf := s.regs
  let b := s.sw.chB
  let k := s.ilk
  let fb := rf.ILK_FB_FB_IN
  { rf := rf, tick := s.time.tick, started := s.started
    portalOk := fun p =>
      let x := s.seq.portals.nth p
      (decide (x.st = .closedLocked) && x.locked) || (decide (x.st = .isolated) && decide (rf.ILK_CFG_ISOL_MODE = 1))
    active := fun i => decide (s.input i = some true)
    feedback := (s.input fb).map (fun act => act == decide (rf.ILK_CFG_FB_POL = 1))
    overrun := s.time.overrun, fault4 := (s.links.l.nth 4).fault, fault6 := (s.links.l.nth 6).fault
    hs := a.dclHs, ls := a.dclLs, sup := a.dclSup
    decB := if a.link4Ok then b.decB else k.decB, bOk := if a.link4Ok then b.bOk else k.bOk
    outB := if a.link4Ok then b.cond || b.pulse else k.outB
    reportB := if a.link4Ok && !k.latchB then b.report else 0 }

/-- Stage 5. -/
def State.ilkStage (a : TickIn) (s : State) : State :=
  let r := s.ilk.stage (s.ilkIn a)
  let k : Ilk := { r.1 with latchB := if a.link4Ok then decide (s.sw.chB.report ≠ 0) else r.1.latchB }
  ({ s with ilk := k } : State).says r.2

/-- Stage 5 aborted: channel A keeps its outputs of the last tick, or is static where the safe hold already stands (R48). -/
def State.ilkSkipped (s : State) : State :=
  if s.time.overrun then { s with ilk := s.ilk.static } else s

/-- The line windows of a tick without stage 2, kept for the first that has one (R234, R235). -/
def State.deferLines (a : TickIn) (s : State) : State :=
  { s with
    leaves := s.leaves.mapIdx (fun l x => { x with fbk := { x.fbk with lines := x.fbk.lines.defer s.time.tick (a.hall.nth l) } })
    encs := s.encs.mapIdx (fun e p => { p with lines := p.lines.defer s.time.tick (a.enc.nth e) }) }

/-- The loop readings of a tick in which stage 5 does not run (R119: the supply is watched from link-up on). -/
def State.ilkWatch (a : TickIn) (s : State) : State :=
  { s with ilk := { s.ilk with hs := a.dclHs, ls := a.dclLs, sup := a.dclSup
                               supTicks := if 1350 ≤ a.dclSup then min (s.ilk.supTicks + 1) 16 else 0 } }

/-- Inputs of good quality as a mask, and their levels. -/
def goodMask (n : Nat) (f : Nat → Option Bool) : Nat × Nat :=
  (maskOf n (fun i => (f i).isSome), maskOf n (fun i => decide (f i = some true)))

/-- Good readings laid over the last good ones (R67). -/
def holdGood (seen good : Nat) (now : Nat × Nat) : Nat × Nat := (seen ||| now.1, andNot good now.1 ||| now.2)

/-- The edge of an input against its last good value (R67): 0 none, 1 rising, 2 falling. -/
def edgeOf (seen good i : Nat) (v : Option Bool) : Nat :=
  match v with
  | none => 0
  | some b => if !seen.testBit i || good.testBit i == b then 0 else if b then 1 else 2

/-- The release inputs of a bank (SEQ_BANK_CFG.RELEASE_SRC). -/
def releaseInputs (rf : RegFile) (k : Nat) : List Nat :=
  match rf.SEQ_BANK_CFG_RELEASE_SRC k with
  | 0 => [0]
  | 1 => [1]
  | _ => [0, 1]

/-- PERMIT of a bank (R65). -/
def State.permitOf (k : Nat) (s : State) : Permit :=
  let v := (2 :: releaseInputs s.regs k).map (fun i => s.trainline i)
  if v.all (fun x => decide (x = some true)) then .yes
  else if v.any (fun x => decide (x = none)) && !v.any (fun x => decide (x = some false)) then .unknown
  else .no

/-- How a lock input reads (R67). -/
def State.lockRead (i : Nat) (s : State) : LockRead :=
  match s.input i with
  | none => .unknown
  | some true => .locked
  | some false => .unlocked

/-- What stage 6 sees (R65 to R80). -/
def State.seqCtx (ovrNew : Bool) (s : State) : SeqCtx :=
  let rf := s.regs
  let q := s.seq
  let tl := holdGood q.tlSeen q.tlGood (goodMask 6 (fun i => s.trainline i))
  let inp := holdGood q.inSeen q.inGood (goodMask 64 (fun i => s.input i))
  let held := fun (i : Nat) => decide (i < 64) && inp.2.testBit i
  let o := fun (l : Nat) => (s.leaves.nth l).obs
  { rf := rf, tick := s.time.tick, armed := s.time.armed
    permit := fun k => s.permitOf k
    relOff := fun k => (releaseInputs rf k).any (fun i => decide (s.trainline i = some false))
    relOn := fun k => (releaseInputs rf k).all (fun i => decide (s.trainline i = some true))
    zsOff := decide (s.trainline 2 = some false)
    emClose := tl.2.testBit 3
    emRise := edgeOf q.tlSeen q.tlGood 3 (s.trainline 3) == 1
    crewRise := edgeOf q.tlSeen q.tlGood 4 (s.trainline 4) == 1
    emRel := fun p => held (rf.SEQ_P_INMAP_EMREL p)
    isol := fun p => held (rf.SEQ_P_INMAP_ISOL p)
    lockA := fun p => s.lockRead (rf.SEQ_P_INMAP_LOCK_A p)
    lockB := fun p => s.lockRead (rf.SEQ_P_INMAP_LOCK_B p)
    req := fun p => decide (s.input (rf.SEQ_P_INMAP2_REQ p) = some true)
    order := fun p => if (o (2 * p)).order ≠ 0 then some (o (2 * p)).dir else if (o (2 * p + 1)).order ≠ 0 then some (o (2 * p + 1)).dir else none
    reverses := fun p => [2 * p, 2 * p + 1].any (fun l => decide ((o l).order ≠ 0) && decide ((obsDir rf l (o l).dir).react = 0))
    reacting := fun p => s.reacting p
    obsClear := fun p => s.obsClear p
    atClosed := fun p => s.atClosed p
    atOpen := fun p => s.atOpen p
    fbFault := fun p => s.fbFaulty (2 * p) || s.fbFaulty (2 * p + 1)
    safeHold := fun p => s.portalSafe p
    uvHold := fun p => (s.dies.nth (p / 2)).uvHold
    stepOut := fun p => s.stepOut p
    stepIn := fun p => s.stepIn p
    stall := fun p => (s.steps.nth p).stallNew && decide ((s.moves.nth (16 + p)).kind ≠ .home)
    stepPos := fun p => (s.moves.nth (16 + p)).pos
    stepRuns := fun p => (s.moves.nth (16 + p)).phase.moving
    sigMa := fun p => (s.lsw.view.nth (rf.SEQ_P_CHMAP_LOCK_CH p)).mean
    ovrNew := ovrNew
    tUnlock := fun p => s.useQ 5 p
    tOpen := fun p => s.useQ 6 p
    tClose := fun p => s.useQ 7 p
    tLockMs := fun p => s.useQ 8 p
    tStepMs := fun p => s.useQ 9 p }

/-- The edge of a bank's sync input (R99). -/
def State.syncEdge (k : Nat) (s : State) : Nat :=
  let i := s.regs.SEQ_BANK_CFG_SYNC_IN k
  if 64 ≤ i then 0 else edgeOf s.seq.inSeen s.seq.inGood i (s.input i)

/-- Stage 6's view of the inputs is kept for the next tick (R67). -/
def State.seqView (s : State) : State :=
  let tl := holdGood s.seq.tlSeen s.seq.tlGood (goodMask 6 (fun i => s.trainline i))
  let inp := holdGood s.seq.inSeen s.seq.inGood (goodMask 64 (fun i => s.input i))
  { s with seq := { s.seq with tlSeen := tl.1, tlGood := tl.2, inSeen := inp.1, inGood := inp.2, tlUnknown := s.unkTrain
                               tlActive := maskOf 6 (fun i => decide (s.trainline i = some true)) } }

/-- Words of a tracker entry poisoned (R380 code 10). -/
def State.trackPoison (t : Tracked) (s : State) : State × Bool :=
  let r := s.mem0.useWords s.regs 0 10 (trackerWord t.job.id) 4
  ({ s with mem0 := r.1 }, anyBad r.2)

/-- Change of a tracker entry to judged. -/
def State.markJudged (id : Nat) (s : State) : State :=
  { s with hif := { s.hif with tracker := s.hif.tracker.map (fun t => if t.job.id = id then { t with judged := true } else t) } }

/-- Tracker entries of some blocks that are judged now, in the order of R94 (R346, R351). -/
def State.toJudge (blocks : Nat → Bool) (s : State) : List Tracked :=
  (orderJobs s.regs s.hif.tracker).filter (fun t => !t.judged && !t.bad && blocks t.block)

/-- One tracker entry judged by a block's commands; a poisoned entry is REJECTED (R380). -/
def State.judgeWith (f : Job → Nat → State → State) (s : State) (t : Tracked) : State :=
  let r := s.trackPoison t
  if r.2 then r.1.finish ⟨t.job, 2, 0xFFFFFFFF⟩ else f t.job t.code (r.1.markJudged t.job.id)

/-- A MEM command is judged in stage 11 (R389): 1 SLUICE, 2 INJECT, 3 STOP. -/
def State.memCmd (job : Job) (code : Nat) (s : State) : State :=
  match memTarget s.regs job.cmd with
  | none => s.finish ⟨job, 2, 0⟩
  | some m =>
    let u := if m = 0 then s.mem0 else s.mem1
    let r :=
      if code = 1 then u.sluiceCmd s.regs m job
      else if code = 2 then u.injectCmd s.regs m job
      else if code = 3 then u.stopCmd m job
      else (u, [⟨job, 2, 0⟩])
    (if m = 0 then { s with mem0 := r.1 } else { s with mem1 := r.1 } : State).finishes r.2

/-- A command of a block that stage 6, 9, 10 or 11 judges on its own (R32). -/
def State.blockCmd (block : Nat) (job : Job) (code : Nat) (s : State) : State :=
  match block with
  | 4 => s.obsCmd job code
  | 7 => s.stpCmd job code
  | 9 => s.patCmd job code
  | 10 => s.lswCmd job code
  | 11 => s.fioCmd job code
  | 12 => s.canCmd job code
  | 13 => s.hifCmd job code
  | 14 => s.memCmd job code
  | 15 => s.recCmd job code
  | 16 => s.cfgCmd job code
  | _ => s.finish ⟨job, 2, 0⟩

/-- The commands of some blocks judged in the order of R94. -/
def State.judgeBlocks (blocks : Nat → Bool) (s : State) : State :=
  (s.toJudge blocks).foldl (fun (s : State) t => s.judgeWith (State.blockCmd t.block) t) s

end Sys2Proof.Machine
end

