-- ==== Sys2Proof/Machine/TickRun.lean ====
section
/-! DEFINITION. The tick as a whole: stage 6 with its commands, stages 9 to 11, the overrun (R47 to R49), link-up ticks (R439). -/

namespace Sys2Proof.Machine

/-- What stage 6 has decided put in place. -/
def State.seqOut (o : SeqOut) (s : State) : State := (({ s with seq := o.q } : State).posts o.posts).finishes o.fins

/-- The SEQ commands of a tick (R94, R346, R351): the state with them marked, and the requests. -/
def State.seqReqs (s : State) : State × List SeqReq :=
  (s.toJudge (fun b => b == 2)).foldl (fun (a : State × List SeqReq) t =>
    let r := a.1.trackPoison t
    if r.2 then (r.1.finish ⟨t.job, 2, 0xFFFFFFFF⟩, a.2)
    else (r.1.markJudged t.job.id,
      a.2 ++ [⟨t.job, t.code, decide (ringClass a.1.regs t.job.cmd.port t.job.cmd.ring = 0), false⟩])) (s, [])

/-- The portals that stage 6 references have the positions of both leaves set to zero in that stage (R84, R85, R241). -/
def State.zeroPositions (s : State) : State :=
  let s := ((List.range 8).filter (fun p => (s.seq.portals.nth p).zeroNow)).foldl (fun (s : State) p =>
    (s.referenceLeaf (2 * p)).referenceLeaf (2 * p + 1)) s
  { s with seq := { s.seq with portals := s.seq.portals.map (fun x => { x with zeroNow := false }) } }

/-- Stage 6 (R29, R71 to R101, R157, R211): portals below n; where the stage runs to its end, its commands too. A tick that overruns is
not the first complete one (R64, R440): until then stage 6 leaves the portals ISOLATED and judges nothing. -/
def State.seqStage (n : Nat) (ovrNew whole : Bool) (s : State) : State :=
  if s.boot.phase = .first ∧ ¬whole then s else
  let c := s.seqCtx ovrNew
  let first := decide (s.boot.phase = .first)
  let q : Seq := { s.seq with portals := s.seq.portals.mapIdx (fun p x => if p < n then x else { x with moved := 0 }) }
  let o := q.stagePortals c (fun k => s.syncEdge k) first n
  if n < 8 then (s.seqOut o).zeroPositions else
  let r := s.seqReqs
  ((r.1.seqOut (o.stageCommands c r.2)).seqView).zeroPositions.judgeBlocks (fun b => b == 4 || b == 7)

/-- Stage 9 (R18, R272, R304). -/
def State.dispatchStage (s : State) : State := (s.judgeBlocks (fun b => b == 10 || b == 11)).buildFrames

/-- Stage 10 (R139, R252 to R265, R391 to R406): the PAT commands, which come before the cycle ends of the tick (R263); the portals below
n; the record writer where the stage runs to its end. -/
def State.lateStage (n : Nat) (trips : List Nat) (s : State) : State :=
  let s := s.judgeBlocks (fun b => b == 9)
  let s := (List.range (min 16 (2 * n))).foldl (fun (s : State) l => (s.armRelease l).leafGather l) s
  let s := (List.range (min 8 n)).foldl (fun (s : State) p => (s.portalGather p (s.atClosed p)).injectTick p) s
  if n < 8 then s else s.recStage (fun p => s.atClosed p) trips

/-- Entries that failed a check of R346 are REJECTED. -/
def State.rejectBad (s : State) : State :=
  (s.hif.tracker.filter (fun t => t.bad && !t.judged)).foldl (fun (s : State) t => s.finish ⟨t.job, 2, 0⟩) s

/-- The time limit of a job has passed (R347). -/
def Job.late (tick : Nat) (j : Job) : Bool := decide (j.cmd.limit ≠ 0) && decide (j.born + 20 * j.cmd.limit ≤ tick)

/-- Commands that wait in the tracker past their limit complete TIMEOUT (R347). -/
def State.trackTimeouts (s : State) : State :=
  (s.hif.tracker.filter (fun t => !t.judged && t.job.late s.time.tick)).foldl (fun (s : State) t => s.finish ⟨t.job, 4, 0⟩) s

/-- A memory in stage 11 (R347, R384, R385, R387). -/
def State.memTick (m : Nat) (s : State) : State :=
  let u := if m = 0 then s.mem0 else s.mem1
  let late := match u.sl.job with
    | some j => u.sl.running && j.late s.time.tick
    | none => false
  let r := if late then u.endPass m 2 else u.tick s.regs m
  (if m = 0 then { s with mem0 := r.1 } else { s with mem1 := r.1 } : State).finishes r.2

/-- MEM_POISON_CONSUMED of the tick (R381). -/
def State.consumedPosts (s : State) : State :=
  let a := s.mem0.consumedEvents 0
  let b := s.mem1.consumedEvents 1
  ({ s with mem0 := a.1, mem1 := b.1 } : State).says (a.2 ++ b.2)

/-- An injection armed on any write to memory 0 meets the pipeline's working storage (R386): where and with which data is free (log 4). -/
def State.workingWrite (s : State) : State :=
  if s.mem0.activity = .injection ∧ s.mem0.injAny then
    { s with mem0 := s.mem0.workingWrite (Config.freeValue s.freeCount) (Config.freeValue (s.freeCount + 1)), freeCount := s.freeCount + 2 }
  else s

/-- Stage 11's own work: engines, transfers and the commands it judges (R32, R384, R400, R423, R424). -/
def State.serveStage (s : State) : State :=
  let s := ((s.rejectBad.trackTimeouts.memTick 0).memTick 1)
  let s := (s.drainTick 0).drainTick 1
  let s := s.hif.pages.foldl State.pageTick s
  s.imgTick.reliefTick.judgeBlocks (fun b => b == 12 || b == 13 || b == 14 || b == 15 || b == 16)

/-- Events and completions placed (R359 to R364); whole: the stage runs to its end. -/
def State.postStage (whole : Bool) (s : State) : State :=
  let s := s.consumedPosts.violations.memPost
  let s := if whole then s.place else { s with hif := { s.hif with slotOver := true } }
  s.moderateAll.guarantees

/-- The overrun is declared (R48, R49): the safe hold stands from here on. -/
def State.declareOverrun (o : Overrun) (s : State) : State :=
  let t := s.time
  { s with time := { t with overrun := true, holdStart := if t.overrun then t.holdStart else t.tick, sinceOvr := 0
                            ovrCount := satInc 12 t.ovrCount, lastSlot := o.slot } }

/-- TICK_OVERRUN (R48). -/
def overrunEvent (o : Overrun) : Ev := (0x0101, p1 o.slot ++ p1 o.axis ++ p4 (o.clk : Nat))

/-- Stages 1 to 8 of a control tick. axes: those whose compare position was written at the boundary. -/
def State.controlStages (ov : List Overrun) (a : TickIn) (axes : List Nat) (s : State) : State × List Nat :=
  let u := stageUnits ov
  let ovrNew := s.time.overrun && decide (s.time.holdStart + 1 = s.time.tick)
  let r := s.intake (u 1) a
  let s := (r.1.feedbackTick (u 2) a axes).forceStage (u 3)
  let s := s.obsStage (u 4)
  let s := if stageWhole ov 5 then s.ilkStage a else s.ilkSkipped
  let s := (s.seqStage (u 6) ovrNew (decide (ov = []))).motionStage (u 7)
  let s := ov.foldl (fun (s : State) o => s.declareOverrun o) s
  (s.loopStage (fun b => (a.dies.nth b).onMv), r.2)

/-- The end of a tick (R39, R423, R440): high-water marks, the boundary guard, the first complete tick. -/
def State.closeTick (ov : List Overrun) (a : TickIn) (s : State) : State :=
  let s : State := { s with
    time := { s.time with hwm := s.time.hwm.mapIdx (fun k x => max x (a.slotClocks.nth k % 4096)) }
    fio := { s.fio with unkWas := s.unkInputs }
    seq := { s.seq with portals := s.seq.portals.map (fun x => { x with before := x.st, moved := 0 }) }
    leaves := s.leaves.map (fun x => { x with obs := { x.obs with tripNow := 0 } })
    boot := { s.boot with phase := if s.boot.phase = .first ∧ ov = [] then .running else s.boot.phase } }
  s.reliefGuard

/-- A control tick: all stages (R29, R39, R48). -/
def State.controlTick (ov : List Overrun) (a : TickIn) (s : State) : State :=
  let b := s.boundary
  let r := b.1.ntTick.controlStages ov a b.2
  let s := if stageWhole ov 9 then r.1.dispatchStage else r.1
  let s := (s.lateStage (stageUnits ov 10) r.2).serveStage.workingWrite
  let s := s.says (ov.map overrunEvent)
  (s.postStage (stageWhole ov 11)).closeTick ov a

/-- A link-up tick (R439): frames and gate words, no control stage; n: those run before. -/
def State.linkUpTick (n : Nat) (a : TickIn) (s : State) : State :=
  let b := s.boundary
  let s : State := if n = 0 then { b.1 with boot := { b.1.boot with switchHeld := b.1.sw.auto } } else b.1
  let s := ((b.2.foldl (State.compareAxis b.2) s).ntTick.intake 1000 a).1.deferLines a
  let s := (s.ilkWatch a).buildFrames
  let s := s.memPost.place.moderateAll
  { s with boot := { s.boot with phase := if n < 15 then .linkUp (n + 1) else .first } }

/-- One tick (R29, R38): none of the core die where it is in reset or in test mode; the remote dies close their own ticks while the core
die alone is held (R284, R287, R436); a core reset that was asked for comes first (R435). -/
def State.tick (ov : List Overrun) (a : TickIn) (s : State) : State :=
  if s.boot.resetAsked then s.coreReset 6 else
  match s.boot.phase with
  | .deviceReset => s
  | .coreReset => { s with sw := s.sw.endTick, field := s.field.endTick, boot := s.boot.older }
  | .testMode => s
  | .linkUp n => s.linkUpTick n a
  | .first => s.controlTick ov a
  | .running => s.controlTick ov a

/-- A command has run out of its time limit (R347): wherever it waits. -/
def State.jobTimeout (id : Nat) (s : State) : State :=
  let s := (s.hif.tracker.filter (fun t => !t.judged && decide (t.job.id = id))).foldl (fun (s : State) t => s.finish ⟨t.job, 4, 0⟩) s
  let s := s.seqOut ((s.seq.pends.filter (fun d => decide (d.job.id = id) && !d.psd)).foldl (fun o d => o.endPend d 4 d.done) ⟨s.seq, [], []⟩)
  let s := (s.hif.pages.filter (fun r => decide (r.job.id = id) && decide (r.doneAt = 0))).foldl (fun (s : State) r => s.pageEnd r 4) s
  let s := (List.range 2).foldl (fun (s : State) port =>
    match s.recd.drains.nth port with
    | some d => if d.job.id = id ∧ d.doneAt = 0 then s.drainEnd d 4 else s
    | none => s) s
  let s := (List.range 2).foldl (fun (s : State) m =>
    let u := if m = 0 then s.mem0 else s.mem1
    if u.sl.running ∧ u.sl.job.map (fun j => j.id) = some id then
      let r := u.endPass m 2
      (if m = 0 then { s with mem0 := r.1 } else { s with mem1 := r.1 } : State).finishes r.2
    else s) s
  let s := match s.cfg.request with
    | some q => if q.job.id = id then s.reliefTimeout else s
    | none => s
  match s.cfg.install with
  | some q => if q.job.id = id then s.imgEnd q 4 0 else s
  | none => s

end Sys2Proof.Machine
end

