-- ==== Sys2Proof/Machine/Rows.lean ====
section
/-! DEFINITION. What the meanings of the commands share: the check of an operand that names an object, the end of a command that runs
between ticks, rows that stand for a part of a control stage, host commands judged at once (logs 7, 9). -/

namespace Sys2Proof.Machine

/-- The state that a command on object i of n kinds leaves; a fault where there is no such object. -/
def onObject (n i : Nat) (t : State) : Host.Outcome State Fault Refusal := if i < n then .next t else .fault .noSuchObject

/-- The same for a command that names two objects. -/
def onObjects (n i m j : Nat) (t : State) : Host.Outcome State Fault Refusal :=
  if i < n ∧ j < m then .next t else .fault .noSuchObject

/-- Something that happens in hardware that the core die controls: nothing where the core die is held in reset. -/
def State.inCore (f : State → State) (s : State) : State := if s.coreRuns then (f s).flush else s

/-- A part of a control stage on its own: nothing before the first complete tick (R440). -/
def State.inStage (f : State → State) (s : State) : State := if s.started then (f s).flush else s

/-- Something that happens once the configuration is committed. -/
def State.whenUp (f : State → State) (s : State) : State := if s.up then (f s).flush else s

/-- A host access of a port to a block that answers it (R438, R454). -/
def State.fromPort (port : Nat) (f : State → State) (s : State) : State := if s.up && s.portLive port then (f s).flush else s

/-- A transition of one portal between two ticks, as stage 6 takes it. -/
def State.portalRow (p : Nat) (f : SeqCtx → PSt → PSt) (s : State) : State :=
  let c := s.seqCtx false
  s.seqOut ((⟨s.seq, [], []⟩ : SeqOut).portal p (f c))

/-- Pending OPENs that wait on a portal and meet a condition, each treated in its order. -/
def State.pendRow (p : Nat) (f : SeqCtx → Pend → SeqOut → SeqOut) (s : State) : State :=
  let c := s.seqCtx false
  s.seqOut ((s.seq.pends.filter (fun d => d.mask.testBit p)).foldl (fun o d => f c d o) ⟨s.seq, [], []⟩)

/-- Change of one memory's unit, with the commands it completes. -/
def State.memRow (m : Nat) (f : MemUnit → MemUnit × List Finish) (s : State) : State :=
  let r := f (if m = 0 then s.mem0 else s.mem1)
  (if m = 0 then { s with mem0 := r.1 } else { s with mem1 := r.1 } : State).finishes r.2

/-- The interlock changed, with its events. -/
def State.ilkRow (f : IlkIn → Ilk → Ilk × List Ev) (s : State) : State :=
  let r := f (s.ilkIn default) s.ilk
  ({ s with ilk := r.1 } : State).says r.2

/-- A command that comes without a tracker entry. -/
def jobNow (tick : Nat) (c : Cmd) : Job := ⟨0, tick, c⟩

/-- A host command judged at once (log 9): of a ring of a port, once the configuration is committed. -/
def hostCmd (f : Job → State → State) (c : Cmd) (s : State) : Host.Outcome State Fault Refusal :=
  onObjects 2 c.port 64 c.ring (s.whenUp (f (jobNow s.time.tick c)))

/-- A SEQ command judged at once (R86 to R95). -/
def State.seqCmdNow (code : Nat) (job : Job) (s : State) : State :=
  let c := s.seqCtx false
  let safety := decide (ringClass s.regs job.cmd.port job.cmd.ring = 0)
  s.seqOut ((⟨s.seq, [], []⟩ : SeqOut).judge c ⟨job, code, safety, false⟩ 0)

/-- The write of the whole of a register that has a row of its own. -/
def State.regRow (port : Nat) (r : RegRow) (i clk : Nat) (w : Word) (s : State) : State := (s.regWrite port (r.addr i) w 15 clk).flush

end Sys2Proof.Machine
end

