-- ==== Sys2Proof/Machine/ExecBridge.lean ====
section
/-! DEFINITION. Meanings: bridge dies, leaf drives, step drives, feedback. -/

namespace Sys2Proof.Machine

/-- CARRIER_PERIOD_START (R24, R45, R161): the first or second period of a tick. -/
def execCarrierPeriodStart (die half : Nat) (valid : Bool) (s : State) : Host.Outcome State Fault Refusal :=
  onObjects 4 die 2 half (s.carrierPeriod die half valid)

/-- BRIDGE_SAFE_STATE (R24). -/
def execBridgeSafeState (die : Nat) (s : State) : Host.Outcome State Fault Refusal := onObject 4 die (s.die die BridgeDie.makeSafe)

/-- LEAF_COMPARATOR_TRIP (R175). -/
def execLeafComparatorTrip (leaf phase : Nat) (s : State) : Host.Outcome State Fault Refusal :=
  onObjects 16 leaf 3 phase (s.die (leaf / 4) (BridgeDie.leafTripped (leaf % 4) phase))

/-- STEP_COMPARATOR_TRIP (R222). -/
def execStepComparatorTrip (step phase : Nat) (s : State) : Host.Outcome State Fault Refusal :=
  onObjects 8 step 2 phase (s.die (step / 2) (BridgeDie.stepTripped (step % 2) phase))

/-- EDGE_CLASS_CHANGE (R144, R146). -/
def execEdgeClassChange (leaf : Nat) (loop : EdgeLoop) (s : State) : Host.Outcome State Fault Refusal :=
  onObject 16 leaf (s.die (leaf / 4) (BridgeDie.edgeMeasured (leaf % 4) loop.ohms loop.ns))

/-- LDR_UV_HOLD (R177). -/
def execLdrUvHold (die : Nat) (s : State) : Host.Outcome State Fault Refusal :=
  onObject 4 die (s.inCore (fun s => s.dieEv die (BridgeDie.uvDeclare die s.time.tick)))

/-- LDR_UV_RESUME (R179). -/
def execLdrUvResume (die : Nat) (s : State) : Host.Outcome State Fault Refusal :=
  onObject 4 die (s.inCore (fun s => s.dieEv die (BridgeDie.uvEnd die s.time.tick)))

/-- LDR_RAIL_OV (R180). -/
def execLdrRailOv (die : Nat) (s : State) : Host.Outcome State Fault Refusal :=
  onObject 4 die (s.inCore (State.dieEv die (BridgeDie.ovDeclare die)))

/-- LDR_OV_RECOVERED (R180). -/
def execLdrOvRecovered (die : Nat) (s : State) : Host.Outcome State Fault Refusal :=
  onObject 4 die (s.inCore (State.die die BridgeDie.ovEnd))

/-- LDR_OC_LATCH (R176). -/
def execLdrOcLatch (leaf phase : Nat) (s : State) : Host.Outcome State Fault Refusal :=
  onObjects 16 leaf 3 phase (s.inCore (State.driveEv leaf (LeafDrive.latchOc leaf phase)))

/-- INJECTION_REQUEST (R183, R254). -/
def execInjectionRequest (leaf : Nat) (s : State) : Host.Outcome State Fault Refusal :=
  onObject 16 leaf (s.inStage (State.inject leaf))

/-- The injection of a leaf that runs ends, or is broken off; nothing where none runs (R183). -/
def State.injectionOver (leaf : Nat) (aborted : Bool) (s : State) : State :=
  match (s.leaves.nth leaf).drive.inj with
  | none => s
  | some j =>
    let f : LeafDrive → LeafDrive × List Ev :=
      if aborted then LeafDrive.abortInjection leaf else LeafDrive.injectEnd s.regs leaf (s.dies.nth (leaf / 4)).temp j
    (s.driveEv leaf f).injected leaf (!aborted)

/-- LDR_RWIND_DONE (R183). -/
def execLdrRwindDone (leaf : Nat) (aborted : Bool) (s : State) : Host.Outcome State Fault Refusal :=
  onObject 16 leaf (s.inStage (State.injectionOver leaf aborted))

/-- STP_STALL (R219, R229). -/
def execStpStall (step : Nat) (slip : Bool) (s : State) : Host.Outcome State Fault Refusal :=
  onObject 8 step (s.inStage (State.stepStall step slip))

/-- STANDSTILL_REDUCTION (R220): of a step that stands. -/
def execStandstillReduction (step : Nat) (s : State) : Host.Outcome State Fault Refusal :=
  onObject 8 step (s.inStage (fun s => if (s.moves.nth (16 + step)).phase.moving then s else s.stepD step StepDrive.reduce))

/-- STP_OC_LATCH (R223). -/
def execStpOcLatch (step phase : Nat) (s : State) : Host.Outcome State Fault Refusal :=
  onObjects 8 step 2 phase (s.inCore (State.stepEv step (StepDrive.latchOc step phase)))

/-- HOMING_TRIP (R228): in the approach of a homing run. -/
def execHomingTrip (step : Nat) (s : State) : Host.Outcome State Fault Refusal :=
  onObject 8 step (s.inStage (fun s => if (s.steps.nth step).homing = .approach then s.homeTrip step else s))

/-- A feedback fault with a cause of its source (R248); an object, or a cause, that the table does not name stops. -/
def onFault (n i lo hi cause : Nat) (t : State) : Host.Outcome State Fault Refusal :=
  if i < n ∧ lo ≤ cause ∧ cause ≤ hi then .next t else .fault .noSuchObject

/-- FBK_HALL_FAULT (R237, R247, R248): causes 1 to 3. -/
def execFbkHallFault (leaf cause : Nat) (s : State) : Host.Outcome State Fault Refusal :=
  onFault 16 leaf 1 3 cause (s.inStage (fun s =>
    let r := (s.leaves.nth leaf).fbk.declare leaf s.time.tick cause
    (s.leaf leaf (fun x => { x with fbk := r.1 })).says r.2))

/-- FBK_ENCODER_FAULT (R239, R247, R248): causes 4 and 5. -/
def execFbkEncoderFault (port cause : Nat) (s : State) : Host.Outcome State Fault Refusal :=
  onFault 8 port 4 5 cause (s.inStage (fun s =>
    let r := (s.encs.nth port).declare port s.time.tick cause
    ({ s with encs := s.encs.upd port (fun _ => r.1) } : State).says r.2))

/-- ERROR_WINDOW_CLOSE (R237, R239). -/
def execErrorWindowClose (isEncoder : Bool) (source : Nat) (s : State) : Host.Outcome State Fault Refusal :=
  onObject (if isEncoder then 8 else 16) source (s.inStage (fun s =>
    if isEncoder then { s with encs := s.encs.upd source (fun e => { e with win := ⟨0, 0⟩ }) }
    else s.leaf source (fun x => { x with fbk := { x.fbk with win := ⟨0, 0⟩ } })))

/-- FBK_ZERO_SPEED (R243). -/
def execFbkZeroSpeed (leaf : Nat) (s : State) : Host.Outcome State Fault Refusal :=
  onObject 16 leaf (s.inStage (State.leaf leaf (fun x => { x with fbk := x.fbk.forceZero })))

/-- OBS_TRIP (R150): causes of the leaf's own, bits 0 to 6; in a running stroke. -/
def execObsTrip (leaf cause : Nat) (s : State) : Host.Outcome State Fault Refusal :=
  onObject 16 leaf (s.inStage (fun s =>
    let o := (s.leaves.nth leaf).obs
    if !o.judged || decide (cause % 128 = 0) then s
    else if leaf % 2 = 0 then s.tripPortal (leaf / 2) (cause % 128) 0 o.dir else s.tripPortal (leaf / 2) 0 (cause % 128) o.dir))

/-- OBS_REACTION_DONE (R151). -/
def execObsReactionDone (leaf : Nat) (s : State) : Host.Outcome State Fault Refusal :=
  onObject 16 leaf (s.inStage (fun s =>
    let x := s.leaves.nth leaf
    let r := x.obs.reactionDone leaf x.fbk.posUm
    (s.leaf leaf (fun y => { y with obs := r.1 })).says r.2))

/-- PAT_STATE_SAVE (R265). -/
def execPatStateSave (s : State) : Host.Outcome State Fault Refusal := .next (s.inStage State.patSave)

end Sys2Proof.Machine
end

