-- ==== Sys2Proof/Machine/ExecCan.lean ====
section
/-! DEFINITION. Meanings: the CAN controllers and network time, and the CAN commands. -/

namespace Sys2Proof.Machine

/-- CAN_FRAME_START (R318, R320, R326). -/
def execCanFrameStart (ctl clk : Nat) (s : State) : Host.Outcome State Fault Refusal :=
  onObject 4 ctl (s.inCore (fun s => s.canStart ctl clk 128))

/-- CAN_FRAME_RECEIVED (R315, R317, R329); sofDtc: DTC at its start of frame. -/
def execCanFrameReceived (ctl : Nat) (f : CanFrame) (sofDtc : Nat) (s : State) : Host.Outcome State Fault Refusal :=
  onObject 4 ctl (s.inCore (State.canReceive ctl f sofDtc))

/-- CAN_TX_DONE (R319, R329); tdcv: the measured transmitter delay. -/
def execCanTxDone (ctl tdcv : Nat) (s : State) : Host.Outcome State Fault Refusal :=
  onObject 4 ctl (s.inCore (State.canSent ctl tdcv))

/-- CAN_FAILED_ATTEMPT (R319, R321, R323). -/
def execCanFailedAttempt (ctl lec : Nat) (noDominant noCount : Bool) (s : State) : Host.Outcome State Fault Refusal :=
  onObject 4 ctl (s.inCore (fun s => s.can ctl (CanCtl.txError s.regs ctl s.time.tick lec noDominant noCount)))

/-- CAN_RECEIVE_ERROR (R323, R324). -/
def execCanReceiveError (ctl lec : Nat) (dominantAfter : Bool) (s : State) : Host.Outcome State Fault Refusal :=
  onObject 4 ctl (s.inCore (State.can ctl (CanCtl.rxError ctl lec dominantAfter)))

/-- CAN_BUSOFF_RECOVERED (R321, R322). -/
def execCanBusoffRecovered (ctl : Nat) (s : State) : Host.Outcome State Fault Refusal :=
  onObject 4 ctl (s.inCore (fun s => s.can ctl (CanCtl.recovered ctl s.time.tick)))

/-- CAN_PROTOCOL_EXCEPTION (R310, R324). -/
def execCanProtocolException (ctl : Nat) (s : State) : Host.Outcome State Fault Refusal :=
  onObject 4 ctl (s.inCore (State.can ctl CanCtl.exception))

/-- CAN_MODE_WRITE (R314). -/
def execCanModeWrite (port ctl : Nat) (value : Word) (s : State) : Host.Outcome State Fault Refusal :=
  onObjects 2 port 4 ctl (s.regRow port Reg.CAN_C_MODE ctl 0 value)

/-- CAN_MODE (R313, R314). -/
def execCanMode (ctl : Nat) (s : State) : Host.Outcome State Fault Refusal := onObject 4 ctl (s.inCore (State.canMode ctl))

/-- CAN_OBJ_EN_WRITE (R316): word m of a controller's four. -/
def execCanObjEnWrite (port ctl m : Nat) (value : Word) (s : State) : Host.Outcome State Fault Refusal :=
  if port < 2 then onObjects 4 ctl 4 m (s.regRow port Reg.CAN_C_OBJ_EN (4 * ctl + m) 0 value) else .fault .noSuchObject

/-- NT_REFERENCE_RECEIVED (R55 to R57, R59): a reference message on the source controller. -/
def execNtReferenceReceived (f : CanFrame) (sofDtc : Nat) (s : State) : Host.Outcome State Fault Refusal :=
  .next (s.inCore (State.refReceived f sofDtc))

/-- NT_MASTER_PERIOD (R330). -/
def execNtMasterPeriod (s : State) : Host.Outcome State Fault Refusal := .next (s.inCore State.masterPeriod)

/-- NT_TIMEOUT (R58): NT that is valid in slave mode becomes invalid. -/
def execNtTimeout (s : State) : Host.Outcome State Fault Refusal :=
  .next (s.inCore (fun s => if s.regs.TCK_NT_CFG_MODE = 1 ∧ s.time.ntValid then s.ntLost else s))

/-- TX_SEND (R325 to R328). -/
def execTxSend (c : Cmd) (s : State) : Host.Outcome State Fault Refusal := hostCmd (fun j => State.canCmd j 1) c s

/-- RX_READ (R325, R327). -/
def execRxRead (c : Cmd) (s : State) : Host.Outcome State Fault Refusal := hostCmd (fun j => State.canCmd j 2) c s

/-- TX_ABORT (R325). -/
def execTxAbort (c : Cmd) (s : State) : Host.Outcome State Fault Refusal := hostCmd (fun j => State.canCmd j 3) c s

end Sys2Proof.Machine
end

