-- ==== Sys2Proof/Machine/ExecCmds.lean ====
section
/-! DEFINITION. Meanings: the commands of the other blocks (OBS, STP, PAT, LSW, FIO, MEM, REC, CFG), and what their engines do. -/

namespace Sys2Proof.Machine

/-- ARM_LOAD (R157). -/
def execArmLoad (c : Cmd) (s : State) : Host.Outcome State Fault Refusal := hostCmd (fun j => State.obsCmd j 1) c s

/-- ARM_READ (R157). -/
def execArmRead (c : Cmd) (s : State) : Host.Outcome State Fault Refusal := hostCmd (fun j => State.obsCmd j 2) c s

/-- TBL_LOAD (R211). -/
def execTblLoad (c : Cmd) (s : State) : Host.Outcome State Fault Refusal := hostCmd (fun j => State.stpCmd j 1) c s

/-- TBL_READ (R211). -/
def execTblRead (c : Cmd) (s : State) : Host.Outcome State Fault Refusal := hostCmd (fun j => State.stpCmd j 2) c s

/-- ACCEPT (R263). -/
def execAccept (c : Cmd) (s : State) : Host.Outcome State Fault Refusal := hostCmd (fun j => State.patCmd j 1) c s

/-- REFUSE (R263). -/
def execRefuse (c : Cmd) (s : State) : Host.Outcome State Fault Refusal := hostCmd (fun j => State.patCmd j 2) c s

/-- THAW (R263). -/
def execThaw (c : Cmd) (s : State) : Host.Outcome State Fault Refusal := hostCmd (fun j => State.patCmd j 3) c s

/-- PROP_READ (R263). -/
def execPropRead (c : Cmd) (s : State) : Host.Outcome State Fault Refusal := hostCmd (fun j => State.patCmd j 4) c s

/-- SWITCH (R271). -/
def execLswSwitch (c : Cmd) (s : State) : Host.Outcome State Fault Refusal := hostCmd (fun j => State.lswCmd j 1) c s

/-- RESTART (R271). -/
def execLswRestart (c : Cmd) (s : State) : Host.Outcome State Fault Refusal := hostCmd (fun j => State.lswCmd j 2) c s

/-- SET_OUT (R304). -/
def execSetOut (c : Cmd) (s : State) : Host.Outcome State Fault Refusal := hostCmd (fun j => State.fioCmd j 1) c s

/-- SLUICE (R389). -/
def execSluice (c : Cmd) (s : State) : Host.Outcome State Fault Refusal := hostCmd (fun j => State.memCmd j 1) c s

/-- INJECT (R386, R389). -/
def execInject (c : Cmd) (s : State) : Host.Outcome State Fault Refusal := hostCmd (fun j => State.memCmd j 2) c s

/-- STOP (R389). -/
def execStop (c : Cmd) (s : State) : Host.Outcome State Fault Refusal := hostCmd (fun j => State.memCmd j 3) c s

/-- SLUICE_DONE (R383, R384): the running pass reads what is left of its range. -/
def execSluiceDone (mem : Nat) (s : State) : Host.Outcome State Fault Refusal :=
  onObject 2 mem (s.inCore (fun s => s.memRow mem (MemUnit.sluiceDone s.regs mem)))

/-- PATROL_DUE (R385, R388): with a period set. -/
def execPatrolDue (mem : Nat) (s : State) : Host.Outcome State Fault Refusal :=
  onObject 2 mem (s.inCore (fun s =>
    if s.regs.MEM_M_PATROL_PERIOD mem = 0 then s else s.memRow mem (fun u => (u.startPatrol mem, []))))

/-- WEIR_LEAK (R387). -/
def execWeirLeak (mem : Nat) (s : State) : Host.Outcome State Fault Refusal :=
  onObject 2 mem (s.inCore (State.memRow mem (fun u => (u.leak, []))))

/-- DRAIN (R400, R401). -/
def execDrain (c : Cmd) (s : State) : Host.Outcome State Fault Refusal := hostCmd (fun j => State.recCmd j 1) c s

/-- DRAIN_DONE (R401): the drain of a port copies its last records. -/
def execDrainDone (port : Nat) (s : State) : Host.Outcome State Fault Refusal := onObject 2 port (s.whenUp (State.drainDone port))

/-- CAP_ARM (R403). -/
def execCapArm (c : Cmd) (s : State) : Host.Outcome State Fault Refusal := hostCmd (fun j => State.recCmd j 2) c s

/-- CAP_TRIGGER (R405). -/
def execCapTrigger (c : Cmd) (s : State) : Host.Outcome State Fault Refusal := hostCmd (fun j => State.recCmd j 3) c s

/-- CAP_STOP (R406). -/
def execCapStop (c : Cmd) (s : State) : Host.Outcome State Fault Refusal := hostCmd (fun j => State.recCmd j 4) c s

/-- CAPTURE_SAMPLE (R403 to R406): of an armed or triggered unit. -/
def execCaptureSample (unit : Nat) (s : State) : Host.Outcome State Fault Refusal :=
  onObject 4 unit (s.inStage (fun s => if (s.recd.units.nth unit).st = 1 ∨ (s.recd.units.nth unit).st = 2 then s.capTake unit else s))

/-- RECORD_COMMIT (R397, R398). -/
def execRecordCommit (s : State) : Host.Outcome State Fault Refusal := .next (s.inStage State.commitStaged)

/-- CYCLE_CUT (R392). -/
def execCycleCut (portal : Nat) (s : State) : Host.Outcome State Fault Refusal := onObject 8 portal (s.inStage (State.cutCycle portal))

/-- RELIEF_SET (R423). -/
def execReliefSet (c : Cmd) (s : State) : Host.Outcome State Fault Refusal := hostCmd (fun j => State.cfgCmd j 1) c s

/-- RELIEF_APPLY (R419, R423): the pending request is checked, applied as at clock 0, and completes. -/
def execReliefApply (s : State) : Host.Outcome State Fault Refusal :=
  .next (s.inStage (fun s =>
    let a := s.reliefGuard.reliefTake
    let t := a.2.foldl (State.compareAxis a.2) a.1
    match t.cfg.request with
    | none => t
    | some q => if q.applied || q.poison then t.reliefTick else t))

/-- RELIEF_TIMEOUT (R423). -/
def execReliefTimeout (s : State) : Host.Outcome State Fault Refusal := .next (s.inStage State.reliefTimeout)

/-- IMG_WRITE (R424). -/
def execImgWrite (c : Cmd) (s : State) : Host.Outcome State Fault Refusal := hostCmd (fun j => State.cfgCmd j 2) c s

/-- IMG_WRITE_DONE (R424). -/
def execImgWriteDone (s : State) : Host.Outcome State Fault Refusal := .next (s.whenUp (State.imgDone 2))

/-- IMG_COMMIT (R424). -/
def execImgCommit (c : Cmd) (s : State) : Host.Outcome State Fault Refusal := hostCmd (fun j => State.cfgCmd j 3) c s

/-- IMG_COMMIT_DONE (R424). -/
def execImgCommitDone (s : State) : Host.Outcome State Fault Refusal := .next (s.whenUp (State.imgDone 3))

/-- IMG_READ (R424). -/
def execImgRead (c : Cmd) (s : State) : Host.Outcome State Fault Refusal := hostCmd (fun j => State.cfgCmd j 4) c s

end Sys2Proof.Machine
end

