-- ==== Sys2Proof/Machine/ExecHost.lean ====
section
/-! DEFINITION. Meanings: the PCIe ports, rings, cistern accesses, and the HIF commands. -/

namespace Sys2Proof.Machine

/-- A port reset (R338, R406, R418): everything of the port is gone, with its pending OPENs and its open group. -/
def State.portReset (port : Nat) (kind : PortResetKind) (s : State) : State :=
  let s := (s.portResetRec port).portResetHif port kind
  { s with
    seq := { s.seq with pends := s.seq.pends.filter (fun d => d.psd || decide (d.job.cmd.port ≠ port)) }
    cfg := { s.cfg with groupOpen := s.cfg.groupOpen.put port false, groups := s.cfg.groups.put port [] } }

/-- PORT_RESET (R338): of an enabled port while the core runs. -/
def execPortReset (port : Nat) (kind : PortResetKind) (s : State) : Host.Outcome State Fault Refusal :=
  onObject 2 port (s.inCore (fun s => if portEnabled s.boot.straps port then s.portReset port kind else s))

/-- PORT_UP (R338, R454). -/
def execPortUp (port width speed : Nat) (s : State) : Host.Outcome State Fault Refusal :=
  onObject 2 port (s.portUp port width speed).flush

/-- PCIE_CONFIG_REQUEST (R334, R335, R438). -/
def execPcieConfigRequest (port : Nat) (req : CfgReq) (s : State) : Host.Outcome State Fault Refusal :=
  onObject 2 port (s.pcieConfig port req).flush

/-- JET_TAIL (R343, R344). -/
def execJetTail (port ring : Nat) (value : Word) (_clk : Nat) (s : State) : Host.Outcome State Fault Refusal :=
  onObjects 2 port 64 ring (s.jetTail port ring value).flush

/-- JET_CQ (R343, R344). -/
def execJetCq (port ring : Nat) (value : Word) (_clk : Nat) (s : State) : Host.Outcome State Fault Refusal :=
  onObjects 2 port 64 ring (s.jetCq port ring value).flush

/-- DESCRIPTOR_FETCH (R348, R350). -/
def execDescriptorFetch (port ring : Nat) (s : State) : Host.Outcome State Fault Refusal :=
  onObjects 2 port 64 ring (s.fetch port ring)

/-- FETCH_COMPLETION (R342, R345, R346, R362): descriptors of eight words. -/
def execFetchCompletion (port ring : Nat) (descs : List (List Word)) (failed : Bool) (latencyUs : Nat) (s : State) :
    Host.Outcome State Fault Refusal :=
  onObjects 2 port 64 ring (s.fetched port ring descs failed latencyUs).flush

/-- COMPLETION_TIMEOUT (R342, R368): which is the ring of a fetch, or the first page of a PAGE_IN. -/
def execCompletionTimeout (port : Nat) (isPageIn : Bool) (which : Nat) (s : State) : Host.Outcome State Fault Refusal :=
  onObjects 2 port (if isPageIn then 1024 else 64) which (s.readTimeout port isPageIn which).flush

/-- COMMAND_TIMEOUT (R347): id is the command's number in the tracker. -/
def execCommandTimeout (id : Nat) (s : State) : Host.Outcome State Fault Refusal := .next (s.whenUp (State.jobTimeout id))

/-- MSIX_MODERATION_TIMEOUT (R361). -/
def execMsixModerationTimeout (port ring : Nat) (s : State) : Host.Outcome State Fault Refusal :=
  onObjects 2 port 64 ring (s.moderate port ring)

/-- MSIX_TABLE_WRITE (R336, R361). -/
def execMsixTableWrite (port vector : Nat) (masked : Bool) (s : State) : Host.Outcome State Fault Refusal :=
  onObjects 2 port 32 vector (s.msixMask port vector masked)

/-- Guarantee 3, 5 or 6 restored (R364). -/
def State.restoreGuarantee (g port : Nat) (s : State) : State :=
  let h := s.hif
  let tick := s.time.tick
  if g = 3 then
    let r := h.g3.restore s.regs.HIF_CFG_SAFETY_PORT 3 tick
    ({ s with hif := { h with g3 := r.1 } } : State).posts r.2
  else if g = 5 then
    let r := (h.g5.nth port).restore port 5 tick
    ({ s with hif := { h with g5 := h.g5.put port r.1 } } : State).posts r.2
  else if g = 6 then
    let r := (h.g6.nth port).restore port 6 tick
    ({ s with hif := { h with g6 := h.g6.put port r.1 } } : State).posts r.2
  else s

/-- GUARANTEE_RESTORED (R364): guarantees 1 to 6. -/
def execGuaranteeRestored (guarantee port : Nat) (s : State) : Host.Outcome State Fault Refusal :=
  onObjects 7 guarantee 2 port (s.inStage (State.restoreGuarantee guarantee port))

/-- BAR2_WRITE (R366, R378). -/
def execBar2Write (port addr : Nat) (data : List Byte) (s : State) : Host.Outcome State Fault Refusal :=
  onObject 2 port (s.fromPort port (State.bar2Write port addr data))

/-- BAR2_READ (R366, R380). -/
def execBar2Read (port addr len : Nat) (s : State) : Host.Outcome State Fault Refusal :=
  onObject 2 port (s.fromPort port (State.bar2Read port addr len))

/-- PAGE_IN_READ_COMPLETION (R368, R379). -/
def execPageInReadCompletion (port page offset : Nat) (data : List Byte) (ep : Bool) (s : State) : Host.Outcome State Fault Refusal :=
  onObjects 2 port 1024 page (s.whenUp (State.pageData port page offset data ep))

/-- PAGE_TRANSFER_DONE (R368): the transfer whose first page is named. -/
def execPageTransferDone (port page : Nat) (s : State) : Host.Outcome State Fault Refusal :=
  onObjects 2 port 1024 page (s.whenUp (State.pageDone port page))

/-- NOP (R368). -/
def execNop (c : Cmd) (s : State) : Host.Outcome State Fault Refusal := hostCmd (fun j => State.hifCmd j 1) c s

/-- PAGE_TAKE (R368, R369). -/
def execPageTake (c : Cmd) (s : State) : Host.Outcome State Fault Refusal := hostCmd (fun j => State.hifCmd j 2) c s

/-- PAGE_GIVE (R368, R369). -/
def execPageGive (c : Cmd) (s : State) : Host.Outcome State Fault Refusal := hostCmd (fun j => State.hifCmd j 3) c s

/-- PAGE_PASS (R368, R369). -/
def execPagePass (c : Cmd) (s : State) : Host.Outcome State Fault Refusal := hostCmd (fun j => State.hifCmd j 4) c s

/-- PAGE_IN (R368). -/
def execPageIn (c : Cmd) (s : State) : Host.Outcome State Fault Refusal := hostCmd (fun j => State.hifCmd j 5) c s

/-- PAGE_OUT (R368). -/
def execPageOut (c : Cmd) (s : State) : Host.Outcome State Fault Refusal := hostCmd (fun j => State.hifCmd j 6) c s

end Sys2Proof.Machine
end

