-- ==== Sys2Proof/Machine/ExecRegs.lean ====
section
/-! DEFINITION. Meanings: reads with a side effect, register writes, and the actions of the control registers. -/

namespace Sys2Proof.Machine

/-- A register's value is returned to a port. -/
def State.answerRead (port : Nat) (v : Nat) (s : State) : State := { s with out := .regData port (BitVec.ofNat 32 v) :: s.out }

/-- The number a 40-bit REC register shows: 0 REC_NEXT, 1 REC_COMMIT, 2 REC_OLDEST, 3 and 4 REC_P_FROM of port A and B. -/
def State.recNumber (which : Nat) (s : State) : Nat :=
  match which with
  | 0 => s.recd.next
  | 1 => s.recd.commit
  | 2 => s.recd.oldest
  | n + 3 => s.recFrom n

/-- DTC_LO_READ (R53): at a clock of the present tick. -/
def execDtcLoRead (port clk : Nat) (s : State) : Host.Outcome State Fault Refusal :=
  onObject 2 port (s.fromPort port (fun s =>
    let dtc := 10000 * s.time.tick + clk
    ({ s with time := { s.time with snapHi := s.time.snapHi.put port (dtc / 4294967296 % 4294967296) } } : State).answerRead port dtc))

/-- REC_SEQ_LO_READ (R53). -/
def execRecSeqLoRead (port which : Nat) (s : State) : Host.Outcome State Fault Refusal :=
  onObjects 2 port 5 which (s.fromPort port (fun s =>
    let n := s.recNumber which
    (s.recMod (fun r => { r with snaps := r.snaps.upd port (fun v => v.put which (n / 4294967296 % 256)) })).answerRead port n))

/-- REGISTER_WRITE (R10 to R12, R41, R417 to R422). -/
def execRegisterWrite (port offset : Nat) (value : Word) (be clk : Nat) (s : State) : Host.Outcome State Fault Refusal :=
  onObject 2 port (s.regWrite port offset value be clk).flush

/-- RESYNC_SWITCH (R26). -/
def execResyncSwitch (s : State) : Host.Outcome State Fault Refusal := .next (s.whenUp State.askResync)

/-- CLR_LINK_CNT (R18). -/
def execClrLinkCnt (s : State) : Host.Outcome State Fault Refusal := .next (s.whenUp State.clrLinks)

/-- GEN_RESET (R435). -/
def execGenReset (port : Nat) (value : Word) (s : State) : Host.Outcome State Fault Refusal :=
  onObject 2 port (s.regRow port Reg.GEN_RESET 0 0 value)

/-- TCK_CLR_HWM (R39). -/
def execTckClrHwm (s : State) : Host.Outcome State Fault Refusal := .next (s.whenUp State.clrSlots)

/-- CLR_OVERRUN (R50). -/
def execClrOverrun (s : State) : Host.Outcome State Fault Refusal := .next (s.whenUp State.askClear)

/-- CLR_CYCLES (R73). -/
def execClrCycles (s : State) : Host.Outcome State Fault Refusal := .next (s.whenUp State.clrCycleCounts)

/-- CLR_LATCH (R119). -/
def execClrLatch (s : State) : Host.Outcome State Fault Refusal := .next (s.whenUp State.askLatchClear)

/-- CLR_TRIPS (R150). -/
def execClrTrips (s : State) : Host.Outcome State Fault Refusal := .next (s.whenUp State.clrTripCounts)

/-- LDR_CLR_OC (R176). -/
def execLdrClrOc (leaf : Nat) (s : State) : Host.Outcome State Fault Refusal :=
  onObject 16 leaf (s.whenUp (fun s => s.clrLeafOc leaf))

/-- CMP_POS_WRITE (R200). -/
def execCmpPosWrite (port axis : Nat) (value : Word) (clk : Nat) (s : State) : Host.Outcome State Fault Refusal :=
  onObjects 2 port 24 axis (s.regRow port Reg.MPG_A_CMP_POS axis clk value)

/-- DISARM (R200). -/
def execDisarm (axis clk : Nat) (s : State) : Host.Outcome State Fault Refusal := onObject 24 axis (s.whenUp (State.disarm axis clk))

/-- STP_CLR_OC (R223). -/
def execStpClrOc (step : Nat) (s : State) : Host.Outcome State Fault Refusal :=
  onObject 8 step (s.whenUp (fun s => s.clrStepOc step))

/-- STP_CLR_COUNT (R222). -/
def execStpClrCount (s : State) : Host.Outcome State Fault Refusal := .next (s.whenUp State.clrStepCounts)

/-- CLR_HALL (R250). -/
def execClrHall (leaf : Nat) (s : State) : Host.Outcome State Fault Refusal :=
  onObject 16 leaf (s.whenUp (fun s => s.clrHallFault leaf))

/-- CLR_ENC (R250). -/
def execClrEnc (port : Nat) (s : State) : Host.Outcome State Fault Refusal :=
  onObject 8 port (s.whenUp (fun s => s.clrEncFault port))

/-- FBK_CLR_CNT (R250). -/
def execFbkClrCnt (s : State) : Host.Outcome State Fault Refusal := .next (s.whenUp State.clrFbkCounts)

/-- CLR_ALARM (R257). -/
def execClrAlarm (s : State) : Host.Outcome State Fault Refusal := .next (s.whenUp State.clrAlarms)

/-- SAVE (R265). -/
def execSave (s : State) : Host.Outcome State Fault Refusal := .next (s.whenUp State.askSave)

/-- LSW_CLR_COUNT (R287). -/
def execLswClrCount (s : State) : Host.Outcome State Fault Refusal := .next (s.whenUp State.clrChanCounts)

/-- FIO_CLR_CNT (R296). -/
def execFioClrCnt (s : State) : Host.Outcome State Fault Refusal := .next (s.whenUp State.clrFieldCounts)

/-- HIF_CLR_HWM (R349). -/
def execHifClrHwm (s : State) : Host.Outcome State Fault Refusal := .next (s.whenUp State.clrTrackHwm)

/-- CLR_STAT (R362). -/
def execClrStat (port : Nat) (s : State) : Host.Outcome State Fault Refusal := onObject 2 port (s.whenUp (State.clrPortStat port))

/-- ENABLE (R342). -/
def execEnable (port ring : Nat) (s : State) : Host.Outcome State Fault Refusal :=
  onObjects 2 port 64 ring (s.whenUp (State.ringEnable port ring))

/-- DISABLE (R342). -/
def execDisable (port ring : Nat) (s : State) : Host.Outcome State Fault Refusal :=
  onObjects 2 port 64 ring (s.whenUp (State.ringDisable port ring))

/-- MEM_CLR_COUNT (R372). -/
def execMemClrCount (s : State) : Host.Outcome State Fault Refusal := .next (s.whenUp State.clrMemCounts)

/-- REC_CLR_COUNT (R396). -/
def execRecClrCount (s : State) : Host.Outcome State Fault Refusal := .next (s.whenUp State.clrRecCount)

/-- CFG_GROUP_OPEN (R418). -/
def execCfgGroupOpen (port : Nat) (s : State) : Host.Outcome State Fault Refusal := onObject 2 port (s.fromPort port (State.groupOpen port))

/-- CFG_GROUP_COMMIT (R418). -/
def execCfgGroupCommit (port clk : Nat) (s : State) : Host.Outcome State Fault Refusal :=
  onObject 2 port (s.fromPort port (State.groupCommit port clk))

end Sys2Proof.Machine
end

