-- ==== Sys2Proof/Machine/ExecSeq.lean ====
section
/-! DEFINITION. Meanings: portal timers and signature pulses, pending OPENs, departure closes, and the SEQ commands. -/

namespace Sys2Proof.Machine

/-- T_UNLOCK_EXPIRED (R73). -/
def execTUnlockExpired (portal : Nat) (s : State) : Host.Outcome State Fault Refusal :=
  onObject 8 portal (s.inStage (State.portalRow portal (fun _ => PSt.unlockExpired portal)))

/-- T_OPEN_EXPIRED (R73). -/
def execTOpenExpired (portal : Nat) (s : State) : Host.Outcome State Fault Refusal :=
  onObject 8 portal (s.inStage (State.portalRow portal (fun _ => PSt.openExpired portal)))

/-- T_CLOSE_EXPIRED (R73). -/
def execTCloseExpired (portal : Nat) (s : State) : Host.Outcome State Fault Refusal :=
  onObject 8 portal (s.inStage (State.portalRow portal (fun _ => PSt.closeExpired portal)))

/-- T_LOCK_EXPIRED (R73). -/
def execTLockExpired (portal : Nat) (s : State) : Host.Outcome State Fault Refusal :=
  onObject 8 portal (s.inStage (State.portalRow portal (fun c => PSt.lockExpired c portal)))

/-- T_DWELL_EXPIRED (R73). -/
def execTDwellExpired (portal : Nat) (s : State) : Host.Outcome State Fault Refusal :=
  onObject 8 portal (s.inStage (State.portalRow portal (fun c => PSt.dwellExpired c portal)))

/-- T_WARN_EXPIRED (R73). -/
def execTWarnExpired (portal : Nat) (s : State) : Host.Outcome State Fault Refusal :=
  onObject 8 portal (s.inStage (State.portalRow portal (fun c => PSt.warnExpired c portal)))

/-- T_RECLOSE_EXPIRED (R73, R481): with the obstacle clear. -/
def execTRecloseExpired (portal : Nat) (s : State) : Host.Outcome State Fault Refusal :=
  onObject 8 portal (s.inStage (State.portalRow portal (fun c a =>
    if c.obsClear portal then a.recloseExpired c portal (c.permit (bankOf c.rf portal)) else a)))

/-- T_OBS_CLEAR_EXPIRED (R73, R481). -/
def execTObsClearExpired (portal : Nat) (s : State) : Host.Outcome State Fault Refusal :=
  onObject 8 portal (s.inStage (State.portalRow portal (fun c => PSt.obsClearExpired c portal)))

/-- T_STEP_EXPIRED (R74). -/
def execTStepExpired (portal : Nat) (s : State) : Host.Outcome State Fault Refusal :=
  onObject 8 portal (s.inStage (State.portalRow portal (fun _ => PSt.stepExpired)))

/-- SIGNATURE_PULSE (R69, R70). -/
def execSignaturePulse (portal : Nat) (s : State) : Host.Outcome State Fault Refusal :=
  onObject 8 portal (s.inStage (State.portalRow portal (fun c => PSt.commandPulse c portal)))

/-- SIG_PULSE_JUDGED (R69, R70): of a pulse that runs. -/
def execSigPulseJudged (portal : Nat) (ma : Int) (s : State) : Host.Outcome State Fault Refusal :=
  onObject 8 portal (s.inStage (State.portalRow portal (fun c a => if a.x.pulse = 0 then a else a.judgePulse c portal ma)))

/-- PENDING_OPEN_TAKEN (R93): the pending OPEN that holds the portal's slot, with PERMIT true. -/
def execPendingOpenTaken (portal : Nat) (s : State) : Host.Outcome State Fault Refusal :=
  onObject 8 portal (s.inStage (State.pendRow portal (fun c d o =>
    if !o.pendLost c d && d.permitted c then o.pendTake c d else o)))

/-- PEND_DEADLINE (R93). -/
def execPendDeadline (portal : Nat) (s : State) : Host.Outcome State Fault Refusal :=
  onObject 8 portal (s.inStage (State.pendRow portal (fun _ d o => o.endPend d 4 d.done)))

/-- DEPART_MS_EXPIRED (R96). -/
def execDepartMsExpired (bank : Nat) (s : State) : Host.Outcome State Fault Refusal :=
  onObject 4 bank (s.inStage (fun s => { s with seq := s.seq.bank bank SeqBank.departLate }))

/-- OPEN (R90). -/
def execSeqOpen (c : Cmd) (s : State) : Host.Outcome State Fault Refusal := hostCmd (State.seqCmdNow 1) c s

/-- CLOSE (R90). -/
def execSeqClose (c : Cmd) (s : State) : Host.Outcome State Fault Refusal := hostCmd (State.seqCmdNow 2) c s

/-- REOPEN (R90). -/
def execSeqReopen (c : Cmd) (s : State) : Host.Outcome State Fault Refusal := hostCmd (State.seqCmdNow 3) c s

/-- HOLD (R90). -/
def execSeqHold (c : Cmd) (s : State) : Host.Outcome State Fault Refusal := hostCmd (State.seqCmdNow 4) c s

/-- CREW_CLOSE (R90). -/
def execCrewClose (c : Cmd) (s : State) : Host.Outcome State Fault Refusal := hostCmd (State.seqCmdNow 5) c s

/-- ISOLATE (R90). -/
def execIsolate (c : Cmd) (s : State) : Host.Outcome State Fault Refusal := hostCmd (State.seqCmdNow 6) c s

/-- DEISOLATE (R90). -/
def execDeisolate (c : Cmd) (s : State) : Host.Outcome State Fault Refusal := hostCmd (State.seqCmdNow 7) c s

/-- CLEAR_FAULT (R75, R90). -/
def execClearFault (c : Cmd) (s : State) : Host.Outcome State Fault Refusal := hostCmd (State.seqCmdNow 8) c s

/-- RESET_MANUAL (R90). -/
def execResetManual (c : Cmd) (s : State) : Host.Outcome State Fault Refusal := hostCmd (State.seqCmdNow 9) c s

end Sys2Proof.Machine
end

