-- ==== Sys2Proof/Machine/ExecSwitch.lean ====
section
/-! DEFINITION. Meanings: the switch die with the load switches, trainline inputs and channel B; the field die; the interlock on the core
die. A remote die held by a device reset does nothing (R431). -/

namespace Sys2Proof.Machine

/-- Something that happens on the switch die, which every device reset holds in reset. -/
def State.onSwitch (f : SwitchDie → SwitchDie) (s : State) : State :=
  if s.boot.phase = .deviceReset then s else { s with sw := f s.sw }

/-- Something that happens on the field die. -/
def State.onField (f : FieldDie → FieldDie) (s : State) : State :=
  if s.boot.phase = .deviceReset then s else { s with field := f s.field }

/-- A change of one channel by an event of its own. -/
def SwitchDie.onChan (ch : Nat) (f : SwitchDie → Chan → Chan × List Ev) (d : SwitchDie) : SwitchDie := d.chan ch (f d)

/-- SWITCH_LINK4_FRAME (R20, R25, R26, R28): a frame that the core die has sent, or a slot without one. -/
def execSwitchLink4Frame (valid : Bool) (s : State) : Host.Outcome State Fault Refusal :=
  .next (s.onSwitch (SwitchDie.frame4 (valid && s.coreRuns) s.links.now4))

/-- SWITCH_AUTONOMOUS (R25). -/
def execSwitchAutonomous (s : State) : Host.Outcome State Fault Refusal := .next (s.onSwitch SwitchDie.enterAuto)

/-- SWITCH_SUPERVISOR_RESET (R291). -/
def execSwitchSupervisorReset (s : State) : Host.Outcome State Fault Refusal := .next (s.onSwitch SwitchDie.supervisorReset)

/-- LINK6_FRAME (R21, R106, R109): a frame comes only from a field die that is up. -/
def execLink6Frame (valid : Bool) (s : State) : Host.Outcome State Fault Refusal :=
  .next (s.onSwitch (SwitchDie.frame6 (valid && s.field.up) s.field.active s.field.unknown))

/-- LINK6_FRAME_MISSED (R20). -/
def execLink6FrameMissed (s : State) : Host.Outcome State Fault Refusal := .next (s.onSwitch (SwitchDie.frame6 false 0 0))

/-- LSW_EVALUATION (R276 to R287): currents in mA, temperatures in 0.1 °C, rails in 10 mV. -/
def execLswEvaluation (amps temps : List Int) (rails : List Nat) (s : State) : Host.Outcome State Fault Refusal :=
  .next (s.onSwitch (SwitchDie.evaluate amps temps rails))

/-- LSW_COMPARATOR_TRIP (R276, R279). -/
def execLswComparatorTrip (ch : Nat) (ma : Int) (s : State) : Host.Outcome State Fault Refusal :=
  onObject 48 ch (s.onSwitch (SwitchDie.onChan ch (fun d c => (c.comparator (chSet d.settings ch) ma, []))))

/-- INRUSH_WINDOW_END (R278). -/
def execInrushWindowEnd (ch : Nat) (s : State) : Host.Outcome State Fault Refusal :=
  onObject 48 ch (s.onSwitch (SwitchDie.onChan ch (fun d c => (c.windowEnd (chSet d.settings ch), []))))

/-- PAUSE_END (R280). -/
def execPauseEnd (ch : Nat) (s : State) : Host.Outcome State Fault Refusal :=
  onObject 48 ch (s.onSwitch (SwitchDie.onChan ch (fun d c => c.pauseEnded ch (chSet d.settings ch) (d.groups.nth (ch / 8)).uv)))

/-- SETTLE_EXPIRED (R277). -/
def execSettleExpired (ch : Nat) (s : State) : Host.Outcome State Fault Refusal :=
  onObject 48 ch (s.onSwitch (SwitchDie.onChan ch (fun _ c => (c.settled, []))))

/-- GROUP_UNDER_VOLTAGE (R282). -/
def execGroupUnderVoltage (g v : Nat) (s : State) : Host.Outcome State Fault Refusal :=
  onObject 6 g (s.onSwitch (SwitchDie.enterUv g v))

/-- GROUP_UV_RECOVERED (R283). -/
def execGroupUvRecovered (g v : Nat) (s : State) : Host.Outcome State Fault Refusal :=
  onObject 6 g (s.onSwitch (SwitchDie.leaveUv g v))

/-- UV_STAGGERED_RESTART (R283). -/
def execUvStaggeredRestart (ch : Nat) (s : State) : Host.Outcome State Fault Refusal :=
  onObject 48 ch (s.onSwitch (SwitchDie.onChan ch (fun d c => (c.uvRestart (chSet d.settings ch) (d.groups.nth (ch / 8)).uv, []))))

/-- OPEN_LOAD_QUALIFIED (R285): only of a channel that has it enabled. -/
def execOpenLoadQualified (ch : Nat) (isOpen : Bool) (s : State) : Host.Outcome State Fault Refusal :=
  onObject 48 ch (s.onSwitch (SwitchDie.onChan ch (fun d c =>
    if (chSet d.settings ch).olEn then c.openLoadSet ch isOpen else (c, []))))

/-- DIM_EDGE (R273, R274). -/
def execDimEdge (pin : Nat) (high : Bool) (s : State) : Host.Outcome State Fault Refusal :=
  onObject 8 pin (s.onSwitch (SwitchDie.dimEdge pin high))

/-- RAIL_DIP (R284). -/
def execRailDip (g v us : Nat) (s : State) : Host.Outcome State Fault Refusal :=
  onObject 6 g (s.onSwitch (fun d => { d with groups := d.groups.upd g (Group.dip v us) }))

/-- SENSE_UPDATE (R288, R289). -/
def execSenseUpdate (g : Nat) (s : State) : Host.Outcome State Fault Refusal := onObject 6 g (s.onSwitch (SwitchDie.sense g))

/-- CHANNEL_B_TEST_PULSE (R115, R116). -/
def execChannelBTestPulse (lsAbove70 : Bool) (s : State) : Host.Outcome State Fault Refusal :=
  .next (s.onSwitch (SwitchDie.testPulse lsAbove70))

/-- SWITCH_DIE_LATCH (R114). -/
def execSwitchDieLatch (s : State) : Host.Outcome State Fault Refusal := .next (s.onSwitch SwitchDie.latchOwn)

/-- TRAINLINE_SAMPLE (R306, R307): the six inputs in 10 mV. -/
def execTrainlineSample (volts : List Nat) (s : State) : Host.Outcome State Fault Refusal :=
  .next (s.onSwitch (SwitchDie.trainSample volts))

/-- TL_INDETERMINATE (R307). -/
def execTlIndeterminate (tl : Nat) (s : State) : Host.Outcome State Fault Refusal :=
  onObject 6 tl (s.onSwitch (fun d => { d with tl := d.tl.upd tl TrainLine.setIndet }))

/-- FIELD_LINK5_FRAME (R20, R25, R28, R305). -/
def execFieldLink5Frame (valid : Bool) (s : State) : Host.Outcome State Fault Refusal :=
  .next (s.onField (FieldDie.frame5 (valid && s.coreRuns) s.links.now5))

/-- FIELD_OUTPUTS_OFF (R25). -/
def execFieldOutputsOff (s : State) : Host.Outcome State Fault Refusal := .next (s.onField FieldDie.allOff)

/-- FIELD_DIE_SUPERVISOR_RESET (R299). -/
def execFieldDieSupervisorReset (above8V : Bool) (s : State) : Host.Outcome State Fault Refusal :=
  .next (s.onField (FieldDie.supervisor above8V))

/-- FIELD_SAMPLE (R295 to R302): inputs in 10 mV and µA, FSUP and outputs in 10 mV. -/
def execFieldSample (volts microamps : List Nat) (fsup : Nat) (outVolts : List Nat) (s : State) : Host.Outcome State Fault Refusal :=
  .next (s.onField (FieldDie.sample volts microamps fsup outVolts))

/-- WIRE_BREAK (R297): of an input that has it enabled, with a good supply. -/
def execWireBreak (input : Nat) (broken : Bool) (microamps : Nat) (s : State) : Host.Outcome State Fault Refusal :=
  onObject 64 input (s.onField (fun d =>
    if !d.up || decide (d.supply ≠ 0) || decide (d.settings.FIO_F_CFG_WB_EN input = 0) then d else
    let r := (d.ins.nth input).wire input broken microamps
    ({ d with ins := d.ins.put input r.1 } : FieldDie).say r.2))

/-- FIELD_SUPPLY_STATE (R299). -/
def execFieldSupplyState (missing low : Bool) (v : Nat) (s : State) : Host.Outcome State Fault Refusal :=
  .next (s.onField (fun d => if d.up then d.declareSupply missing low v else d))

/-- FS_REC_EXPIRED (R299). -/
def execFsRecExpired (v : Nat) (s : State) : Host.Outcome State Fault Refusal :=
  .next (s.onField (fun d => if d.up then d.recovered v else d))

/-- FIELD_OUTPUT_THERMAL (R301). -/
def execFieldOutputThermal (out : Nat) (hot : Bool) (s : State) : Host.Outcome State Fault Refusal :=
  onObject 16 out (s.onField (fun d => if d.up then d.thermal out hot else d))

/-- ILK_TEST_PULSE (R115, R116): channel A's pulse of this tick is judged. -/
def execIlkTestPulse (hsBelow30 : Bool) (s : State) : Host.Outcome State Fault Refusal :=
  .next (s.inStage (State.ilkRow (fun _ k => k.judgePulse hsBelow30)))

/-- ILK_DISCREPANCY (R111, R113). -/
def execIlkDiscrepancy (s : State) : Host.Outcome State Fault Refusal :=
  .next (s.inStage (State.ilkRow (fun x k => if k.decA && !k.decB && !x.fault4 && !x.fault6 then k.discrepancy x 0 else (k, []))))

/-- ILK_DISC_SAFE (R112, R113). -/
def execIlkDiscSafe (s : State) : Host.Outcome State Fault Refusal :=
  .next (s.inStage (State.ilkRow (fun x k => if !k.decA && k.decB && !x.fault4 && !x.fault6 then k.discSafeReport else (k, []))))

/-- ILK_FEEDBACK_TIMEOUT (R118): while the feedback, of good quality, disagrees. -/
def execIlkFeedbackTimeout (s : State) : Host.Outcome State Fault Refusal :=
  .next (s.inStage (State.ilkRow (fun x k =>
    if x.feedback.isSome ∧ k.fbTicks ≠ 0 ∧ (k.st = .opened ∨ k.st = .closed) then k.latch 6 else (k, []))))

/-- CHARGE_PUMP_RUN_DOWN (R104): the switch of channel A or B stops conducting. -/
def execChargePumpRunDown (chB : Bool) (s : State) : Host.Outcome State Fault Refusal :=
  .next (if chB then s.onSwitch (fun d => { d with chB := { d.chB with cond := false } })
    else { s with ilk := { s.ilk with outA := false, drive := false, edges := 0 } })

end Sys2Proof.Machine
end

