-- ==== Sys2Proof/Machine/ExecTick.lean ====
section
/-! DEFINITION. Meanings: the tick, resets, supplies and start-up. -/

namespace Sys2Proof.Machine

/-- TICK (R29, R38, R39). -/
def execTick (a : TickIn) (s : State) : Host.Outcome State Fault Refusal := .next (s.tick [] a)

/-- The overruns of a tick in the order of their slots, one of each (R47). -/
def overruns (l : List Overrun) : List Overrun :=
  (List.range' 1 11).filterMap (fun k => l.find? (fun o => decide (o.slot = k)))

/-- TICK_OVERRUN (R47 to R49): slots 1 to 11. -/
def execTickOverrun (slot progress axis clk : Nat) (a : TickIn) (s : State) : Host.Outcome State Fault Refusal :=
  if 1 ≤ slot ∧ slot ≤ 11 then .next (s.tick (overruns (⟨slot, progress, axis, clk⟩ :: a.more)) a) else .fault .noSuchObject

/-- POWER_ON (R431). -/
def execPowerOn (s : State) : Host.Outcome State Fault Refusal := .next (s.deviceReset 0)

/-- RST_N_LOW (R432). -/
def execRstNLow (ns : Nat) (s : State) : Host.Outcome State Fault Refusal := .next (s.rstLow ns)

/-- VCORE_BROWN_OUT (R431, R442). -/
def execVcoreBrownOut (s : State) : Host.Outcome State Fault Refusal := .next (s.deviceReset 2)

/-- VIO_BROWN_OUT (R431, R442). -/
def execVioBrownOut (s : State) : Host.Outcome State Fault Refusal := .next (s.deviceReset 3)

/-- CLOCK_LOSS (R431). -/
def execClockLoss (s : State) : Host.Outcome State Fault Refusal := .next (s.coreReset 5)

/-- CORE_WATCHDOG (R434). -/
def execCoreWatchdog (s : State) : Host.Outcome State Fault Refusal := .next (s.coreReset 4)

/-- CORE_RESET (R431, R435): the reset that GEN_RESET asked for. -/
def execCoreReset (s : State) : Host.Outcome State Fault Refusal := .next (s.coreReset 6)

/-- RESET_RELEASE (R433, R437). -/
def execResetRelease (straps fillClocks loadUs : Nat) (s : State) : Host.Outcome State Fault Refusal :=
  .next (s.release straps fillClocks loadUs)

/-- VDRV_LOW (R442). -/
def execVdrvLow (die mv10 : Nat) (s : State) : Host.Outcome State Fault Refusal := onObject 4 die (s.vdrvLow die mv10).flush

/-- VDRV_RECOVERED (R442). -/
def execVdrvRecovered (die mv10 : Nat) (s : State) : Host.Outcome State Fault Refusal := onObject 4 die (s.vdrvBack die mv10).flush

end Sys2Proof.Machine
end

