-- ==== Sys2Proof/Machine/Dispatch.lean ====
section
/-! DEFINITION. One arm per command: a direct call of its meaning, or a refusal by name. -/

namespace Sys2Proof.Machine

/-- The effect of a command on everything but the queue. -/
def exec (i : Instr) (s : State) : Host.Outcome State Fault Refusal :=
  match i with
  | .tick a => Sys2Proof.Machine.execTick a s
  | .tickOverrun slot progress axis clk a => Sys2Proof.Machine.execTickOverrun slot progress axis clk a s
  | .powerOn => Sys2Proof.Machine.execPowerOn s
  | .rstNLow ns => Sys2Proof.Machine.execRstNLow ns s
  | .vcoreBrownOut => Sys2Proof.Machine.execVcoreBrownOut s
  | .vioBrownOut => Sys2Proof.Machine.execVioBrownOut s
  | .clockLoss => Sys2Proof.Machine.execClockLoss s
  | .coreWatchdog => Sys2Proof.Machine.execCoreWatchdog s
  | .coreReset => Sys2Proof.Machine.execCoreReset s
  | .resetRelease straps fillClocks loadUs => Sys2Proof.Machine.execResetRelease straps fillClocks loadUs s
  | .vdrvLow die mv10 => Sys2Proof.Machine.execVdrvLow die mv10 s
  | .vdrvRecovered die mv10 => Sys2Proof.Machine.execVdrvRecovered die mv10 s
  | .portReset port kind => Sys2Proof.Machine.execPortReset port kind s
  | .portUp port width speed => Sys2Proof.Machine.execPortUp port width speed s
  | .pcieConfigRequest port req => Sys2Proof.Machine.execPcieConfigRequest port req s
  | .carrierPeriodStart die half valid => Sys2Proof.Machine.execCarrierPeriodStart die half valid s
  | .bridgeSafeState die => Sys2Proof.Machine.execBridgeSafeState die s
  | .leafComparatorTrip leaf phase => Sys2Proof.Machine.execLeafComparatorTrip leaf phase s
  | .stepComparatorTrip step phase => Sys2Proof.Machine.execStepComparatorTrip step phase s
  | .edgeClassChange leaf loop => Sys2Proof.Machine.execEdgeClassChange leaf loop s
  | .switchLink4Frame valid => Sys2Proof.Machine.execSwitchLink4Frame valid s
  | .switchAutonomous => Sys2Proof.Machine.execSwitchAutonomous s
  | .switchSupervisorReset => Sys2Proof.Machine.execSwitchSupervisorReset s
  | .link6Frame valid => Sys2Proof.Machine.execLink6Frame valid s
  | .lswEvaluation amps temps rails => Sys2Proof.Machine.execLswEvaluation amps temps rails s
  | .lswComparatorTrip ch ma => Sys2Proof.Machine.execLswComparatorTrip ch ma s
  | .inrushWindowEnd ch => Sys2Proof.Machine.execInrushWindowEnd ch s
  | .pauseEnd ch => Sys2Proof.Machine.execPauseEnd ch s
  | .settleExpired ch => Sys2Proof.Machine.execSettleExpired ch s
  | .groupUnderVoltage g v => Sys2Proof.Machine.execGroupUnderVoltage g v s
  | .groupUvRecovered g v => Sys2Proof.Machine.execGroupUvRecovered g v s
  | .uvStaggeredRestart ch => Sys2Proof.Machine.execUvStaggeredRestart ch s
  | .openLoadQualified ch isOpen => Sys2Proof.Machine.execOpenLoadQualified ch isOpen s
  | .dimEdge pin high => Sys2Proof.Machine.execDimEdge pin high s
  | .railDip g v us => Sys2Proof.Machine.execRailDip g v us s
  | .senseUpdate g => Sys2Proof.Machine.execSenseUpdate g s
  | .channelBTestPulse lsAbove70 => Sys2Proof.Machine.execChannelBTestPulse lsAbove70 s
  | .switchDieLatch => Sys2Proof.Machine.execSwitchDieLatch s
  | .fieldLink5Frame valid => Sys2Proof.Machine.execFieldLink5Frame valid s
  | .fieldOutputsOff => Sys2Proof.Machine.execFieldOutputsOff s
  | .fieldDieSupervisorReset above8V => Sys2Proof.Machine.execFieldDieSupervisorReset above8V s
  | .fieldSample volts microamps fsup outVolts => Sys2Proof.Machine.execFieldSample volts microamps fsup outVolts s
  | .wireBreak input broken microamps => Sys2Proof.Machine.execWireBreak input broken microamps s
  | .fieldSupplyState missing low v => Sys2Proof.Machine.execFieldSupplyState missing low v s
  | .fsRecExpired v => Sys2Proof.Machine.execFsRecExpired v s
  | .fieldOutputThermal out hot => Sys2Proof.Machine.execFieldOutputThermal out hot s
  | .trainlineSample volts => Sys2Proof.Machine.execTrainlineSample volts s
  | .tlIndeterminate tl => Sys2Proof.Machine.execTlIndeterminate tl s
  | .ilkTestPulse hsBelow30 => Sys2Proof.Machine.execIlkTestPulse hsBelow30 s
  | .ilkDiscrepancy => Sys2Proof.Machine.execIlkDiscrepancy s
  | .ilkDiscSafe => Sys2Proof.Machine.execIlkDiscSafe s
  | .ilkFeedbackTimeout => Sys2Proof.Machine.execIlkFeedbackTimeout s
  | .chargePumpRunDown chB => Sys2Proof.Machine.execChargePumpRunDown chB s
  | .tUnlockExpired portal => Sys2Proof.Machine.execTUnlockExpired portal s
  | .tOpenExpired portal => Sys2Proof.Machine.execTOpenExpired portal s
  | .tCloseExpired portal => Sys2Proof.Machine.execTCloseExpired portal s
  | .tLockExpired portal => Sys2Proof.Machine.execTLockExpired portal s
  | .tDwellExpired portal => Sys2Proof.Machine.execTDwellExpired portal s
  | .tWarnExpired portal => Sys2Proof.Machine.execTWarnExpired portal s
  | .tRecloseExpired portal => Sys2Proof.Machine.execTRecloseExpired portal s
  | .tObsClearExpired portal => Sys2Proof.Machine.execTObsClearExpired portal s
  | .tStepExpired portal => Sys2Proof.Machine.execTStepExpired portal s
  | .signaturePulse portal => Sys2Proof.Machine.execSignaturePulse portal s
  | .sigPulseJudged portal ma => Sys2Proof.Machine.execSigPulseJudged portal ma s
  | .pendingOpenTaken portal => Sys2Proof.Machine.execPendingOpenTaken portal s
  | .pendDeadline portal => Sys2Proof.Machine.execPendDeadline portal s
  | .departMsExpired bank => Sys2Proof.Machine.execDepartMsExpired bank s
  | .obsTrip leaf cause => Sys2Proof.Machine.execObsTrip leaf cause s
  | .obsReactionDone leaf => Sys2Proof.Machine.execObsReactionDone leaf s
  | .ldrUvHold die => Sys2Proof.Machine.execLdrUvHold die s
  | .ldrUvResume die => Sys2Proof.Machine.execLdrUvResume die s
  | .ldrRailOv die => Sys2Proof.Machine.execLdrRailOv die s
  | .ldrOvRecovered die => Sys2Proof.Machine.execLdrOvRecovered die s
  | .ldrOcLatch leaf phase => Sys2Proof.Machine.execLdrOcLatch leaf phase s
  | .injectionRequest leaf => Sys2Proof.Machine.execInjectionRequest leaf s
  | .ldrRwindDone leaf aborted => Sys2Proof.Machine.execLdrRwindDone leaf aborted s
  | .stpStall step slip => Sys2Proof.Machine.execStpStall step slip s
  | .standstillReduction step => Sys2Proof.Machine.execStandstillReduction step s
  | .stpOcLatch step phase => Sys2Proof.Machine.execStpOcLatch step phase s
  | .homingTrip step => Sys2Proof.Machine.execHomingTrip step s
  | .fbkHallFault leaf cause => Sys2Proof.Machine.execFbkHallFault leaf cause s
  | .fbkEncoderFault port cause => Sys2Proof.Machine.execFbkEncoderFault port cause s
  | .errorWindowClose isEncoder source => Sys2Proof.Machine.execErrorWindowClose isEncoder source s
  | .fbkZeroSpeed leaf => Sys2Proof.Machine.execFbkZeroSpeed leaf s
  | .patStateSave => Sys2Proof.Machine.execPatStateSave s
  | .canFrameStart ctl clk => Sys2Proof.Machine.execCanFrameStart ctl clk s
  | .canFrameReceived ctl f sofDtc => Sys2Proof.Machine.execCanFrameReceived ctl f sofDtc s
  | .canTxDone ctl tdcv => Sys2Proof.Machine.execCanTxDone ctl tdcv s
  | .canFailedAttempt ctl lec noDominant noCount => Sys2Proof.Machine.execCanFailedAttempt ctl lec noDominant noCount s
  | .canBusoffRecovered ctl => Sys2Proof.Machine.execCanBusoffRecovered ctl s
  | .canProtocolException ctl => Sys2Proof.Machine.execCanProtocolException ctl s
  | .canModeWrite port ctl value => Sys2Proof.Machine.execCanModeWrite port ctl value s
  | .canMode ctl => Sys2Proof.Machine.execCanMode ctl s
  | .canObjEnWrite port ctl m value => Sys2Proof.Machine.execCanObjEnWrite port ctl m value s
  | .ntReferenceReceived f sofDtc => Sys2Proof.Machine.execNtReferenceReceived f sofDtc s
  | .ntMasterPeriod => Sys2Proof.Machine.execNtMasterPeriod s
  | .ntTimeout => Sys2Proof.Machine.execNtTimeout s
  | .jetTail port ring value clk => Sys2Proof.Machine.execJetTail port ring value clk s
  | .jetCq port ring value clk => Sys2Proof.Machine.execJetCq port ring value clk s
  | .descriptorFetch port ring => Sys2Proof.Machine.execDescriptorFetch port ring s
  | .fetchCompletion port ring descs failed latencyUs => Sys2Proof.Machine.execFetchCompletion port ring descs failed latencyUs s
  | .commandTimeout id => Sys2Proof.Machine.execCommandTimeout id s
  | .msixModerationTimeout port ring => Sys2Proof.Machine.execMsixModerationTimeout port ring s
  | .guaranteeRestored guarantee port => Sys2Proof.Machine.execGuaranteeRestored guarantee port s
  | .bar2Write port addr data => Sys2Proof.Machine.execBar2Write port addr data s
  | .bar2Read port addr len => Sys2Proof.Machine.execBar2Read port addr len s
  | .dtcLoRead port clk => Sys2Proof.Machine.execDtcLoRead port clk s
  | .recSeqLoRead port which => Sys2Proof.Machine.execRecSeqLoRead port which s
  | .registerWrite port offset value be clk => Sys2Proof.Machine.execRegisterWrite port offset value be clk s
  | .resyncSwitch => Sys2Proof.Machine.execResyncSwitch s
  | .clrLinkCnt => Sys2Proof.Machine.execClrLinkCnt s
  | .genReset port value => Sys2Proof.Machine.execGenReset port value s
  | .tckClrHwm => Sys2Proof.Machine.execTckClrHwm s
  | .clrOverrun => Sys2Proof.Machine.execClrOverrun s
  | .clrCycles => Sys2Proof.Machine.execClrCycles s
  | .clrLatch => Sys2Proof.Machine.execClrLatch s
  | .clrTrips => Sys2Proof.Machine.execClrTrips s
  | .ldrClrOc leaf => Sys2Proof.Machine.execLdrClrOc leaf s
  | .cmpPosWrite port axis value clk => Sys2Proof.Machine.execCmpPosWrite port axis value clk s
  | .disarm axis clk => Sys2Proof.Machine.execDisarm axis clk s
  | .stpClrOc step => Sys2Proof.Machine.execStpClrOc step s
  | .stpClrCount => Sys2Proof.Machine.execStpClrCount s
  | .clrHall leaf => Sys2Proof.Machine.execClrHall leaf s
  | .clrEnc port => Sys2Proof.Machine.execClrEnc port s
  | .fbkClrCnt => Sys2Proof.Machine.execFbkClrCnt s
  | .clrAlarm => Sys2Proof.Machine.execClrAlarm s
  | .save => Sys2Proof.Machine.execSave s
  | .lswClrCount => Sys2Proof.Machine.execLswClrCount s
  | .fioClrCnt => Sys2Proof.Machine.execFioClrCnt s
  | .hifClrHwm => Sys2Proof.Machine.execHifClrHwm s
  | .clrStat port => Sys2Proof.Machine.execClrStat port s
  | .enable port ring => Sys2Proof.Machine.execEnable port ring s
  | .disable port ring => Sys2Proof.Machine.execDisable port ring s
  | .memClrCount => Sys2Proof.Machine.execMemClrCount s
  | .recClrCount => Sys2Proof.Machine.execRecClrCount s
  | .cfgGroupOpen port => Sys2Proof.Machine.execCfgGroupOpen port s
  | .cfgGroupCommit port clk => Sys2Proof.Machine.execCfgGroupCommit port clk s
  | .seqOpen c => Sys2Proof.Machine.execSeqOpen c s
  | .seqClose c => Sys2Proof.Machine.execSeqClose c s
  | .seqReopen c => Sys2Proof.Machine.execSeqReopen c s
  | .seqHold c => Sys2Proof.Machine.execSeqHold c s
  | .crewClose c => Sys2Proof.Machine.execCrewClose c s
  | .isolate c => Sys2Proof.Machine.execIsolate c s
  | .deisolate c => Sys2Proof.Machine.execDeisolate c s
  | .clearFault c => Sys2Proof.Machine.execClearFault c s
  | .resetManual c => Sys2Proof.Machine.execResetManual c s
  | .armLoad c => Sys2Proof.Machine.execArmLoad c s
  | .armRead c => Sys2Proof.Machine.execArmRead c s
  | .tblLoad c => Sys2Proof.Machine.execTblLoad c s
  | .tblRead c => Sys2Proof.Machine.execTblRead c s
  | .accept c => Sys2Proof.Machine.execAccept c s
  | .refuse c => Sys2Proof.Machine.execRefuse c s
  | .thaw c => Sys2Proof.Machine.execThaw c s
  | .propRead c => Sys2Proof.Machine.execPropRead c s
  | .lswSwitch c => Sys2Proof.Machine.execLswSwitch c s
  | .lswRestart c => Sys2Proof.Machine.execLswRestart c s
  | .setOut c => Sys2Proof.Machine.execSetOut c s
  | .txSend c => Sys2Proof.Machine.execTxSend c s
  | .rxRead c => Sys2Proof.Machine.execRxRead c s
  | .txAbort c => Sys2Proof.Machine.execTxAbort c s
  | .nop c => Sys2Proof.Machine.execNop c s
  | .pageTake c => Sys2Proof.Machine.execPageTake c s
  | .pageGive c => Sys2Proof.Machine.execPageGive c s
  | .pagePass c => Sys2Proof.Machine.execPagePass c s
  | .pageIn c => Sys2Proof.Machine.execPageIn c s
  | .pageOut c => Sys2Proof.Machine.execPageOut c s
  | .pageTransferDone port page => Sys2Proof.Machine.execPageTransferDone port page s
  | .sluice c => Sys2Proof.Machine.execSluice c s
  | .inject c => Sys2Proof.Machine.execInject c s
  | .stop c => Sys2Proof.Machine.execStop c s
  | .sluiceDone mem => Sys2Proof.Machine.execSluiceDone mem s
  | .patrolDue mem => Sys2Proof.Machine.execPatrolDue mem s
  | .weirLeak mem => Sys2Proof.Machine.execWeirLeak mem s
  | .drain c => Sys2Proof.Machine.execDrain c s
  | .drainDone port => Sys2Proof.Machine.execDrainDone port s
  | .capArm c => Sys2Proof.Machine.execCapArm c s
  | .capTrigger c => Sys2Proof.Machine.execCapTrigger c s
  | .capStop c => Sys2Proof.Machine.execCapStop c s
  | .captureSample unit => Sys2Proof.Machine.execCaptureSample unit s
  | .recordCommit => Sys2Proof.Machine.execRecordCommit s
  | .cycleCut portal => Sys2Proof.Machine.execCycleCut portal s
  | .reliefSet c => Sys2Proof.Machine.execReliefSet c s
  | .reliefApply => Sys2Proof.Machine.execReliefApply s
  | .reliefTimeout => Sys2Proof.Machine.execReliefTimeout s
  | .imgWrite c => Sys2Proof.Machine.execImgWrite c s
  | .imgWriteDone => Sys2Proof.Machine.execImgWriteDone s
  | .imgCommit c => Sys2Proof.Machine.execImgCommit c s
  | .imgCommitDone => Sys2Proof.Machine.execImgCommitDone s
  | .imgRead c => Sys2Proof.Machine.execImgRead c s
  | .link6FrameMissed => Sys2Proof.Machine.execLink6FrameMissed s
  | .canReceiveError ctl lec dominantAfter => Sys2Proof.Machine.execCanReceiveError ctl lec dominantAfter s
  | .completionTimeout port isPageIn which => Sys2Proof.Machine.execCompletionTimeout port isPageIn which s
  | .pageInReadCompletion port page offset data ep => Sys2Proof.Machine.execPageInReadCompletion port page offset data ep s
  | .msixTableWrite port vector masked => Sys2Proof.Machine.execMsixTableWrite port vector masked s

end Sys2Proof.Machine
end

