-- ==== Sys2Proof/WellFormed.lean ====
section
/-! DEFINITION. Which commands are well formed: every operand names an object the HX2480 has (R6, R16, R267, R293, R336, R340, R365,
R368, R370), and the lists of what the world shows have an entry for each of its objects. -/

namespace Sys2Proof

/-- A command of a ring that the chip has (R340). -/
def Cmd.wf (c : Cmd) : Bool := decide (c.port < 2) && decide (c.ring < 64)

/-- One die's uplink: sixteen modulator phases (R16, R46). -/
def DieIn.wf (d : DieIn) : Bool := decide (d.phases.length = 16)

/-- What the world shows in a tick: eleven slots, four dies, and no more line lists than leaves and encoder ports (R16, R39, R46). -/
def TickIn.wf (a : TickIn) : Bool :=
  decide (a.slotClocks.length = 11) && decide (a.dies.length = 4) && a.dies.all DieIn.wf &&
  decide (a.hall.length ≤ 16) && decide (a.enc.length ≤ 8)

/-- Every operand of the command names an object of its kind. -/
def Instr.wf (i : Instr) : Bool :=
  match i with
  | .tick a => a.wf
  | .tickOverrun slot _ _ _ a => decide (1 ≤ slot) && decide (slot ≤ 11) && a.wf
  | .powerOn => true
  | .rstNLow _ => true
  | .vcoreBrownOut => true
  | .vioBrownOut => true
  | .clockLoss => true
  | .coreWatchdog => true
  | .coreReset => true
  | .resetRelease _ _ _ => true
  | .vdrvLow die _ => decide (die < 4)
  | .vdrvRecovered die _ => decide (die < 4)
  | .portReset port _ => decide (port < 2)
  | .portUp port _ _ => decide (port < 2)
  | .pcieConfigRequest port _ => decide (port < 2)
  | .carrierPeriodStart die half _ => decide (die < 4) && decide (half < 2)
  | .bridgeSafeState die => decide (die < 4)
  | .leafComparatorTrip leaf phase => decide (leaf < 16) && decide (phase < 3)
  | .stepComparatorTrip step phase => decide (step < 8) && decide (phase < 2)
  | .edgeClassChange leaf _ => decide (leaf < 16)
  | .switchLink4Frame _ => true
  | .switchAutonomous => true
  | .switchSupervisorReset => true
  | .link6Frame _ => true
  | .lswEvaluation amps temps rails => decide (amps.length = 48) && decide (temps.length = 48) && decide (rails.length = 6)
  | .lswComparatorTrip ch _ => decide (ch < 48)
  | .inrushWindowEnd ch => decide (ch < 48)
  | .pauseEnd ch => decide (ch < 48)
  | .settleExpired ch => decide (ch < 48)
  | .groupUnderVoltage g _ => decide (g < 6)
  | .groupUvRecovered g _ => decide (g < 6)
  | .uvStaggeredRestart ch => decide (ch < 48)
  | .openLoadQualified ch _ => decide (ch < 48)
  | .dimEdge pin _ => decide (pin < 8)
  | .railDip g _ _ => decide (g < 6)
  | .senseUpdate g => decide (g < 6)
  | .channelBTestPulse _ => true
  | .switchDieLatch => true
  | .fieldLink5Frame _ => true
  | .fieldOutputsOff => true
  | .fieldDieSupervisorReset _ => true
  | .fieldSample volts microamps _ outVolts => decide (volts.length = 64) && decide (microamps.length = 64) && decide (outVolts.length = 16)
  | .wireBreak input _ _ => decide (input < 64)
  | .fieldSupplyState _ _ _ => true
  | .fsRecExpired _ => true
  | .fieldOutputThermal out _ => decide (out < 16)
  | .trainlineSample volts => decide (volts.length = 6)
  | .tlIndeterminate tl => decide (tl < 6)
  | .ilkTestPulse _ => true
  | .ilkDiscrepancy => true
  | .ilkDiscSafe => true
  | .ilkFeedbackTimeout => true
  | .chargePumpRunDown _ => true
  | .tUnlockExpired portal => decide (portal < 8)
  | .tOpenExpired portal => decide (portal < 8)
  | .tCloseExpired portal => decide (portal < 8)
  | .tLockExpired portal => decide (portal < 8)
  | .tDwellExpired portal => decide (portal < 8)
  | .tWarnExpired portal => decide (portal < 8)
  | .tRecloseExpired portal => decide (portal < 8)
  | .tObsClearExpired portal => decide (portal < 8)
  | .tStepExpired portal => decide (portal < 8)
  | .signaturePulse portal => decide (portal < 8)
  | .sigPulseJudged portal _ => decide (portal < 8)
  | .pendingOpenTaken portal => decide (portal < 8)
  | .pendDeadline portal => decide (portal < 8)
  | .departMsExpired bank => decide (bank < 4)
  | .obsTrip leaf _ => decide (leaf < 16)
  | .obsReactionDone leaf => decide (leaf < 16)
  | .ldrUvHold die => decide (die < 4)
  | .ldrUvResume die => decide (die < 4)
  | .ldrRailOv die => decide (die < 4)
  | .ldrOvRecovered die => decide (die < 4)
  | .ldrOcLatch leaf phase => decide (leaf < 16) && decide (phase < 3)
  | .injectionRequest leaf => decide (leaf < 16)
  | .ldrRwindDone leaf _ => decide (leaf < 16)
  | .stpStall step _ => decide (step < 8)
  | .standstillReduction step => decide (step < 8)
  | .stpOcLatch step phase => decide (step < 8) && decide (phase < 2)
  | .homingTrip step => decide (step < 8)
  | .fbkHallFault leaf cause => decide (leaf < 16) && decide (1 ≤ cause) && decide (cause ≤ 3)
  | .fbkEncoderFault port cause => decide (port < 8) && decide (4 ≤ cause) && decide (cause ≤ 5)
  | .errorWindowClose isEncoder source => decide (source < (if isEncoder then 8 else 16))
  | .fbkZeroSpeed leaf => decide (leaf < 16)
  | .patStateSave => true
  | .canFrameStart ctl _ => decide (ctl < 4)
  | .canFrameReceived ctl _ _ => decide (ctl < 4)
  | .canTxDone ctl _ => decide (ctl < 4)
  | .canFailedAttempt ctl _ _ _ => decide (ctl < 4)
  | .canBusoffRecovered ctl => decide (ctl < 4)
  | .canProtocolException ctl => decide (ctl < 4)
  | .canModeWrite port ctl _ => decide (port < 2) && decide (ctl < 4)
  | .canMode ctl => decide (ctl < 4)
  | .canObjEnWrite port ctl m _ => decide (port < 2) && decide (ctl < 4) && decide (m < 4)
  | .ntReferenceReceived _ _ => true
  | .ntMasterPeriod => true
  | .ntTimeout => true
  | .jetTail port ring _ _ => decide (port < 2) && decide (ring < 64)
  | .jetCq port ring _ _ => decide (port < 2) && decide (ring < 64)
  | .descriptorFetch port ring => decide (port < 2) && decide (ring < 64)
  | .fetchCompletion port ring descs _ _ => decide (port < 2) && decide (ring < 64) && descs.all (fun d => decide (d.length = 8))
  | .commandTimeout _ => true
  | .msixModerationTimeout port ring => decide (port < 2) && decide (ring < 64)
  | .guaranteeRestored guarantee port => decide (guarantee < 7) && decide (port < 2)
  | .bar2Write port _ _ => decide (port < 2)
  | .bar2Read port _ _ => decide (port < 2)
  | .dtcLoRead port _ => decide (port < 2)
  | .recSeqLoRead port which => decide (port < 2) && decide (which < 5)
  | .registerWrite port _ _ _ _ => decide (port < 2)
  | .resyncSwitch => true
  | .clrLinkCnt => true
  | .genReset port _ => decide (port < 2)
  | .tckClrHwm => true
  | .clrOverrun => true
  | .clrCycles => true
  | .clrLatch => true
  | .clrTrips => true
  | .ldrClrOc leaf => decide (leaf < 16)
  | .cmpPosWrite port axis _ _ => decide (port < 2) && decide (axis < 24)
  | .disarm axis _ => decide (axis < 24)
  | .stpClrOc step => decide (step < 8)
  | .stpClrCount => true
  | .clrHall leaf => decide (leaf < 16)
  | .clrEnc port => decide (port < 8)
  | .fbkClrCnt => true
  | .clrAlarm => true
  | .save => true
  | .lswClrCount => true
  | .fioClrCnt => true
  | .hifClrHwm => true
  | .clrStat port => decide (port < 2)
  | .enable port ring => decide (port < 2) && decide (ring < 64)
  | .disable port ring => decide (port < 2) && decide (ring < 64)
  | .memClrCount => true
  | .recClrCount => true
  | .cfgGroupOpen port => decide (port < 2)
  | .cfgGroupCommit port _ => decide (port < 2)
  | .seqOpen c => c.wf
  | .seqClose c => c.wf
  | .seqReopen c => c.wf
  | .seqHold c => c.wf
  | .crewClose c => c.wf
  | .isolate c => c.wf
  | .deisolate c => c.wf
  | .clearFault c => c.wf
  | .resetManual c => c.wf
  | .armLoad c => c.wf
  | .armRead c => c.wf
  | .tblLoad c => c.wf
  | .tblRead c => c.wf
  | .accept c => c.wf
  | .refuse c => c.wf
  | .thaw c => c.wf
  | .propRead c => c.wf
  | .lswSwitch c => c.wf
  | .lswRestart c => c.wf
  | .setOut c => c.wf
  | .txSend c => c.wf
  | .rxRead c => c.wf
  | .txAbort c => c.wf
  | .nop c => c.wf
  | .pageTake c => c.wf
  | .pageGive c => c.wf
  | .pagePass c => c.wf
  | .pageIn c => c.wf
  | .pageOut c => c.wf
  | .pageTransferDone port page => decide (port < 2) && decide (page < 1024)
  | .sluice c => c.wf
  | .inject c => c.wf
  | .stop c => c.wf
  | .sluiceDone mem => decide (mem < 2)
  | .patrolDue mem => decide (mem < 2)
  | .weirLeak mem => decide (mem < 2)
  | .drain c => c.wf
  | .drainDone port => decide (port < 2)
  | .capArm c => c.wf
  | .capTrigger c => c.wf
  | .capStop c => c.wf
  | .captureSample unit => decide (unit < 4)
  | .recordCommit => true
  | .cycleCut portal => decide (portal < 8)
  | .reliefSet c => c.wf
  | .reliefApply => true
  | .reliefTimeout => true
  | .imgWrite c => c.wf
  | .imgWriteDone => true
  | .imgCommit c => c.wf
  | .imgCommitDone => true
  | .imgRead c => c.wf
  | .link6FrameMissed => true
  | .canReceiveError ctl _ _ => decide (ctl < 4)
  | .completionTimeout port isPageIn which => decide (port < 2) && decide (which < (if isPageIn then 1024 else 64))
  | .pageInReadCompletion port page _ _ _ => decide (port < 2) && decide (page < 1024)
  | .msixTableWrite port vector _ => decide (port < 2) && decide (vector < 32)

end Sys2Proof
end

