-- ==== Sys2Proof/Safety.lean ====
section
/-! DEFINITION. What counts as a safe run, and the frames that statements use: the canonical form of the memories, what handing over
events and placing entries may change, what a change of one object leaves. -/

namespace Sys2Proof.Machine

/-- Both memories stand in their canonical form: word numbers rise strictly, and no listed word equals what an unlisted address holds. -/
def State.memCanonical (s : State) : Prop := s.mem0.store.wf = true ∧ s.mem1.store.wf = true

/-- t is u but for what posting changes: ports and rings, tracker and completions of the host interface, what has left the block, the
error counters of the links, and the event lists of the memories' engines. -/
def State.Posted (u t : State) : Prop :=
  t = { u with
    out := t.out
    hif := { u.hif with ports := t.hif.ports, tracker := t.hif.tracker, compl := t.hif.compl, placed := t.hif.placed }
    links := { u.links with l := t.links.l }
    mem0 := { u.mem0 with evs := t.mem0.evs }
    mem1 := { u.mem1 with evs := t.mem1.evs } }

/-- Ring r of a port in ERROR with a cause, its fetch given up; the completions of its commands in flight will be discarded (R342). -/
def Hif.ringFails (port r cause : Nat) (h : Hif) : Hif :=
  { (h.port port (fun p => p.ring r (fun x => { x with st := .error, errCause := cause, asked := 0 }))) with
    tracker := h.tracker.map (fun t => if t.job.cmd.port = port ∧ t.job.cmd.ring = r then { t with orphan := true } else t) }

/-- t is what a device reset of s with a cause leaves (R431, R446): every part at its reset state but the memories' words, the patina's
stored sections, the dies' inputs, the waiting commands and the model's own records. -/
def State.DeviceResetTo (s t : State) (cause : Nat) (short : Bool) : Prop :=
  t = { State.reset with
    pending := s.pending, freeCount := s.freeCount, out := s.out, dies := t.dies
    boot := { Boot.reset with straps := s.boot.straps, cause := cause, vdrvLow := s.boot.vdrvLow, shortPulse := short }
    sw := { SwitchDie.reset with dim := s.sw.dim }, pat := { Pat.reset with sections := s.pat.sections }
    mem0 := .reset s.mem0.store, mem1 := .reset s.mem1.store } ∧
  ∀ b, b < 4 → t.dies.nth b = { BridgeDie.reset with vdrvOk := (s.dies.nth b).vdrvOk, edge := (s.dies.nth b).edge }

/-- t is what a core reset of s with a cause leaves (R431, R446), the watchdog storm apart: the core die at its reset state, the switch die
and the field die as they are, of each bridge die what the die itself holds. -/
def State.CoreResetTo (s t : State) (cause : Nat) : Prop :=
  t = { State.reset with
    pending := s.pending, freeCount := s.freeCount, out := s.out, boot := t.boot, sw := s.sw, field := s.field, dies := t.dies
    pat := { Pat.reset with sections := s.pat.sections }, mem0 := .reset s.mem0.store, mem1 := .reset s.mem1.store } ∧
  t.boot = { Boot.reset with phase := .coreReset, straps := s.boot.straps, cause := cause, vdrvLow := s.boot.vdrvLow
                             coreResets := satInc 8 s.boot.coreResets, storm := t.boot.storm, stormTimes := t.boot.stormTimes } ∧
  ∀ b, b < 4 → t.dies.nth b = { BridgeDie.reset with
    armed := (s.dies.nth b).armed, good := (s.dies.nth b).good, missed := (s.dies.nth b).missed, safe := (s.dies.nth b).safe
    vdrvOk := (s.dies.nth b).vdrvOk, loaded := (s.dies.nth b).loaded, edge := (s.dies.nth b).edge, half := (s.dies.nth b).half
    override := (s.dies.nth b).override, leafTrip := (s.dies.nth b).leafTrip, stepTrip := (s.dies.nth b).stepTrip }

/-- r is a next state in which the sequencer alone has changed, and in it portal p alone, as f says of the portal and of the events
raised, in their order. -/
def State.PortalGoes (s : State) (r : Host.Outcome State Fault Refusal) (p : Nat) (f : SeqPortal → List Post → Prop) : Prop :=
  ∃ (q : Seq) (l : List Post), r = .next (({ s with seq := q } : State).posts l).flush ∧ q = { s.seq with portals := q.portals } ∧
    (∀ k, k ≠ p → q.portals.nth k = s.seq.portals.nth k) ∧ f (q.portals.nth p) l

/-- r is a next state in which a SEQ command for portal p alone was taken: OK with the portal's bit DONE; the sequencer alone has
changed, and in it portal p alone, as f says. -/
def State.SeqTook (s : State) (r : Host.Outcome State Fault Refusal) (c : Cmd) (p : Nat) (f : SeqPortal → Prop) : Prop :=
  ∃ (q : Seq) (l : List Post),
    r = .next ((({ s with seq := q } : State).posts l).finish ⟨⟨0, s.time.tick, c⟩, 0, 2 ^ p⟩).flush ∧
    q = { s.seq with portals := q.portals } ∧ (∀ k, k ≠ p → q.portals.nth k = s.seq.portals.nth k) ∧ f (q.portals.nth p)

/-- r is a next state in which a host command is answered with a status and a result, and nothing else has happened. -/
def State.Answered (s : State) (r : Host.Outcome State Fault Refusal) (c : Cmd) (status result : Nat) : Prop :=
  r = .next (s.finish ⟨⟨0, s.time.tick, c⟩, status, result⟩).flush

end Sys2Proof.Machine
end

