-- ==== Sys2Proof/Certificates/Slice0/Obligations.lean ====
section
/-! DEFINITION. The statements for the provers, each about the machine of Sys2Proof.core. -/

open Sys2Proof Sys2Proof.Machine

/-- A step takes the command at the front of the queue and carries it out on the state with the rest of the queue. That an empty queue idles is the model's choice (log 2). -/
def Obligations.StepRunsFrontCommand : Prop :=
  (∀ (c : Instr) (rest : List Instr) (s : State), step { s with pending := c :: rest } = exec c { s with pending := rest }) ∧
  ∀ s : State, s.pending = [] → step s = .next s

/-- CARRIER_PERIOD_START (R24, R45, R161) on the die named, in both forms; nothing else of the machine changes. -/
def Obligations.CarrierPeriod : Prop :=
  ∀ (s : State) (die half : Nat), die < 4 → half < 2 → s.sendsWords = true →
  (∃ t, exec (.carrierPeriodStart die half true) s = .next t ∧ t = { s with dies := t.dies } ∧
    (∀ b, b ≠ die → t.dies.nth b = s.dies.nth b) ∧
    (t.dies.nth die).loaded = (s.dies.nth die).now.nth half ∧
    (t.dies.nth die).good = (s.dies.nth die).good + 1 ∧ (t.dies.nth die).missed = 0 ∧ (t.dies.nth die).half = half ∧
    (∀ j, (t.dies.nth die).leafTrip.nth j = false) ∧ (∀ j, (t.dies.nth die).stepTrip.nth j = false) ∧
    ((t.dies.nth die).armed = true ↔ (s.dies.nth die).armed = true ∨
      (s.dies.nth die).vdrvOk = true ∧ 15 ≤ (s.dies.nth die).good ∧ ((s.dies.nth die).now.nth half).arm = true) ∧
    ((t.dies.nth die).safe = true ↔ (s.dies.nth die).safe = true ∧
      ¬((s.dies.nth die).vdrvOk = true ∧ 15 ≤ (s.dies.nth die).good ∧ ((s.dies.nth die).now.nth half).arm = true))) ∧
  ∃ t, exec (.carrierPeriodStart die half false) s = .next t ∧ t = { s with dies := t.dies } ∧
    (∀ b, b ≠ die → t.dies.nth b = s.dies.nth b) ∧
    (t.dies.nth die).good = 0 ∧ (t.dies.nth die).missed = (s.dies.nth die).missed + 1 ∧
    (t.dies.nth die).loaded = (s.dies.nth die).loaded ∧ (t.dies.nth die).armed = (s.dies.nth die).armed ∧
    ((t.dies.nth die).safe = true ↔ (s.dies.nth die).safe = true ∨ 1 ≤ (s.dies.nth die).missed)

/-- BRIDGE_SAFE_STATE, LEAF_COMPARATOR_TRIP, STEP_COMPARATOR_TRIP and EDGE_CLASS_CHANGE: the whole next state. Whether the bounds 6.5, 10.5 and 20 kΩ themselves belong to the class below is the model's reading (log 45). -/
def Obligations.BridgeDieEvents : Prop :=
  (∀ (s : State) (die : Nat), die < 4 → 2 ≤ (s.dies.nth die).missed →
    exec (.bridgeSafeState die) s = .next { s with dies := s.dies.upd die (fun d => { d with safe := true }) }) ∧
  (∀ (s : State) (leaf phase : Nat), leaf < 16 → phase < 3 →
    ∃ t, exec (.leafComparatorTrip leaf phase) s = .next t ∧ t = { s with dies := t.dies } ∧
      (∀ b, b ≠ leaf / 4 → t.dies.nth b = s.dies.nth b) ∧
      t.dies.nth (leaf / 4) = { s.dies.nth (leaf / 4) with leafTrip := (s.dies.nth (leaf / 4)).leafTrip.put (leaf % 4) true
                                                           leafTrips := (t.dies.nth (leaf / 4)).leafTrips } ∧
      (∀ h, h / 3 = leaf % 4 → (t.dies.nth (leaf / 4)).leg h = .off) ∧
      ∀ j, j ≠ leaf % 4 → (t.dies.nth (leaf / 4)).leafTrips.nth j = (s.dies.nth (leaf / 4)).leafTrips.nth j) ∧
  (∀ (s : State) (step phase : Nat), step < 8 → phase < 2 →
    ∃ t, exec (.stepComparatorTrip step phase) s = .next t ∧ t = { s with dies := t.dies } ∧
      (∀ b, b ≠ step / 2 → t.dies.nth b = s.dies.nth b) ∧
      t.dies.nth (step / 2) = { s.dies.nth (step / 2) with
        stepTrip := (s.dies.nth (step / 2)).stepTrip.put (2 * (step % 2) + phase) true
        stepTrips := (t.dies.nth (step / 2)).stepTrips }) ∧
  ∀ (s : State) (leaf ohms ns : Nat), leaf < 16 →
    (ns < 1000 → exec (.edgeClassChange leaf ⟨ohms, ns⟩) s = .next s) ∧
    (1000 ≤ ns → (s.dies.nth (leaf / 4)).edge.nth (leaf % 4) = edgeClass ohms → exec (.edgeClassChange leaf ⟨ohms, ns⟩) s = .next s) ∧
    (1000 ≤ ns → (s.dies.nth (leaf / 4)).edge.nth (leaf % 4) ≠ edgeClass ohms →
      exec (.edgeClassChange leaf ⟨ohms, ns⟩) s = .next { s with dies := s.dies.upd (leaf / 4) (fun d =>
        { d with edge := d.edge.put (leaf % 4) (edgeClass ohms)
                 seen := d.seen.upd (leaf % 4) (fun l => l ++ [edgeClass ohms])
                 override := d.override.upd (leaf % 4) (fun o =>
                   o || (d.loaded.edgeArm.testBit (leaf % 4) && decide (edgeClass ohms ≠ 0))) }) }) ∧
    (edgeClass ohms = 1 ↔ ohms < 2000) ∧ (edgeClass ohms = 2 ↔ 20000 < ohms) ∧
    (edgeClass ohms = 0 ↔ 6500 ≤ ohms ∧ ohms ≤ 10500)

/-- LDR_UV_HOLD, LDR_UV_RESUME, LDR_RAIL_OV and LDR_OV_RECOVERED on a die in which the decision is new: the whole next state, events included. -/
def Obligations.RailDecisions : Prop :=
  ∀ (s : State) (die : Nat), die < 4 → s.coreRuns = true →
  ((s.dies.nth die).uvHold = false →
    exec (.ldrUvHold die) s = .next (({ s with dies := s.dies.upd die (fun d =>
      { d with uvHold := true, uvSince := s.time.tick, uvGood := 0 }) } : State).says
        [(0x0501, p1 die ++ p2 ((s.dies.nth die).rail : Nat))]).flush) ∧
  ((s.dies.nth die).uvHold = true →
    exec (.ldrUvResume die) s = .next (({ s with dies := s.dies.upd die (fun d =>
      { d with uvHold := false, uvRun := 0, uvGood := 0 }) } : State).says
        [(0x0502, p1 die ++ p4 (s.time.tick - (s.dies.nth die).uvSince : Nat))]).flush) ∧
  ((s.dies.nth die).ovTrip = false →
    exec (.ldrRailOv die) s = .next (({ s with dies := s.dies.upd die (fun d => { d with ovTrip := true, ovGood := 0 }) } : State).says
        [(0x0508, p1 die ++ p2 ((s.dies.nth die).rail : Nat))]).flush) ∧
  exec (.ldrOvRecovered die) s = .next ({ s with dies := s.dies.upd die (fun d => { d with ovTrip := false, ovGood := 0 }) } : State).flush

/-- LDR_OC_LATCH, STP_OC_LATCH, LDR_CLR_OC and STP_CLR_OC: the whole next state, events included. -/
def Obligations.OverCurrentLatch : Prop :=
  (∀ (s : State) (leaf phase : Nat), leaf < 16 → phase < 3 → s.coreRuns = true → (s.leaves.nth leaf).drive.ocLatched = false →
    exec (.ldrOcLatch leaf phase) s = .next (({ s with leaves := s.leaves.upd leaf (fun x =>
      { x with drive := { x.drive with ocLatched := true, ocPhase := phase } }) } : State).says [(0x0503, p1 leaf ++ p1 phase)]).flush) ∧
  (∀ (s : State) (step phase : Nat), step < 8 → phase < 2 → s.coreRuns = true → (s.steps.nth step).ocLatched = false →
    exec (.stpOcLatch step phase) s = .next (({ s with steps := s.steps.upd step (fun d =>
      { d with ocLatched := true, ocPhase := phase }) } : State).says [(0x0703, p1 step ++ p1 phase)]).flush) ∧
  (∀ (s : State) (leaf : Nat), leaf < 16 → s.up = true → (s.seq.portals.nth (leaf / 2)).st.clearsOc = true →
    exec (.ldrClrOc leaf) s = .next (({ s with leaves := s.leaves.upd leaf (fun x =>
      { x with drive := { x.drive with ocLatched := false, ocRun := 0 } }) } : State).says [(0x0504, p1 leaf ++ p1 0)]).flush) ∧
  (∀ (s : State) (leaf : Nat), leaf < 16 → s.up = true → (s.seq.portals.nth (leaf / 2)).st.clearsOc = false →
    exec (.ldrClrOc leaf) s = .next (s.says [(0x0504, p1 leaf ++ p1 1)]).flush) ∧
  (∀ (s : State) (step : Nat), step < 8 → s.up = true → (s.seq.portals.nth step).st.clearsOc = true →
    exec (.stpClrOc step) s = .next (({ s with steps := s.steps.upd step (fun d =>
      { d with ocLatched := false, ocRun := 0 }) } : State).says [(0x0704, p1 step ++ p1 0)]).flush) ∧
  ∀ (s : State) (step : Nat), step < 8 → s.up = true → (s.seq.portals.nth step).st.clearsOc = false →
    exec (.stpClrOc step) s = .next (s.says [(0x0704, p1 step ++ p1 1)]).flush

/-- STP_STALL, STANDSTILL_REDUCTION and HOMING_TRIP. -/
def Obligations.StepDriveEvents : Prop :=
  ∀ (s : State) (step : Nat), step < 8 → s.started = true →
  (∀ slip : Bool, ((s.moves.nth (16 + step)).kind ≠ .home ∨ (s.steps.nth step).homing ≠ .approach ∨ s.regs.STP_S_CFG_HOME_IN step < 64) →
    exec (.stpStall step slip) s = .next (({ s with steps := s.steps.upd step (fun d =>
      { d with stall := true, stallNew := true, slip := d.slip || slip, homed := d.homed && !slip, stalls := satInc 16 d.stalls,
               stallHold := true }) } : State).says
      [(0x0702, p1 step ++ p4 (s.moves.nth (16 + step)).pos ++ p4 ((s.steps.nth step).load : Nat) ++
        p2 ((s.steps.nth step).iRun : Nat) ++ p1 (b2n slip))]).flush) ∧
  (∀ slip : Bool, (s.moves.nth (16 + step)).kind = .home → (s.steps.nth step).homing = .approach → 64 ≤ s.regs.STP_S_CFG_HOME_IN step →
    ∃ u t : State, exec (.stpStall step slip) s = .next t ∧ u.Posted t ∧ u = { s with steps := u.steps, moves := u.moves } ∧
      (u.steps.nth step).stall = true ∧ (u.steps.nth step).homing = .final ∧
      (u.steps.nth step).tripPos = (s.moves.nth (16 + step)).pos ∧ (u.steps.nth step).stalls = satInc 16 (s.steps.nth step).stalls ∧
      (u.moves.nth (16 + step)).pSet = -(s.regs.STP_S_HOME_HOME_POS step : Int) * q16 ∧ (u.moves.nth (16 + step)).target = 0 ∧
      (u.moves.nth (16 + step)).vSet = 0 ∧
      (∀ p, p ≠ step → u.steps.nth p = s.steps.nth p) ∧ ∀ a, a ≠ 16 + step → u.moves.nth a = s.moves.nth a) ∧
  ((s.moves.nth (16 + step)).phase.moving = false →
    exec (.standstillReduction step) s = .next ({ s with steps := s.steps.upd step (fun d => { d with reduced := true }) } : State).flush) ∧
  ((s.steps.nth step).homing = .approach → ∃ u : State, exec (.homingTrip step) s = .next u.flush ∧
    u = { s with steps := u.steps, moves := u.moves } ∧
    (u.steps.nth step).tripPos = (s.moves.nth (16 + step)).pos ∧ (u.steps.nth step).homing = .final ∧ (u.steps.nth step).ignored = 0 ∧
    (u.moves.nth (16 + step)).pSet = (s.regs.STP_S_HOME_HOME_POS step : Int) * q16 ∧ (u.moves.nth (16 + step)).target = 0 ∧
    (u.moves.nth (16 + step)).vSet = (s.moves.nth (16 + step)).vSet ∧
    (∀ p, p ≠ step → u.steps.nth p = s.steps.nth p) ∧ ∀ a, a ≠ 16 + step → u.moves.nth a = s.moves.nth a)

/-- FBK_HALL_FAULT, FBK_ENCODER_FAULT, ERROR_WINDOW_CLOSE and FBK_ZERO_SPEED: the whole next state. -/
def Obligations.FeedbackEvents : Prop :=
  (∀ (s : State) (leaf cause : Nat), leaf < 16 → 1 ≤ cause → cause ≤ 3 → s.started = true → (s.leaves.nth leaf).fbk.cause = 0 →
    exec (.fbkHallFault leaf cause) s = .next (({ s with leaves := s.leaves.upd leaf (fun x =>
      { x with fbk := { (s.leaves.nth leaf).fbk with cause := cause, causeAt := s.time.tick + 1 } }) } : State).says
        [(0x0806, p1 leaf ++ p1 cause)]).flush) ∧
  (∀ (s : State) (leaf cause : Nat), leaf < 16 → 1 ≤ cause → cause ≤ 3 → s.started = true → (s.leaves.nth leaf).fbk.cause ≠ 0 →
    exec (.fbkHallFault leaf cause) s = .next ({ s with leaves := s.leaves.upd leaf (fun x =>
      { x with fbk := { (s.leaves.nth leaf).fbk with causeAt := s.time.tick + 1 } }) } : State).flush) ∧
  (∀ (s : State) (port cause : Nat), port < 8 → 4 ≤ cause → cause ≤ 5 → s.started = true → (s.encs.nth port).cause = 0 →
    exec (.fbkEncoderFault port cause) s = .next (({ s with encs := s.encs.upd port (fun _ =>
      { s.encs.nth port with cause := cause, causeAt := s.time.tick + 1 }) } : State).says [(0x0806, p1 port ++ p1 cause)]).flush) ∧
  (∀ (s : State) (port cause : Nat), port < 8 → 4 ≤ cause → cause ≤ 5 → s.started = true → (s.encs.nth port).cause ≠ 0 →
    exec (.fbkEncoderFault port cause) s = .next ({ s with encs := s.encs.upd port (fun _ =>
      { s.encs.nth port with causeAt := s.time.tick + 1 }) } : State).flush) ∧
  (∀ (s : State) (i cause : Nat), (cause < 1 ∨ 3 < cause → exec (.fbkHallFault i cause) s = .fault .noSuchObject) ∧
    (cause < 4 ∨ 5 < cause → exec (.fbkEncoderFault i cause) s = .fault .noSuchObject)) ∧
  (∀ (s : State) (leaf : Nat), leaf < 16 → s.started = true →
    exec (.errorWindowClose false leaf) s = .next ({ s with leaves := s.leaves.upd leaf (fun x =>
      { x with fbk := { x.fbk with win := ⟨0, 0⟩ } }) } : State).flush) ∧
  (∀ (s : State) (port : Nat), port < 8 → s.started = true →
    exec (.errorWindowClose true port) s = .next ({ s with encs := s.encs.upd port (fun e => { e with win := ⟨0, 0⟩ }) } : State).flush) ∧
  ∀ (s : State) (leaf : Nat), leaf < 16 → s.started = true →
    exec (.fbkZeroSpeed leaf) s = .next ({ s with leaves := s.leaves.upd leaf (fun x =>
      { x with fbk := { x.fbk with speed := 0, zero := true } }) } : State).flush

/-- SWITCH_LINK4_FRAME without a valid frame, SWITCH_AUTONOMOUS, LINK6_FRAME_MISSED and SWITCH_SUPERVISOR_RESET. -/
def Obligations.SwitchDieLinkLoss : Prop :=
  ∀ s : State, s.boot.phase ≠ .deviceReset →
  (∃ t, exec (.switchLink4Frame false) s = .next t ∧ t = { s with sw := t.sw } ∧
    t.sw.bad = min (s.sw.bad + 1) 2 ∧ t.sw.good = 0 ∧ t.sw.settings = s.sw.settings ∧ t.sw.chans = s.sw.chans ∧
    t.sw.decA = s.sw.decA ∧ t.sw.tickNo = s.sw.tickNo ∧ t.sw.discards4 = s.sw.discards4 + 1 ∧
    (1 ≤ s.sw.bad → t.sw.auto = true ∧ t.sw.chB.cond = false) ∧ (s.sw.bad = 0 → t.sw.auto = s.sw.auto)) ∧
  (2 ≤ s.sw.bad → ∃ t, exec .switchAutonomous s = .next t ∧ t = { s with sw := t.sw } ∧
    t.sw = { s.sw with auto := true, chB := { s.sw.chB with cond := false } }) ∧
  (∃ t, exec .link6FrameMissed s = .next t ∧ t = { s with sw := t.sw } ∧ t.sw.in6 = s.sw.in6 ∧ t.sw.unk6 = s.sw.unk6 ∧
    t.sw.discards6 = s.sw.discards6 + 1 ∧ t.sw.chans = s.sw.chans ∧
    (t.sw.fault6 = true ↔ s.sw.fault6 = true ∨ 1 ≤ s.sw.bad6)) ∧
  exec .switchSupervisorReset s = .next { s with sw := { SwitchDie.reset with wasReset := true, dim := s.sw.dim } }

/-- SWITCH_LINK4_FRAME with a valid frame that the core die has sent. -/
def Obligations.SwitchDieTakesFrame : Prop :=
  ∀ s : State, s.coreRuns = true → s.links.now4.sent = true →
  ∃ t, exec (.switchLink4Frame true) s = .next t ∧ t = { s with sw := t.sw } ∧ t.sw.seen = true ∧ t.sw.bad = 0 ∧
    t.sw.good = min (s.sw.good + 1) 8 ∧ t.sw.decA = s.links.now4.decA ∧ t.sw.tickNo = s.links.now4.tick ∧
    t.sw.closed = s.links.now4.closed ∧ t.sw.groups = s.sw.groups ∧ t.sw.tl = s.sw.tl ∧ t.sw.in6 = s.sw.in6 ∧ t.sw.chB.pulse = false ∧ t.sw.discards4 = s.sw.discards4 ∧
    (s.sw.auto = true → s.links.now4.resync = false → t.sw.auto = true ∧ t.sw.chB.cond = false) ∧
    (s.sw.auto = false → s.sw.armed = true → ∀ k, k < 48 → (t.sw.chans.nth k).cmd = s.links.now4.cmd.testBit k ∧
      (t.sw.chans.nth k).st = (s.sw.chans.nth k).st)

/-- LINK6_FRAME (R106, R109): the decision of channel B, and its switch. -/
def Obligations.ChannelBFollowsLink6 : Prop :=
  ∀ s : State, s.boot.phase ≠ .deviceReset → s.field.up = true →
  ∃ t, exec (.link6Frame true) s = .next t ∧ t = { s with sw := t.sw } ∧
    t.sw.in6 = s.field.active ∧ t.sw.unk6 = s.field.unknown ∧ t.sw.bad6 = 0 ∧
    (t.sw.chB.decB = true ↔ ∀ p, p < 8 → s.sw.settings.ILK_CFG_SCOPE.testBit p = true →
      t.sw.locked6 (bMap s.sw.settings p).1 = true ∧ t.sw.locked6 (bMap s.sw.settings p).2 = true) ∧
    (t.sw.chB.cond = true ↔ t.sw.chB.decB = true ∧ s.sw.chB.latch = false ∧ s.sw.chB.pulse = false ∧ s.sw.auto = false ∧
      s.sw.seen = true ∧ s.sw.passA = true)

/-- LSW_COMPARATOR_TRIP and LSW_EVALUATION (R276, R277, R279). -/
def Obligations.ChannelTrips : Prop :=
  (∀ (s : State) (ch : Nat) (ma : Int), ch < 48 → s.boot.phase ≠ .deviceReset → (s.sw.chans.nth ch).cond = true →
    ((s.sw.chans.nth ch).level (chSet s.sw.settings ch) : Int) ≤ ma →
    ∃ t, exec (.lswComparatorTrip ch ma) s = .next t ∧ t = { s with sw := { s.sw with chans := t.sw.chans } } ∧
      (t.sw.chans.nth ch).cond = false ∧ (t.sw.chans.nth ch).trip = true ∧ (t.sw.chans.nth ch).st = (s.sw.chans.nth ch).st ∧
      ∀ k, k ≠ ch → t.sw.chans.nth k = s.sw.chans.nth k) ∧
  ∀ (s : State) (amps temps : List Int) (rails : List Nat) (k : Nat), k < 48 → s.boot.phase ≠ .deviceReset →
    (s.sw.chans.nth k).st.isOn = true → ((s.sw.chans.nth k).trip = true ∨ 1750 ≤ temps.nth k) →
    ∃ t, exec (.lswEvaluation amps temps rails) s = .next t ∧ t = { s with sw := t.sw } ∧
      (t.sw.chans.nth k).tries = (s.sw.chans.nth k).tries + 1 ∧ (t.sw.chans.nth k).cond = false ∧
      (t.sw.chans.nth k).trip = false ∧
      ((t.sw.chans.nth k).st = .pause ∨ (t.sw.chans.nth k).st = .cool ∨ (t.sw.chans.nth k).st = .latched)

/-- INRUSH_WINDOW_END, PAUSE_END, SETTLE_EXPIRED, UV_STAGGERED_RESTART and OPEN_LOAD_QUALIFIED. -/
def Obligations.ChannelTimers : Prop :=
  ∀ (s : State) (ch : Nat), ch < 48 → s.boot.phase ≠ .deviceReset →
  ((s.sw.chans.nth ch).st = .inrush → ∃ t, exec (.inrushWindowEnd ch) s = .next t ∧ t = { s with sw := { s.sw with chans := t.sw.chans } } ∧
    (t.sw.chans.nth ch).st = .on ∧ (t.sw.chans.nth ch).settle = 1000 * (chSet s.sw.settings ch).settle ∧
    ∀ k, k ≠ ch → t.sw.chans.nth k = s.sw.chans.nth k) ∧
  ((s.sw.chans.nth ch).st = .pause → (s.sw.chans.nth ch).cmd = true → (s.sw.chans.nth ch).temp < 1550 →
      (s.sw.groups.nth (ch / 8)).uv = false →
    ∃ t, exec (.pauseEnd ch) s = .next t ∧
      t = { s with sw := { s.sw with chans := t.sw.chans,
                                     reports := s.sw.reports ++ [(0x0A02, p1 ch ++ p4 ((s.sw.chans.nth ch).tries : Nat))] } } ∧
      (t.sw.chans.nth ch).st = .inrush ∧ (t.sw.chans.nth ch).window = 1000 * (chSet s.sw.settings ch).inrMs ∧
      (t.sw.chans.nth ch).turnOns = satInc 32 (s.sw.chans.nth ch).turnOns ∧
      ∀ k, k ≠ ch → t.sw.chans.nth k = s.sw.chans.nth k) ∧
  ((s.sw.chans.nth ch).st = .on → ∃ t, exec (.settleExpired ch) s = .next t ∧ t = { s with sw := { s.sw with chans := t.sw.chans } } ∧
    (t.sw.chans.nth ch).tries = 0 ∧ (t.sw.chans.nth ch).st = .on ∧ ∀ k, k ≠ ch → t.sw.chans.nth k = s.sw.chans.nth k) ∧
  ((s.sw.chans.nth ch).st = .uvOff → (s.sw.groups.nth (ch / 8)).uv = false → (s.sw.chans.nth ch).pause = 0 →
      (s.sw.chans.nth ch).temp < 1550 →
    ∃ t, exec (.uvStaggeredRestart ch) s = .next t ∧ t = { s with sw := { s.sw with chans := t.sw.chans } } ∧
      (t.sw.chans.nth ch).st = .inrush ∧ (t.sw.chans.nth ch).window = 1000 * (chSet s.sw.settings ch).inrMs ∧
      ∀ k, k ≠ ch → t.sw.chans.nth k = s.sw.chans.nth k) ∧
  (∀ isOpen : Bool, (s.sw.chans.nth ch).st = .on → (chSet s.sw.settings ch).olEn = true → (s.sw.chans.nth ch).openLoad ≠ isOpen →
    ∃ t, exec (.openLoadQualified ch isOpen) s = .next t ∧
      t = { s with sw := { s.sw with chans := t.sw.chans,
                                     reports := s.sw.reports ++ [(0x0A05, p1 ch ++ p1 (b2n isOpen) ++ p2 (s.sw.chans.nth ch).mean)] } } ∧
      (t.sw.chans.nth ch).openLoad = isOpen ∧ (t.sw.chans.nth ch).st = .on ∧ ∀ k, k ≠ ch → t.sw.chans.nth k = s.sw.chans.nth k)

/-- GROUP_UNDER_VOLTAGE, GROUP_UV_RECOVERED and RAIL_DIP. -/
def Obligations.GroupUnderVoltage : Prop :=
  ∀ (s : State) (g : Nat), g < 6 → s.boot.phase ≠ .deviceReset →
  (∀ v, (s.sw.groups.nth g).uv = false → ∃ t, exec (.groupUnderVoltage g v) s = .next t ∧
    t = { s with sw := { s.sw with chans := t.sw.chans, groups := t.sw.groups, reports := t.sw.reports } } ∧
    (t.sw.groups.nth g).uv = true ∧ (∀ h, h ≠ g → t.sw.groups.nth h = s.sw.groups.nth h) ∧
    (0x0A06, p1 g ++ p1 1 ++ p2 (v : Nat)) ∈ t.sw.reports ∧
    (∀ i, i < 8 → (s.sw.chans.nth (8 * g + i)).st.isOn = true →
        ((s.sw.chans.nth (8 * g + i)).trip = true ∨ 1750 ≤ (s.sw.chans.nth (8 * g + i)).temp) →
      (t.sw.chans.nth (8 * g + i)).tries = (s.sw.chans.nth (8 * g + i)).tries + 1 ∧ (t.sw.chans.nth (8 * g + i)).cond = false) ∧
    (∀ i, i < 8 → (s.sw.chans.nth (8 * g + i)).st.isOn = true →
        (s.sw.chans.nth (8 * g + i)).trip = false → (s.sw.chans.nth (8 * g + i)).temp < 1750 →
      (t.sw.chans.nth (8 * g + i)).st = .uvOff ∧ (t.sw.chans.nth (8 * g + i)).cond = false ∧
      (t.sw.chans.nth (8 * g + i)).tries = (s.sw.chans.nth (8 * g + i)).tries) ∧
    ∀ k, k / 8 ≠ g → t.sw.chans.nth k = s.sw.chans.nth k) ∧
  (∀ v, (s.sw.groups.nth g).uv = true → ∃ t, exec (.groupUvRecovered g v) s = .next t ∧
    t = { s with sw := { s.sw with chans := t.sw.chans, groups := t.sw.groups, reports := t.sw.reports } } ∧
    (t.sw.groups.nth g).uv = false ∧ (∀ h, h ≠ g → t.sw.groups.nth h = s.sw.groups.nth h) ∧
    (0x0A06, p1 g ++ p1 0 ++ p2 (v : Nat)) ∈ t.sw.reports ∧
    (∀ i, i < 8 → (s.sw.chans.nth (8 * g + i)).st = .uvOff →
      (t.sw.chans.nth (8 * g + i)).uvWait = 100 * i ∧ (t.sw.chans.nth (8 * g + i)).st = .uvOff) ∧
    ∀ k, k / 8 ≠ g → t.sw.chans.nth k = s.sw.chans.nth k) ∧
  ∀ v us, (s.sw.groups.nth g).bestUs < us →
    exec (.railDip g v us) s = .next { s with sw := { s.sw with
      groups := s.sw.groups.upd g (fun x => { x with bestUs := us, bestLow := v }) } }

/-- DIM_EDGE and SENSE_UPDATE. -/
def Obligations.DimAndSense : Prop :=
  ∀ s : State, s.boot.phase ≠ .deviceReset →
  (∀ (pin : Nat) (high : Bool), pin < 8 → ∃ t, exec (.dimEdge pin high) s = .next t ∧
    t = { s with sw := { s.sw with chans := t.sw.chans, dim := t.sw.dim, dimUs := t.sw.dimUs, reports := t.sw.reports } } ∧
    t.sw.dim = setBit s.sw.dim pin high ∧
    (∀ k, (chSet s.sw.settings k).dimSel ≠ pin → t.sw.chans.nth k = s.sw.chans.nth k) ∧
    (s.sw.settings.LSW_DIM_CFG_DIM_REARM = 0 → ∀ k, (t.sw.chans.nth k).st = (s.sw.chans.nth k).st)) ∧
  ∀ g, g < 6 → ∃ t, exec (.senseUpdate g) s = .next t ∧ t = { s with sw := { s.sw with groups := t.sw.groups } } ∧
    (∀ h, h ≠ g → t.sw.groups.nth h = s.sw.groups.nth h) ∧
    (s.sw.settings.LSW_G_SENSE_MODE g = 0 → (t.sw.groups.nth g).snsOut = 0 ∧ (t.sw.groups.nth g).snsFault = false) ∧
    (s.sw.settings.LSW_G_SENSE_MODE g = 1 → (s.sw.chans.nth (8 * g + s.sw.settings.LSW_G_SENSE_SEL g)).snsFault = true →
      (t.sw.groups.nth g).snsOut = 4500 ∧ (t.sw.groups.nth g).snsFault = true)

/-- TRAINLINE_SAMPLE, TL_INDETERMINATE, CHANNEL_B_TEST_PULSE and SWITCH_DIE_LATCH. -/
def Obligations.TrainlinesAndChannelB : Prop :=
  ∀ s : State, s.boot.phase ≠ .deviceReset →
  (∀ volts : List Nat, exec (.trainlineSample volts) s = .next { s with sw := { s.sw with
    tl := s.sw.tl.mapIdx (fun i (t : TrainLine) => t.sample s.sw.settings i (volts.nth i))
    reports := s.sw.reports ++ ((List.range 6).filter (fun i =>
      ((s.sw.tl.mapIdx (fun i (t : TrainLine) => t.sample s.sw.settings i (volts.nth i))).nth i).filt != (s.sw.tl.nth i).filt)).map (fun i =>
        (0x0B06, p1 i ++ p1 (b2n ((s.sw.tl.mapIdx (fun i (t : TrainLine) => t.sample s.sw.settings i (volts.nth i))).nth i).filt))) } }) ∧
  (∀ tl, tl < 6 → (s.sw.tl.nth tl).band ≠ 0 → exec (.tlIndeterminate tl) s = .next { s with sw := { s.sw with
    tl := s.sw.tl.upd tl (fun x => { x with indet := true }) } }) ∧
  (∀ above : Bool, s.sw.tickNo % 400 = 300 → s.sw.closed = true → s.sw.chB.cond = true →
    exec (.channelBTestPulse above) s = .next { s with sw := { s.sw with chB := { s.sw.chB with
      pulse := true, cond := false, report := if above then s.sw.chB.report else s.sw.chB.report ||| 1 } } }) ∧
  (s.sw.passA = true → s.sw.decA = true → s.sw.chB.decB = false → s.sw.fault6 = false → s.sw.chB.latch = false →
    exec .switchDieLatch s = .next { s with sw := { s.sw with chB := { s.sw.chB with
      latch := true, cond := false, report := s.sw.chB.report ||| 4 } } })

/-- FIELD_LINK5_FRAME, FIELD_OUTPUTS_OFF and FIELD_DIE_SUPERVISOR_RESET. -/
def Obligations.FieldDieFrames : Prop :=
  ∀ s : State, s.boot.phase ≠ .deviceReset →
  (s.field.up = true → s.coreRuns = true → s.links.now5.sent = true →
    ∃ t, exec (.fieldLink5Frame true) s = .next t ∧ t = { s with field := t.field } ∧ t.field.seen = true ∧ t.field.bad = 0 ∧
      t.field.good = min (s.field.good + 1) 8 ∧ t.field.ins = s.field.ins ∧ t.field.supply = s.field.supply ∧
      (∀ j, j < 16 → (t.field.outs.nth j).cmd = s.links.now5.cmd.testBit j) ∧
      (s.field.outsOff = true → s.field.good < 7 → ∀ j, t.field.outOn j = false)) ∧
  (s.field.up = true → ∃ t, exec (.fieldLink5Frame false) s = .next t ∧ t = { s with field := t.field } ∧
      t.field.bad = min (s.field.bad + 1) 4 ∧ t.field.good = 0 ∧ t.field.discards5 = s.field.discards5 + 1 ∧ t.field.outs = s.field.outs ∧ t.field.ins = s.field.ins ∧
      (3 ≤ s.field.bad → t.field.outsOff = true ∧ ∀ j, t.field.outOn j = false)) ∧
  (4 ≤ s.field.bad → exec .fieldOutputsOff s = .next { s with field := { s.field with outsOff := true } }) ∧
  exec (.fieldDieSupervisorReset false) s = .next { s with field := { FieldDie.reset with up := false } } ∧
  (s.field.up = true → exec (.fieldDieSupervisorReset true) s = .next s) ∧
  (s.field.up = false → exec (.fieldDieSupervisorReset true) s = .next { s with field := FieldDie.reset })

/-- FIELD_SUPPLY_STATE, FS_REC_EXPIRED, WIRE_BREAK and FIELD_OUTPUT_THERMAL. -/
def Obligations.FieldSupply : Prop :=
  ∀ s : State, s.boot.phase ≠ .deviceReset → s.field.up = true →
  (∀ (low : Bool) (v : Nat), s.field.supply ≠ 2 → ∃ t, exec (.fieldSupplyState true low v) s = .next t ∧ t = { s with field := t.field } ∧
    t.field.supply = 2 ∧ t.field.unknown = 0xFFFFFFFFFFFFFFFF ∧ (∀ j, t.field.outOn j = false) ∧
    t.field.reports = s.field.reports ++ [(0x0B01, p1 2 ++ p2 (v : Nat))]) ∧
  (∀ v : Nat, s.field.supply ≠ 1 → ∃ t, exec (.fieldSupplyState false true v) s = .next t ∧ t = { s with field := t.field } ∧
    t.field.supply = 1 ∧ t.field.unknown = 0xFFFFFFFFFFFFFFFF ∧ t.field.reports = s.field.reports ++ [(0x0B01, p1 1 ++ p2 (v : Nat))]) ∧
  (∀ v : Nat, s.field.supply = 1 → ∃ t, exec (.fsRecExpired v) s = .next t ∧ t = { s with field := t.field } ∧
    t.field.supply = 0 ∧ t.field.outs = s.field.outs ∧ t.field.reports = s.field.reports ++ [(0x0B01, p1 0 ++ p2 (v : Nat))]) ∧
  (∀ (i : Nat) (broken : Bool) (ua : Nat), i < 64 → s.field.supply = 0 → s.field.settings.FIO_F_CFG_WB_EN i ≠ 0 →
      (s.field.ins.nth i).wb ≠ broken →
    ∃ t, exec (.wireBreak i broken ua) s = .next t ∧ t = { s with field := { s.field with ins := t.field.ins, reports := t.field.reports } } ∧
      (t.field.ins.nth i).wb = broken ∧ (t.field.ins.nth i).filt = (s.field.ins.nth i).filt ∧
      (∀ k, k ≠ i → t.field.ins.nth k = s.field.ins.nth k) ∧
      t.field.reports = s.field.reports ++ [(0x0B02, p1 i ++ p1 (b2n broken) ++ p2 (ua : Nat))] ∧
      (broken = true → t.field.unknown.testBit i = true)) ∧
  ∀ (j : Nat) (hot : Bool), j < 16 → ∃ t, exec (.fieldOutputThermal j hot) s = .next t ∧
    t = { s with field := { s.field with outs := t.field.outs } } ∧ (t.field.outs.nth j).hot = hot ∧
    (∀ k, k ≠ j → t.field.outs.nth k = s.field.outs.nth k) ∧ (hot = true → t.field.outOn j = false)

/-- FIELD_SAMPLE (R294, R296) on any input, at any counter value. -/
def Obligations.FieldSampleFilters : Prop :=
  ∀ (s : State) (volts microamps outVolts : List Nat) (fsup i : Nat), s.boot.phase ≠ .deviceReset → s.field.up = true → i < 64 →
  ∃ t, exec (.fieldSample volts microamps fsup outVolts) s = .next t ∧ t = { s with field := t.field } ∧
    ((if s.field.settings.FIO_F_CFG_TYPE i = 0 then 1500 else 1100) ≤ volts.nth i → (t.field.ins.nth i).raw = true) ∧
    (volts.nth i ≤ 500 → (t.field.ins.nth i).raw = false) ∧
    (500 < volts.nth i → volts.nth i < (if s.field.settings.FIO_F_CFG_TYPE i = 0 then 1500 else 1100) →
      (t.field.ins.nth i).raw = (s.field.ins.nth i).raw) ∧
    (s.field.settings.FIO_F_CFG_FILT i = 0 → (t.field.ins.nth i).filt = (t.field.ins.nth i).raw) ∧
    (s.field.settings.FIO_F_CFG_FILT i ≠ 0 →
      (t.field.ins.nth i).c = (if (t.field.ins.nth i).raw = true then min ((s.field.ins.nth i).c + 1) (s.field.settings.FIO_F_CFG_FILT i)
        else (s.field.ins.nth i).c - 1) ∧
      ((t.field.ins.nth i).filt = true ↔ (t.field.ins.nth i).c = s.field.settings.FIO_F_CFG_FILT i ∨
        (s.field.ins.nth i).filt = true ∧ (t.field.ins.nth i).c ≠ 0)) ∧
    ((t.field.ins.nth i).filt ≠ (s.field.ins.nth i).filt →
      (t.field.ins.nth i).changes = satInc 16 (s.field.ins.nth i).changes) ∧
    ∀ j, (t.field.outs.nth j).cmd = (s.field.outs.nth j).cmd

/-- ILK_TEST_PULSE, ILK_DISCREPANCY, ILK_DISC_SAFE, ILK_FEEDBACK_TIMEOUT and CHARGE_PUMP_RUN_DOWN: state, cause and events. -/
def Obligations.InterlockRows : Prop :=
  (∀ s : State, s.started = true → s.ilk.pulseA = true →
    exec (.ilkTestPulse true) s = .next ({ s with ilk := { s.ilk with pulseA := false } } : State).flush ∧
    ((s.ilk.st = .opened ∨ s.ilk.st = .closed) → ∃ u : State, exec (.ilkTestPulse false) s = .next (u.says
        ([(0x0305, p1 2)] ++ (if s.ilk.st = .closed then [(0x0302, p1 5)] else []))).flush ∧
      u = { s with ilk := u.ilk } ∧ u.ilk.st = .latched ∧ u.ilk.cause = 2 ∧ u.ilk.offGate = true ∧ u.ilk.outA = false ∧ u.ilk.drive = false)) ∧
  (∀ s : State, s.started = true → s.ilk.decA = true → s.ilk.decB = false → (s.links.l.nth 4).fault = false →
      (s.links.l.nth 6).fault = false → (s.ilk.st = .opened ∨ s.ilk.st = .closed) →
    ∃ (u : State) (portals : Nat), exec .ilkDiscrepancy s = .next (u.says ((0x0303, p1 0 ++ p1 portals) :: (0x0305, p1 1) ::
        (if s.ilk.st = .closed then [(0x0302, p1 5)] else []))).flush ∧
      portals = (s.ilkIn default).locks ^^^ s.ilk.bOk ∧
      u = { s with ilk := u.ilk } ∧ u.ilk.st = .latched ∧ u.ilk.cause = 1 ∧ u.ilk.offGate = true) ∧
  (∀ s : State, s.started = true → s.ilk.decA = false → s.ilk.decB = true → (s.links.l.nth 4).fault = false →
      (s.links.l.nth 6).fault = false → s.ilk.safeSent = false →
    exec .ilkDiscSafe s = .next (({ s with ilk := { s.ilk with safeSent := true, discSafe := satInc 16 s.ilk.discSafe } } : State).says
      [(0x0304, p1 (andNot s.ilk.bOk s.ilk.aOk))]).flush) ∧
  (∀ s : State, s.started = true → s.ilk.fbTicks ≠ 0 → (s.ilkIn default).feedback.isSome = true → (s.ilk.st = .opened ∨ s.ilk.st = .closed) →
    ∃ u : State, exec .ilkFeedbackTimeout s = .next (u.says
        ([(0x0305, p1 6)] ++ (if s.ilk.st = .closed then [(0x0302, p1 5)] else []))).flush ∧
      u = { s with ilk := u.ilk } ∧ u.ilk.st = .latched ∧ u.ilk.cause = 6 ∧ u.ilk.offGate = true) ∧
  (∀ s : State, exec (.chargePumpRunDown false) s = .next { s with ilk := { s.ilk with outA := false, drive := false, edges := 0 } }) ∧
  ∀ s : State, s.boot.phase ≠ .deviceReset →
    exec (.chargePumpRunDown true) s = .next { s with sw := { s.sw with chB := { s.sw.chB with cond := false } } }

/-- TICK in link-up, in the control ticks and where the core die is held (log 1 says what the model's tick is there): the tick number, the phase of start-up, ARMED. -/
def Obligations.TickRuns : Prop :=
  ∀ (a : TickIn) (s : State),
  (s.boot.resetAsked = true → exec (.tick a) s = exec .coreReset s) ∧
  (s.boot.resetAsked = false →
    (∀ n, s.boot.phase = .linkUp n → ∃ t, exec (.tick a) s = .next t ∧ t.time.tick = s.time.tick + 1 ∧
      t.boot.phase = (if n < 15 then .linkUp (n + 1) else .first) ∧ t.time.armed = s.time.armed ∧ t.pending = s.pending) ∧
    (s.boot.phase = .first → ∃ t, exec (.tick a) s = .next t ∧ t.time.tick = s.time.tick + 1 ∧ t.boot.phase = .running ∧
      t.time.armed = s.time.armed ∧ t.pending = s.pending) ∧
    (s.boot.phase = .running → ∃ t, exec (.tick a) s = .next t ∧ t.time.tick = s.time.tick + 1 ∧ t.boot.phase = .running ∧
      t.time.armed = true ∧ t.pending = s.pending) ∧
    (s.boot.phase = .coreReset → exec (.tick a) s = .next { s with sw := s.sw.endTick, field := s.field.endTick, boot := s.boot.older }) ∧
    ((s.boot.phase = .deviceReset ∨ s.boot.phase = .testMode) → exec (.tick a) s = .next s))

/-- TICK_OVERRUN in a control tick. That an overrun before the boundary's release counts from its own tick is R49. -/
def Obligations.TickOverrunHolds : Prop :=
  (∀ (slot progress axis clk : Nat) (a : TickIn) (s : State), slot = 0 ∨ 11 < slot →
    exec (.tickOverrun slot progress axis clk a) s = .fault .noSuchObject) ∧
  ∀ (slot progress axis clk : Nat) (a : TickIn) (s : State), 1 ≤ slot → slot ≤ 11 → s.boot.resetAsked = false →
  (s.boot.phase = .first ∨ s.boot.phase = .running) →
  ∃ t, exec (.tickOverrun slot progress axis clk a) s = .next t ∧ t.time.tick = s.time.tick + 1 ∧ t.time.overrun = true ∧
    (a.more = [] → t.time.lastSlot = slot ∧ t.time.ovrCount = satInc 12 s.time.ovrCount) ∧ t.time.sinceOvr = 0 ∧
    t.boot.phase = s.boot.phase ∧
    (s.time.overrun = true → s.time.clrAsked = false → t.time.holdStart = s.time.holdStart) ∧
    (s.time.overrun = false → t.time.holdStart = s.time.tick + 1) ∧ t.pending = s.pending

/-- CLR_OVERRUN, what a boundary makes of it, and what a tick without an overrun leaves of the hold. The reading of "preceding 16 ticks" is the model's (log 1). -/
def Obligations.SafeHoldRelease : Prop :=
  (∀ s : State, s.up = true → exec .clrOverrun s = .next ({ s with time := { s.time with clrAsked := true } } : State).flush) ∧
  (∀ s : State, s.time.clrAsked = true → s.time.ovrCount ≠ 0 → s.time.sinceOvr ≤ 16 →
    s.takeClear = ({ s with time := { s.time with clrAsked := false } } : State).says [(0x0103, p4 (s.time.sinceOvr : Nat))]) ∧
  (∀ s : State, s.time.clrAsked = true → s.time.overrun = true → 16 < s.time.sinceOvr →
    s.takeClear = ({ s with time := { s.time with clrAsked := false, overrun := false } } : State).says
      [(0x0102, p4 ((s.time.tick - s.time.holdStart : Nat) : Int))]) ∧
  ∀ (a : TickIn) (s : State), s.boot.resetAsked = false → s.boot.phase = .running →
    ∃ t, exec (.tick a) s = .next t ∧ t.time.clrAsked = false ∧
      (t.time.overrun = true ↔ s.time.overrun = true ∧ ¬(s.time.clrAsked = true ∧ (16 < s.time.sinceOvr ∨ s.time.ovrCount = 0)))

/-- POWER_ON, RST_N_LOW, VCORE_BROWN_OUT and VIO_BROWN_OUT: the whole next state. That supplies of the gate drivers, sensitive edges and DIM pins survive is the model's reading of them as inputs (log 3). -/
def Obligations.DeviceResets : Prop :=
  ∀ s : State,
  (∃ t, exec .powerOn s = .next t ∧ s.DeviceResetTo t 1 false) ∧
  (∃ t, exec .vcoreBrownOut s = .next t ∧ s.DeviceResetTo t 4 false) ∧
  (∃ t, exec .vioBrownOut s = .next t ∧ s.DeviceResetTo t 8 false) ∧
  (∀ ns, ns < 1000 → exec (.rstNLow ns) s = .next s) ∧
  ∀ ns, 1000 ≤ ns → ∃ t, exec (.rstNLow ns) s = .next t ∧ s.DeviceResetTo t 2 (decide (ns < 10000))

/-- CLOCK_LOSS, CORE_WATCHDOG and CORE_RESET. That one comes to nothing where the core die is held is the model's choice (log 17). -/
def Obligations.CoreResets : Prop :=
  ∀ s : State,
  (s.coreRuns = false → exec .coreWatchdog s = .next s ∧ exec .clockLoss s = .next s ∧ exec .coreReset s = .next s) ∧
  (s.coreRuns = true →
    (∃ t, exec .coreWatchdog s = .next t ∧ s.CoreResetTo t 16 ∧ t.boot.stormTimes = 0 :: s.boot.stormTimes ∧
      (t.boot.storm = true ↔ s.boot.storm = true ∨ 2 ≤ s.boot.stormTimes.length)) ∧
    (∃ t, exec .clockLoss s = .next t ∧ s.CoreResetTo t 32 ∧ t.boot.stormTimes = 0 :: s.boot.stormTimes ∧
      (t.boot.storm = true ↔ s.boot.storm = true ∨ 2 ≤ s.boot.stormTimes.length)) ∧
    ∃ t, exec .coreReset s = .next t ∧ s.CoreResetTo t 64 ∧ t.boot.stormTimes = s.boot.stormTimes ∧ t.boot.storm = s.boot.storm)

/-- RESET_RELEASE. The time to the commit is an operand (the model's, logs 14 and 17). -/
def Obligations.ResetReleased : Prop :=
  ∀ (straps fillClocks loadUs : Nat) (s : State),
  (s.boot.phase ≠ .deviceReset → s.boot.phase ≠ .coreReset → exec (.resetRelease straps fillClocks loadUs) s = .next s) ∧
  ((s.boot.phase = .deviceReset ∨ s.boot.phase = .coreReset) →
    (straps.testBit 8 = true → exec (.resetRelease straps fillClocks loadUs) s =
      .next { s with boot := { s.boot with phase := .testMode, straps := straps % 512 } }) ∧
    (straps.testBit 8 = false → ∃ t, exec (.resetRelease straps fillClocks loadUs) s = .next t ∧
      t.boot.phase = .linkUp 0 ∧ t.boot.straps = straps % 512 ∧ t.time.tick = loadUs / 50 ∧ t.time.overrun = false ∧ t.time.armed = false ∧
      t.cfg.committed = true ∧ t.cfg.loadUs = loadUs ∧ t.boot.cause = s.boot.cause ∧ t.pending = s.pending ∧
      (straps.testBit 7 = true → t.cfg.noImage = true ∧ t.cfg.relief = 0x1F ∧ t.regs.SEQ_BANK_MAP_PORTAL_EN = 0) ∧
      (s.boot.storm = true → t.regs.SEQ_BANK_MAP_PORTAL_EN = 0)))

/-- VDRV_LOW and VDRV_RECOVERED with their event (R447): the whole next state. -/
def Obligations.GateSupply : Prop :=
  ∀ (s : State) (die mv10 : Nat), die < 4 → s.coreRuns = true →
  exec (.vdrvLow die mv10) s = .next (({ s with
      dies := s.dies.upd die (fun d => { d with vdrvOk := false, armed := false })
      boot := { s.boot with vdrvLow := setBit s.boot.vdrvLow die true } } : State).says
    [(0x0005, p1 die ++ p1 1 ++ p2 (mv10 : Nat))]).flush ∧
  exec (.vdrvRecovered die mv10) s = .next (({ s with
      dies := s.dies.upd die (fun d => ({ d with vdrvOk := true } : BridgeDie).tryArm)
      boot := { s.boot with vdrvLow := setBit s.boot.vdrvLow die false } } : State).says
    [(0x0005, p1 die ++ p1 0 ++ p2 (mv10 : Nat))]).flush

/-- PORT_RESET and PORT_UP. -/
def Obligations.PortResetAndUp : Prop :=
  ∀ (s : State) (port : Nat), port < 2 → s.coreRuns = true → portEnabled s.boot.straps port = true →
  (∀ kind : PortResetKind, ∃ u : State, exec (.portReset port kind) s = .next u.flush ∧
    u = { s with hif := u.hif, regs := s.regs.resetPort port, seq := u.seq, cfg := u.cfg, recd := u.recd } ∧
    u.hif.ports.nth port = { Port.reset with
      linkUp := (s.hif.ports.nth port).linkUp && (decide (kind = .flr) || decide (kind = .d3hot))
      width := (if kind = .flr ∨ kind = .d3hot then (s.hif.ports.nth port).width else 0)
      speed := (if kind = .flr ∨ kind = .d3hot then (s.hif.ports.nth port).speed else 0)
      inReset := !(decide (kind = .flr) || decide (kind = .d3hot)), upOwed := true } ∧
    u.hif.tracker = s.hif.tracker.filter (fun t => decide (t.job.cmd.port ≠ port)) ∧
    (∀ c ∈ u.hif.compl, c.port ≠ port) ∧ (∀ r ∈ u.hif.pages, r.job.cmd.port ≠ port) ∧ u.recd.drains.nth port = none ∧
    (port = 0 → u.hif.ownA = 0 ∧ u.hif.ownB = s.hif.ownB) ∧ (port = 1 → u.hif.ownB = 0 ∧ u.hif.ownA = s.hif.ownA) ∧
    u.cfg = { s.cfg with groupOpen := s.cfg.groupOpen.put port false, groups := s.cfg.groups.put port [] } ∧
    u.seq = { s.seq with pends := s.seq.pends.filter (fun d => d.psd || decide (d.job.cmd.port ≠ port)) }) ∧
  ∀ width speed : Nat, ∃ u : State, exec (.portUp port width speed) s = .next u.flush ∧
    u = { s with hif := { s.hif with ports := u.hif.ports } } ∧
    (u.hif.ports.nth port).linkUp = true ∧ (u.hif.ports.nth port).width = width ∧ (u.hif.ports.nth port).speed = speed ∧
    (u.hif.ports.nth port).inReset = false ∧ (u.hif.ports.nth port).bme = (s.hif.ports.nth port).bme

/-- PCIE_CONFIG_REQUEST of a live port. -/
def Obligations.ConfigRequests : Prop :=
  ∀ (s : State) (port : Nat), port < 2 → s.portLive port = true →
  (s.coreRuns = false → ∀ req, exec (.pcieConfigRequest port req) s = .next ({ s with out := .config port 0 true :: s.out } : State).flush) ∧
  (s.coreRuns = true →
    exec (.pcieConfigRequest port .readId) s =
      .next ({ s with out := .config port ((if port = 0 then 0x2480 else 0x2481) * 65536 + 0x1C7E) false :: s.out } : State).flush ∧
    exec (.pcieConfigRequest port .readClass) s =
      .next ({ s with out := .config port (0x118000 * 256 + revisionId) false :: s.out } : State).flush ∧
    exec (.pcieConfigRequest port .readSubsys) s =
      .next ({ s with out := .config port (s.regs.HIF_SUBSYS_SSID * 65536 + s.regs.HIF_SUBSYS_SSVID) false :: s.out } : State).flush ∧
    (∀ on, (s.hif.ports.nth port).upOwed = false → exec (.pcieConfigRequest port (.setBme on)) s =
      .next (({ s with hif := s.hif.port port (fun p => { p with bme := on }) } : State).msixSend port).flush) ∧
    (∀ on, exec (.pcieConfigRequest port (.setExtTag on)) s =
      .next ({ s with hif := s.hif.port port (fun p => { p with extTag := on }) } : State).flush) ∧
    (∀ n, n = 128 ∨ n = 256 ∨ n = 512 →
      exec (.pcieConfigRequest port (.setMps n)) s = .next ({ s with hif := s.hif.port port (fun p => { p with mps := n }) } : State).flush ∧
      exec (.pcieConfigRequest port (.setMrrs n)) s = .next ({ s with hif := s.hif.port port (fun p => { p with mrrs := n }) } : State).flush) ∧
    exec (.pcieConfigRequest port .other) s = .next s.flush)

/-- DTC_LO_READ (R53): the whole next state. -/
def Obligations.DtcRead : Prop :=
  ∀ (s : State) (port clk : Nat), port < 2 → s.up = true → s.portLive port = true →
  exec (.dtcLoRead port clk) s = .next ({ s with
    time := { s.time with snapHi := s.time.snapHi.put port ((10000 * s.time.tick + clk) / 2 ^ 32 % 2 ^ 32) }
    out := .regData port (BitVec.ofNat 32 (10000 * s.time.tick + clk)) :: s.out } : State).flush

/-- REGISTER_WRITE, in its forms, on registers of the sequencer, the interlock and the leaf drive. -/
def Obligations.RegisterWrites : Prop :=
  ∀ (s : State) (port : Nat) (value : Word) (clk : Nat), port < 2 → s.up = true → s.portLive port = true → s.cfg.saved = [] →
  (∀ off be, be ≠ 15 ∨ off % 4 ≠ 0 ∨ 0x100000 ≤ off ∨ portReg (1 - port) off = true →
    exec (.registerWrite port off value be clk) s = .next s.flush) ∧
  (∀ p, p < 8 → s.cfg.groupOpen.nth port = false →
    exec (.registerWrite port (0x21020 + 0x100 * p) value 15 clk) s = .next ({ s with cfg := { s.cfg with
      shadows := s.cfg.shadows ++ [⟨port, 0x21020 + 0x100 * p, value, if clk < 9800 then s.time.tick + 1 else s.time.tick + 2⟩] } } :
        State).flush) ∧
  (∀ off cause, ∃ c : Cfg, s.rejectWrite port off cause =
      ({ s with cfg := c } : State).says [(0x1001, p1 port ++ p4 (off : Nat) ++ p1 cause)] ∧
    c = { s.cfg with reject := true, rejCause := c.rejCause, rejPort := c.rejPort, rejOff := c.rejOff, rejCount := satInc 16 s.cfg.rejCount } ∧
    (s.cfg.reject = false → c.rejCause = cause ∧ c.rejPort = port ∧ c.rejOff = off) ∧
    (s.cfg.reject = true → c.rejCause = s.cfg.rejCause ∧ c.rejPort = s.cfg.rejPort ∧ c.rejOff = s.cfg.rejOff)) ∧
  (∀ p, p < 8 → (s.seq.portals.nth p).st = .isolated →
    exec (.registerWrite port (0x21014 + 0x100 * p) value 15 clk) s =
      .next ({ s with regs := s.regs.setWord Reg.SEQ_P_TOL p value } : State).flush) ∧
  (∀ p, p < 8 → (s.seq.portals.nth p).st ≠ .isolated →
    exec (.registerWrite port (0x21014 + 0x100 * p) value 15 clk) s = .next (s.rejectWrite port (0x21014 + 0x100 * p) 1).flush) ∧
  exec (.registerWrite port 0x30008 value 15 clk) s = .next (s.rejectWrite port 0x30008 2).flush ∧
  ∀ l, l < 16 → (s.leaves.nth l).drive.mode ≠ 3 → (s.leaves.nth l).drive.mode ≠ 4 →
    exec (.registerWrite port (0x50004 + 0x400 * l) 0 15 clk) s = .next (s.rejectWrite port (0x50004 + 0x400 * l) 3).flush

/-- GEN_RESET, CMP_POS_WRITE, CAN_MODE_WRITE and CAN_OBJ_EN_WRITE. -/
def Obligations.RegisterRows : Prop :=
  ∀ (s : State) (port : Nat), port < 2 → s.up = true → s.portLive port = true → s.cfg.saved = [] →
  (∀ low : Word, s.regs.HIF_CFG_SAFETY_PORT = port →
    exec (.genReset port (0x48580001 ||| (low &&& 0xFFFF))) s = .next ({ s with boot := { s.boot with resetAsked := true } } : State).flush) ∧
  (∀ w : Word, w.getLsbD 0 = false → exec (.genReset port w) s = .next s.flush) ∧
  (∀ w : Word, s.regs.HIF_CFG_SAFETY_PORT ≠ port → exec (.genReset port w) s = .next s.flush) ∧
  (∀ (axis clk : Nat) (w : Word), axis < 24 → s.cfg.groupOpen.nth port = false →
    exec (.cmpPosWrite port axis w clk) s = .next ({ s with cfg := { s.cfg with
      shadows := s.cfg.shadows ++ [⟨port, 0x60180 + 0x400 * axis, w, if clk < 9800 then s.time.tick + 1 else s.time.tick + 2⟩] } } :
        State).flush) ∧
  (∀ (ctl : Nat) (w : Word), ctl < 4 → (s.cans.nth ctl).busOff = false → (s.cans.nth ctl).mode ≠ 0 →
    exec (.canModeWrite port ctl w) s = .next ({ s with
      regs := s.regs.setWord Reg.CAN_C_MODE ctl (mergeWord (s.regs.word Reg.CAN_C_MODE ctl) w 3)
      cans := s.cans.upd ctl (fun c => { c with asked := true }) } : State).flush) ∧
  ∀ (ctl m : Nat), ctl < 4 → m < 4 → ∃ u : State, exec (.canObjEnWrite port ctl m 0) s = .next u.flush ∧
    u = { s with regs := s.regs.setWord Reg.CAN_C_OBJ_EN (4 * ctl + m) 0, cans := u.cans } ∧
    (∀ k, k ≠ ctl → u.cans.nth k = s.cans.nth k) ∧
    (∀ o, o / 32 ≠ m → (u.cans.nth ctl).txreq.testBit o = (s.cans.nth ctl).txreq.testBit o) ∧
    ∀ o, o < 128 → o / 32 = m → objEnabled s.regs ctl o = true → objTx s.regs ctl o = true → (u.cans.nth ctl).txreq.testBit o = false

/-- CLR_LINK_CNT, TCK_CLR_HWM, CLR_CYCLES, CLR_TRIPS, STP_CLR_COUNT, FBK_CLR_CNT, LSW_CLR_COUNT, FIO_CLR_CNT, HIF_CLR_HWM, CLR_STAT, MEM_CLR_COUNT and REC_CLR_COUNT: the whole next state. -/
def Obligations.ControlClears : Prop :=
  ∀ s : State, s.up = true →
  exec .clrLinkCnt s = .next ({ s with links := { s.links with l := s.links.l.map (fun x => { x with errors := 0 }) } } : State).flush ∧
  exec .tckClrHwm s = .next ({ s with time := { s.time with hwm := Vector.replicate 11 0 } } : State).flush ∧
  exec .clrCycles s = .next ({ s with seq := { s.seq with portals := s.seq.portals.map (fun x => { x with cycles := 0 }) } } : State).flush ∧
  exec .clrTrips s = .next ({ s with leaves := s.leaves.map (fun x => { x with obs := { x.obs with tripsC := 0, tripsO := 0 } }) } : State).flush ∧
  exec .stpClrCount s = .next ({ s with steps := s.steps.map (fun d => { d with stalls := 0, ocCount := 0 }) } : State).flush ∧
  exec .fbkClrCnt s = .next ({ s with
    leaves := s.leaves.map (fun x => { x with fbk := { x.fbk with seqErrors := 0, dirChanges := 0 } })
    encs := s.encs.map (fun e => { e with phaseErrors := 0, mismatches := 0 }) } : State).flush ∧
  exec .lswClrCount s = .next ({ s with
    sw := { s.sw with chans := s.sw.chans.map (fun c => { c with ocTrips := 0, thTrips := 0, turnOns := 0 }) }
    lsw := { s.lsw with view := s.lsw.view.map (fun c => { c with ocTrips := 0, thTrips := 0, turnOns := 0 }) } } : State).flush ∧
  exec .fioClrCnt s = .next ({ s with
    field := { s.field with ins := s.field.ins.map (fun x => { x with changes := 0, wbEvents := 0 }) }
    fio := { s.fio with ins := s.fio.ins.map (fun x => { x with changes := 0, wbEvents := 0 })
                        outs := s.fio.outs.map (fun o => { o with forcedEvents := 0, lowEvents := 0 }) } } : State).flush ∧
  exec .hifClrHwm s = .next ({ s with hif := { s.hif with hwm := 0 } } : State).flush ∧
  (∀ port, port < 2 → exec (.clrStat port) s = .next ({ s with hif := s.hif.port port (fun p =>
    { p with jetsIgnored := 0, pageViol := 0, lost := 0, unrouted := 0, lateFetch := 0, deferred := 0 }) } : State).flush) ∧
  exec .memClrCount s = .next ({ s with mem0 := { s.mem0 with ceCount := 0, ueCount := 0, consumed := 0 }
                                        mem1 := { s.mem1 with ceCount := 0, ueCount := 0, consumed := 0 } } : State).flush ∧
  exec .recClrCount s = .next ({ s with recd := { s.recd with damaged := 0, cuts := 0 } } : State).flush

/-- RESYNC_SWITCH, CLR_OVERRUN, CLR_LATCH, SAVE, CLR_ALARM, DISARM, CFG_GROUP_OPEN and CFG_GROUP_COMMIT: the whole next state. -/
def Obligations.ControlRequests : Prop :=
  ∀ s : State, s.up = true →
  exec .resyncSwitch s = .next ({ s with links := { s.links with resyncAsked := true } } : State).flush ∧
  exec .clrOverrun s = .next ({ s with time := { s.time with clrAsked := true } } : State).flush ∧
  exec .clrLatch s = .next ({ s with ilk := { s.ilk with clrAsked := true } } : State).flush ∧
  exec .save s = .next ({ s with pat := { s.pat with saveAsked := true } } : State).flush ∧
  exec .clrAlarm s = .next ({ s with pat := { s.pat with st := { s.pat.st with
    leaves := s.pat.st.leaves.map (fun x => { x with alarm := 0 }), portals := s.pat.st.portals.map (fun x => { x with alarm := 0 }) } } } :
      State).flush ∧
  (∀ axis clk, axis < 24 → exec (.disarm axis clk) s = .next ({ s with moves := s.moves.upd axis (fun m =>
    { m with cmp := { m.cmp with disarmDue := if clk < 9800 then s.time.tick + 1 else s.time.tick + 2 } }) } : State).flush) ∧
  ∀ port, port < 2 → s.portLive port = true →
    exec (.cfgGroupOpen port) s = .next ({ s with cfg := { s.cfg with groupOpen := s.cfg.groupOpen.put port true } } : State).flush ∧
    ∀ clk, exec (.cfgGroupCommit port clk) s = .next ({ s with cfg := { s.cfg with
      groupOpen := s.cfg.groupOpen.put port false, groups := s.cfg.groups.put port []
      shadows := s.cfg.shadows ++ (s.cfg.groups.nth port).map (fun x =>
        ⟨port, x.1, x.2, if clk < 9800 then s.time.tick + 1 else s.time.tick + 2⟩) } } : State).flush

/-- CLR_HALL and CLR_ENC. -/
def Obligations.FeedbackClears : Prop :=
  ∀ s : State, s.up = true →
  (∀ leaf, leaf < 16 → (s.seq.portals.nth (leaf / 2)).st.clearsFbk = false →
    exec (.clrHall leaf) s = .next (s.says [(0x0807, p1 leaf ++ p1 1)]).flush) ∧
  (∀ leaf, leaf < 16 → (s.seq.portals.nth (leaf / 2)).st.clearsFbk = true → (s.leaves.nth leaf).fbk.invalid = false →
      (s.leaves.nth leaf).fbk.causeAt ≠ s.time.tick + 1 →
    ∃ u : State, exec (.clrHall leaf) s = .next (u.says [(0x0807, p1 leaf ++ p1 0)]).flush ∧
      u = { s with leaves := u.leaves, seq := u.seq, encs := u.encs } ∧ (u.leaves.nth leaf).fbk = { (s.leaves.nth leaf).fbk with cause := 0, win := ⟨0, 0⟩ } ∧
      (u.seq.portals.nth (leaf / 2)).ref = false ∧ (∀ k, k ≠ leaf → u.leaves.nth k = s.leaves.nth k) ∧
      ∀ p, p ≠ leaf / 2 → u.seq.portals.nth p = s.seq.portals.nth p) ∧
  (∀ port, port < 8 → s.regs.FBK_E_CFG_LEAF port < 16 → (s.seq.portals.nth (s.regs.FBK_E_CFG_LEAF port / 2)).st.clearsFbk = false →
    exec (.clrEnc port) s = .next (s.says [(0x0807, p1 port ++ p1 1)]).flush) ∧
  ∀ port, port < 8 → s.regs.FBK_E_CFG_LEAF port < 16 → (s.seq.portals.nth (s.regs.FBK_E_CFG_LEAF port / 2)).st.clearsFbk = true →
      (s.encs.nth port).causeAt ≠ s.time.tick + 1 →
    ∃ u : State, exec (.clrEnc port) s = .next (u.says [(0x0807, p1 port ++ p1 0)]).flush ∧
      u = { s with seq := u.seq, encs := u.encs } ∧ (u.encs.nth port).cause = 0 ∧
      (u.seq.portals.nth (s.regs.FBK_E_CFG_LEAF port / 2)).ref = false ∧ ∀ k, k ≠ port → u.encs.nth k = s.encs.nth k

/-- The nine timer rows, each in the state in which its timer runs. -/
def Obligations.PortalTimers : Prop :=
  ∀ (s : State) (p : Nat), p < 8 → s.started = true →
  ((s.seq.portals.nth p).st = .unlocking → s.PortalGoes (exec (.tUnlockExpired p) s) p (fun x l =>
    x.st = .fault ∧ x.cause = 1 ∧ x.latched = (s.seq.portals.nth p).latched ||| 2 ∧ x.lockOn = false ∧ x.relOn = false ∧
    l.map (fun e => (e.code, e.body)) = [(0x0201, p1 p ++ p1 2 ++ p1 10 ++ p1 10), (0x0203, p1 p ++ p1 1)])) ∧
  ((s.seq.portals.nth p).st = .opening ∨ (s.seq.portals.nth p).st = .reopening → s.PortalGoes (exec (.tOpenExpired p) s) p (fun x _ =>
    x.st = .fault ∧ x.cause = 2 ∧ x.latched = (s.seq.portals.nth p).latched ||| 4 ∧ x.lockOn = false ∧ x.relOn = false)) ∧
  ((s.seq.portals.nth p).st = .closing → s.PortalGoes (exec (.tCloseExpired p) s) p (fun x _ =>
    x.st = .fault ∧ x.cause = 3 ∧ x.latched = (s.seq.portals.nth p).latched ||| 8 ∧ x.lockOn = false ∧ x.relOn = false)) ∧
  ((s.seq.portals.nth p).st = .closing → s.atClosed p = true → (s.seq.portals.nth p).locked = false →
    s.PortalGoes (exec (.tLockExpired p) s) p (fun x _ => x.st = .fault ∧ x.lockOn = false ∧ x.relOn = false ∧
      ((s.lockRead (s.regs.SEQ_P_INMAP_LOCK_A p) = .locked ∧ s.lockRead (s.regs.SEQ_P_INMAP_LOCK_B p) = .unlocked) → x.cause = 5) ∧
      (s.lockRead (s.regs.SEQ_P_INMAP_LOCK_A p) = s.lockRead (s.regs.SEQ_P_INMAP_LOCK_B p) → x.cause = 4))) ∧
  ((s.seq.portals.nth p).st = .opened → (s.seq.portals.nth p).warning = false → s.PortalGoes (exec (.tDwellExpired p) s) p (fun x l =>
    x = { s.seq.portals.nth p with warning := true, warnSoft := true, timer := 4, left := timerTicks (s.regs.SEQ_P_TIMER2_T_WARN p), moved := 1 } ∧ l = [])) ∧
  ((s.seq.portals.nth p).st = .opened → (s.seq.portals.nth p).warning = true → s.PortalGoes (exec (.tWarnExpired p) s) p (fun x _ =>
    x.st = .closing ∧ x.timer = 5 ∧ x.warning = false ∧ x.lockOn = false ∧ x.relOn = true ∧ x.cycles = (s.seq.portals.nth p).cycles)) ∧
  ((s.seq.portals.nth p).st = .obstructed → (s.seq.portals.nth p).dir = 0 → s.reacting p = false → s.obsClear p = true →
      (s.seq.portals.nth p).attempt < s.regs.SEQ_P_CFG_RECLOSE_MAX p → s.PortalGoes (exec (.tRecloseExpired p) s) p (fun x _ =>
    x.st = .closing ∧ x.attempt = (s.seq.portals.nth p).attempt + 1 ∧ x.timer = 5 ∧ x.relOn = true)) ∧
  ((s.seq.portals.nth p).st = .obstructed → s.reacting p = false → s.obsClear p = false →
    s.PortalGoes (exec (.tObsClearExpired p) s) p (fun x _ => x.st = .held ∧ x.leafOrder = .stop ∧ x.timer = 0)) ∧
  ((s.seq.portals.nth p).step = .deploying ∨ (s.seq.portals.nth p).step = .stowing →
    s.PortalGoes (exec (.tStepExpired p) s) p (fun x l =>
      x = { s.seq.portals.nth p with latched := (s.seq.portals.nth p).latched ||| 512 } ∧ l = []))

/-- SIGNATURE_PULSE and SIG_PULSE_JUDGED. -/
def Obligations.SignaturePulses : Prop :=
  ∀ (s : State) (p : Nat), p < 8 → s.started = true →
  ((s.seq.portals.nth p).st = .closedLocked → (s.seq.portals.nth p).lockA = true → (s.seq.portals.nth p).lockB = true →
      (s.seq.portals.nth p).sigOk = false → s.atClosed p = true → (s.seq.portals.nth p).pulse = 0 → (s.seq.portals.nth p).sigWait = 0 →
      s.time.armed = true → s.PortalGoes (exec (.signaturePulse p) s) p (fun x l =>
    x = { s.seq.portals.nth p with pulse := 1, sigWait := 0 } ∧ l = [])) ∧
  (∀ ma : Int, (s.seq.portals.nth p).pulse ≠ 0 → (s.regs.SEQ_P_LOCKSIG_SIG_MIN p : Int) ≤ ma → ma ≤ (s.regs.SEQ_P_LOCKSIG_SIG_MAX p : Int) →
    s.PortalGoes (exec (.sigPulseJudged p ma) s) p (fun x l =>
      x = { s.seq.portals.nth p with sigLast := ma, sigOk := true, pulse := 0, sigWait := 0 } ∧ l = [])) ∧
  ∀ ma : Int, (s.seq.portals.nth p).pulse ≠ 0 → (s.regs.SEQ_P_LOCKSIG_SIG_MAX p : Int) < ma →
    s.PortalGoes (exec (.sigPulseJudged p ma) s) p (fun x l =>
      x = { s.seq.portals.nth p with sigLast := ma, sigOk := false, pulse := 0, sigWait := 1 } ∧
      l.map (fun e => (e.code, e.body)) = [(0x0208, p1 p ++ p2 ma)])

/-- PENDING_OPEN_TAKEN, PEND_DEADLINE and DEPART_MS_EXPIRED. -/
def Obligations.PendingOpens : Prop :=
  (∀ (s : State) (p : Nat) (d : Pend), p < 8 → s.started = true → d.psd = false → d.mask < 256 →
    s.seq.pends.filter (fun d => d.mask.testBit p) = [d] →
    (d.permitted (s.seqCtx false) = true → (⟨s.seq, [], []⟩ : SeqOut).pendLost (s.seqCtx false) d = false →
        (d.safety = true ∨ ∀ k, k < 8 → d.mask.testBit k = true → (s.seq.banks.nth (bankOf s.regs k)).depart = false) →
      ∃ (q : Seq) (l : List Post), exec (.pendingOpenTaken p) s = .next ((({ s with seq := q } : State).posts l).finish
          ⟨d.job, 0, seqResult d.mask d.isolated d.refused (d.done ||| d.mask)⟩).flush ∧
        q = { s.seq with portals := q.portals, pends := s.seq.pends.erase d, banks := q.banks } ∧
        (∀ b, b < 4 → (q.banks.nth b).depart = (s.seq.banks.nth b).depart ∧
          ((s.seq.banks.nth b).depart = false → q.banks.nth b = s.seq.banks.nth b)) ∧
        ∀ k, k < 8 → (d.mask.testBit k = true → (q.portals.nth k).lockOn = true ∧ (q.portals.nth k).relOn = true ∧
            ((s.seq.portals.nth k).st = .closedLocked → (q.portals.nth k).st = .unlocking) ∧
            ((s.seq.portals.nth k).st = .held → (q.portals.nth k).st = .reopening)) ∧
          (d.mask.testBit k = false → q.portals.nth k = s.seq.portals.nth k)) ∧
    (d.permitted (s.seqCtx false) = true → (⟨s.seq, [], []⟩ : SeqOut).pendLost (s.seqCtx false) d = false → d.safety = false →
        (∃ k, k < 8 ∧ d.mask.testBit k = true ∧ (s.seq.banks.nth (bankOf s.regs k)).depart = true) →
      exec (.pendingOpenTaken p) s = .next ((({ s with seq := { s.seq with pends := s.seq.pends.erase d } } : State).finish
        ⟨d.job, 2, seqResult d.mask d.isolated (d.refused ||| d.mask) d.done⟩).flush)) ∧
    exec (.pendDeadline p) s = .next ((({ s with seq := { s.seq with pends := s.seq.pends.erase d } } : State).finish
      ⟨d.job, 4, seqResult d.mask d.isolated d.refused d.done⟩).flush)) ∧
  ∀ (s : State) (bank : Nat), bank < 4 → s.started = true → (s.seq.banks.nth bank).depart = true →
    (s.seq.banks.nth bank).suspended = false →
    exec (.departMsExpired bank) s = .next ({ s with seq := { s.seq with banks := s.seq.banks.upd bank (fun b =>
      { b with late := true }) } } : State).flush

/-- The motion and crew commands of SEQ, judged at once (log 9), on a single portal. -/
def Obligations.SeqStrokes : Prop :=
  ∀ (s : State) (c : Cmd) (p : Nat), c.port < 2 → c.ring < 64 → p < 8 → s.up = true → c.level = 2 → c.index = p → c.param = 0 →
  s.seq.pends = [] → (s.seq.portals.nth p).moved = 0 → (s.seq.banks.nth (bankOf s.regs p)).depart = false →
  (groupAuth s.regs c.port (bankOf s.regs p) 0 = true → s.permitOf (bankOf s.regs p) = .yes → (s.seqCtx false).emClose = false →
    ((s.seq.portals.nth p).st = .closedLocked → s.SeqTook (exec (.seqOpen c) s) c p (fun x =>
      x.st = .unlocking ∧ x.lockOn = true ∧ x.relOn = true ∧ x.timer = 1 ∧ x.pulse = 0)) ∧
    ((s.seq.portals.nth p).st = .closing → s.SeqTook (exec (.seqReopen c) s) c p (fun x =>
      x.st = .reopening ∧ x.leafOrder = .reopen ∧ x.lockOn = true ∧ x.relOn = true ∧ x.holdPending = false ∧ x.timer = 2))) ∧
  (groupAuth s.regs c.port (bankOf s.regs p) 0 = true →
    ((s.seq.portals.nth p).st = .opened → (s.seq.portals.nth p).warning = false → s.SeqTook (exec (.seqClose c) s) c p (fun x =>
      x.st = .opened ∧ x.warning = true ∧ x.warnSoft = true ∧ x.timer = 4)) ∧
    ((s.seq.portals.nth p).st = .closedLocked → s.Answered (exec (.seqReopen c) s) c 2 (256 * 2 ^ p))) ∧
  (groupAuth s.regs c.port (bankOf s.regs p) 1 = true →
    ((s.seq.portals.nth p).st = .opened → s.SeqTook (exec (.seqHold c) s) c p (fun x => x.st = .held ∧ x.leafOrder = .stop)) ∧
    ((s.seq.portals.nth p).st = .held → s.SeqTook (exec (.crewClose c) s) c p (fun x =>
      x.st = .closing ∧ x.attempt = 0 ∧ x.timer = 5 ∧ x.relOn = true)) ∧
    ((s.seq.portals.nth p).st = .closedLocked → s.Answered (exec (.seqHold c) s) c 2 (256 * 2 ^ p)))

/-- The service commands of SEQ, judged at once (log 9), on a single portal. -/
def Obligations.SeqService : Prop :=
  ∀ (s : State) (c : Cmd) (p : Nat), c.port < 2 → c.ring < 64 → p < 8 → s.up = true → c.level = 2 → c.index = p → c.param = 0 →
  s.seq.pends = [] → (s.seq.portals.nth p).moved = 0 → (s.seq.banks.nth (bankOf s.regs p)).depart = false →
  (groupAuth s.regs c.port (bankOf s.regs p) 2 = true →
    ((s.seq.portals.nth p).st = .closedLocked → s.SeqTook (exec (.isolate c) s) c p (fun x =>
      x.st = .isolated ∧ x.lockOn = false ∧ x.relOn = false ∧ x.leafOrder = .none)) ∧
    ((s.seq.portals.nth p).st = .isolated → (s.seqCtx false).isol p = false → portalOn s.regs p = true →
      s.SeqTook (exec (.deisolate c) s) c p (fun x => x.st =
        if s.atClosed p = true ∧ stowed (s.seqCtx false) p (s.seq.portals.nth p) = true ∧ (s.seq.portals.nth p).locked = true
        then .closedLocked else .held)) ∧
    ((s.seq.portals.nth p).st = .fault → (s.seq.portals.nth p).disagrees (s.seqCtx false) p = false →
        (s.seqCtx false).fbFault p = false → s.portalSafe p = false →
      s.SeqTook (exec (.clearFault c) s) c p (fun x => x.latched = 0 ∧ x.cause = 0 ∧ x.st =
        if s.atClosed p = true ∧ stowed (s.seqCtx false) p (s.seq.portals.nth p) = true ∧ (s.seq.portals.nth p).locked = true
        then .closedLocked else .held)) ∧
    ((s.seq.portals.nth p).st = .manual → (s.seq.portals.nth p).disagrees (s.seqCtx false) p = false →
        (s.seqCtx false).fbFault p = false → s.portalSafe p = false →
      s.SeqTook (exec (.clearFault c) s) c p (fun x => x.latched = 0 ∧ x.st = .manual)) ∧
    ((s.seq.portals.nth p).st = .manual → (s.seqCtx false).emRel p = false →
      s.SeqTook (exec (.resetManual c) s) c p (fun x => x.st =
        if s.atClosed p = true ∧ stowed (s.seqCtx false) p (s.seq.portals.nth p) = true ∧ (s.seq.portals.nth p).locked = true
        then .closedLocked else .held))) ∧
  ((s.seq.portals.nth p).st ≠ .isolated →
    (groupAuth s.regs c.port (bankOf s.regs p) 0 = false →
      s.Answered (exec (.seqOpen c) s) c 2 (256 * 2 ^ p) ∧ s.Answered (exec (.seqClose c) s) c 2 (256 * 2 ^ p) ∧
      s.Answered (exec (.seqReopen c) s) c 2 (256 * 2 ^ p)) ∧
    (groupAuth s.regs c.port (bankOf s.regs p) 1 = false →
      s.Answered (exec (.seqHold c) s) c 2 (256 * 2 ^ p) ∧ s.Answered (exec (.crewClose c) s) c 2 (256 * 2 ^ p)) ∧
    (groupAuth s.regs c.port (bankOf s.regs p) 2 = false →
      s.Answered (exec (.isolate c) s) c 2 (256 * 2 ^ p) ∧ s.Answered (exec (.deisolate c) s) c 2 (256 * 2 ^ p) ∧
      s.Answered (exec (.clearFault c) s) c 2 (256 * 2 ^ p) ∧ s.Answered (exec (.resetManual c) s) c 2 (256 * 2 ^ p)))

/-- OBS_TRIP, OBS_REACTION_DONE, INJECTION_REQUEST and LDR_RWIND_DONE. -/
def Obligations.LeafEvents : Prop :=
  ∀ (s : State) (leaf : Nat), leaf < 16 → s.started = true →
  (∀ cause, cause % 128 ≠ 0 → (s.leaves.nth leaf).obs.stroke = true → (s.leaves.nth leaf).obs.react = .none → (s.dies.nth (leaf / 4)).uvHold = false →
      (leaf % 2 = 0 ∨ slaveMoves s.regs (leaf / 2) = true) →
    ∃ t, exec (.obsTrip leaf cause) s = .next t ∧ ({ s with leaves := t.leaves } : State).Posted t ∧
      (t.leaves.nth leaf).obs.order = cause % 128 ∧ (t.leaves.nth leaf).obs.cause = cause % 128 ∧
      (t.leaves.nth leaf).obs.tripPos = (s.leaves.nth leaf).fbk.posUm ∧
      ((s.leaves.nth leaf).obs.dir = 0 → (t.leaves.nth leaf).obs.tripsC = satInc 16 (s.leaves.nth leaf).obs.tripsC ∧
        (t.leaves.nth leaf).obs.tripsO = (s.leaves.nth leaf).obs.tripsO) ∧
      ((s.leaves.nth leaf).obs.dir = 1 → (t.leaves.nth leaf).obs.tripsO = satInc 16 (s.leaves.nth leaf).obs.tripsO) ∧
      (∀ k, k < 16 → k / 2 = leaf / 2 → k ≠ leaf → (s.leaves.nth k).obs.judged = false → t.leaves.nth k = s.leaves.nth k) ∧
      (∀ k, k < 16 → k / 2 = leaf / 2 → k ≠ leaf → slaveMoves s.regs (leaf / 2) = true → (s.leaves.nth k).obs.judged = true →
        (t.leaves.nth k).obs.order = 128 ∧ (t.leaves.nth k).obs.tripsC = (s.leaves.nth k).obs.tripsC ∧
        (t.leaves.nth k).obs.tripsO = (s.leaves.nth k).obs.tripsO) ∧
      (∀ k, k < 16 → (t.leaves.nth k).fbk = (s.leaves.nth k).fbk ∧ (t.leaves.nth k).drive = (s.leaves.nth k).drive) ∧
      ∀ k, k / 2 ≠ leaf / 2 → t.leaves.nth k = s.leaves.nth k) ∧
  ((s.leaves.nth leaf).obs.react ≠ .none → exec (.obsReactionDone leaf) s = .next (({ s with leaves := s.leaves.upd leaf (fun x =>
      { x with obs := { x.obs with react := .none } }) } : State).says
    [(0x0402, p1 leaf ++ p1 (s.leaves.nth leaf).obs.react.code ++ p4 (s.leaves.nth leaf).fbk.posUm)]).flush) ∧
  ((s.seq.portals.nth (leaf / 2)).st = .closedLocked → (s.moves.nth leaf).phase.moving = false → 8 < (s.leafRow leaf).1 →
      (s.leaves.nth leaf).drive.inj = none →
    exec (.injectionRequest leaf) s = .next ({ s with leaves := s.leaves.upd leaf (fun x =>
      { x with drive := { x.drive with inj := some ⟨0, 0, 0, 0⟩ } }) } : State).flush) ∧
  ((s.leaves.nth leaf).drive.inj ≠ none →
    (∃ t, exec (.ldrRwindDone leaf true) s = .next t ∧ ({ s with leaves := t.leaves, pat := t.pat } : State).Posted t ∧
      (t.leaves.nth leaf).drive = { (s.leaves.nth leaf).drive with inj := none } ∧
      (t.pat.portalRun.nth (leaf / 2)).want = (if leaf % 2 = 0 then 1 else 3) ∧ ∀ k, k ≠ leaf → t.leaves.nth k = s.leaves.nth k) ∧
    ∃ t, exec (.ldrRwindDone leaf false) s = .next t ∧ ({ s with leaves := t.leaves, pat := t.pat } : State).Posted t ∧
      (t.leaves.nth leaf).drive.inj = none ∧ (t.leaves.nth leaf).drive.rwindTemp = (s.dies.nth (leaf / 4)).temp ∧
      (t.pat.portalRun.nth (leaf / 2)).want = (if leaf % 2 = 0 then 2 else 0) ∧
      (t.pat.portalRun.nth (leaf / 2)).slaveAt = s.time.tick + 1 ∧ ∀ k, k ≠ leaf → t.leaves.nth k = s.leaves.nth k)

/-- PAT_STATE_SAVE, ACCEPT, REFUSE, THAW and PROP_READ, judged at once (log 9), with the SERVICE group granted. -/
def Obligations.PatinaCommands : Prop :=
  (∀ s : State, s.started = true →
    (s.patKeeps = true → ∃ u : State, exec .patStateSave s = .next u.flush ∧
      u = { s with pat := { s.pat with saveAsked := false, cycleEnds := 0
                                       sections := s.pat.sections.put s.cfg.bank (some ⟨s.cfg.id, true, s.pat.st, s.patArms⟩) }
                   mem1 := u.mem1, freeCount := u.freeCount } ∧
      (∀ w, inSection s.cfg.bank w = false → u.mem1.store.word w = s.mem1.store.word w) ∧
      (s.mem1.activity ≠ .injection → s.badSection s.cfg.bank = [] → u.mem1 = s.mem1 ∧ u.freeCount = s.freeCount)) ∧
    (s.patKeeps = false → exec .patStateSave s = .next ({ s with pat := { s.pat with saveAsked := false, cycleEnds := 0 } } : State).flush)) ∧
  (∀ (s : State) (c : Cmd) (q n : Nat), c.port < 2 → c.ring < 64 → s.up = true → 5 ≤ q → q ≤ 11 → n < 256 → c.level = 2 → c.index < 8 →
    c.param = BitVec.ofNat 32 (q + 2 ^ 24 * n) → serviceAuth s.regs c.port (bankOf s.regs c.index) = true →
    ((s.quant q c.index).pending = true → (s.quant q c.index).pseq = n →
      exec (.accept c) s = .next (((s.setQuant q c.index { s.quant q c.index with
          pending := false, prop := 0, inUse := some (s.quant q c.index).prop, datum := some (s.quant q c.index).prop }).says
        [(0x0903, p1 c.index ++ p1 q ++ p4 (n : Nat) ++ p1 c.port)]).finish ⟨⟨0, s.time.tick, c⟩, 0, 0⟩).flush ∧
      exec (.refuse c) s = .next (((s.setQuant q c.index { s.quant q c.index with pending := false, frozen := true, prop := 0 }).says
        [(0x0904, p1 c.index ++ p1 q ++ p4 (n : Nat) ++ p1 c.port)]).finish ⟨⟨0, s.time.tick, c⟩, 0, 0⟩).flush) ∧
    ((s.quant q c.index).pending = false → s.Answered (exec (.accept c) s) c 2 0 ∧ s.Answered (exec (.refuse c) s) c 2 0) ∧
    ((s.quant q c.index).frozen = true → ∃ u : State, exec (.thaw c) s = .next (u.finish ⟨⟨0, s.time.tick, c⟩, 0, 0⟩).flush ∧
      u = { s with pat := u.pat, mem0 := u.mem0, freeCount := u.freeCount } ∧ (u.quant q c.index).frozen = false ∧ (u.quant q c.index).inUse = (s.quant q c.index).inUse)) ∧
  ∀ (s : State) (c : Cmd) (q page : Nat), c.port < 2 → c.ring < 64 → s.up = true → q < 4 → page < 1024 → c.level = 1 → c.index < 16 →
    c.param = BitVec.ofNat 32 (q + 4096 * page) → serviceAuth s.regs c.port (bankOf s.regs (c.index / 2)) = true →
    (s.armQ q c.index).pending = true → s.hif.owner page = 0 → s.hif.busy.testBit page = false →
    ∃ u : State, exec (.propRead c) s = .next (u.finish ⟨⟨0, s.time.tick, c⟩, 0, 0⟩).flush ∧
      u = { s with mem0 := u.mem0, hif := s.hif.setOwner page (hostOf c.port) } ∧
      ∀ w, w / 512 ≠ page → u.mem0.store.word w = s.mem0.store.word w

/-- ARM_LOAD, ARM_READ, TBL_LOAD and TBL_READ, judged at once (log 9). -/
def Obligations.BlobCommands : Prop :=
  (∀ (s : State) (c : Cmd) (dir page : Nat), c.port < 2 → c.ring < 64 → s.up = true → dir < 2 → page < 1024 → c.level = 1 → c.index < 16 →
    c.param = BitVec.ofNat 32 (dir + 4096 * page) → serviceAuth s.regs c.port (bankOf s.regs (c.index / 2)) = true →
    s.hif.owner page = 0 →
    (s.hif.busy.testBit page = true → s.Answered (exec (.armLoad c) s) c 1 0 ∧ s.Answered (exec (.armRead c) s) c 1 0) ∧
    (s.hif.busy.testBit page = false →
      (s.runsIn c.index dir = true → s.Answered (exec (.armLoad c) s) c 1 0) ∧
      (s.runsIn c.index dir = false → ∃ (u : State) (st : Nat), exec (.armLoad c) s = .next (u.finish ⟨⟨0, s.time.tick, c⟩, st, 0⟩).flush ∧
        (st = 0 ∨ st = 3) ∧ u = { s with mem0 := u.mem0, hif := s.hif.setOwner page (hostOf c.port) } ∧
        ∀ w, w / 512 ≠ page → w / 256 ≠ 2048 + 2 * c.index + dir → u.mem0.store.word w = s.mem0.store.word w) ∧
      ∃ (u : State) (st : Nat), exec (.armRead c) s = .next (u.finish ⟨⟨0, s.time.tick, c⟩, st, 0⟩).flush ∧
        (st = 0 ∨ st = 3) ∧ u = { s with mem0 := u.mem0, hif := s.hif.setOwner page (hostOf c.port) } ∧
        ∀ w, w / 512 ≠ page → w / 256 ≠ 2048 + 2 * c.index + dir → u.mem0.store.word w = s.mem0.store.word w)) ∧
  ∀ (s : State) (c : Cmd) (p page : Nat), c.port < 2 → c.ring < 64 → s.up = true → p < 8 → page < 1024 → c.level = 1 → c.index = 16 + p →
    c.param = BitVec.ofNat 32 (4096 * page) → serviceAuth s.regs c.port (bankOf s.regs p) = true →
    (s.hif.owner page ≠ 0 → s.Answered (exec (.tblLoad c) s) c 2 0 ∧ s.Answered (exec (.tblRead c) s) c 2 0) ∧
    (s.hif.owner page = 0 → s.hif.busy.testBit page = false →
      ((s.steps.nth p).mode = 3 → s.Answered (exec (.tblLoad c) s) c 1 0) ∧
      ((s.steps.nth p).mode ≠ 3 → (∀ i, i < 128 → ∃ d : DWord, s.mem0.store.word (512 * page + i) = .encode d ∧
          entryOk (bitsOf d.toNat 31 0) = true ∧ entryOk (bitsOf d.toNat 63 32) = true) →
        ∃ es : List Nat, es.length = 256 ∧
          (∀ i, i < 128 → ∃ d : DWord, s.mem0.store.word (512 * page + i) = .encode d ∧ es[2 * i]? = some (bitsOf d.toNat 31 0) ∧
            es[2 * i + 1]? = some (bitsOf d.toNat 63 32)) ∧
          exec (.tblLoad c) s = .next (({ s with
            hif := s.hif.setOwner page (hostOf c.port), steps := s.steps.upd p (fun d => { d with tblNext := es }) } : State).finish
              ⟨⟨0, s.time.tick, c⟩, 0, 0⟩).flush) ∧
      ∃ (u : State) (st : Nat), exec (.tblRead c) s = .next (u.finish ⟨⟨0, s.time.tick, c⟩, st, 0⟩).flush ∧ (st = 0 ∨ st = 3) ∧
        u = { s with mem0 := u.mem0, hif := s.hif.setOwner page (hostOf c.port) } ∧
        ∀ w, w / 512 ≠ page → w / 128 ≠ 4160 + p → u.mem0.store.word w = s.mem0.store.word w)

/-- SWITCH, RESTART and SET_OUT on one channel or output, judged at once (log 9). -/
def Obligations.RemoteCommands : Prop :=
  ∀ (s : State) (c : Cmd) (on : Bool), c.port < 2 → c.ring < 64 → s.up = true → c.level = 0 →
  (c.index < 48 → (s.links.l.nth 4).fault = false →
    (s.links.autonomous.testBit 4 = true →
      s.Answered (exec (.lswSwitch c) s) c 1 0 ∧ s.Answered (exec (.lswRestart c) s) c 1 0) ∧
    (s.links.autonomous.testBit 4 = false →
      (c.param = BitVec.ofNat 32 (b2n on) → groupAuth s.regs c.port (bankOf s.regs (s.regs.LSW_C_CFG_PORTAL c.index)) 1 = true →
        (s.seqOwns c.index = false → (s.lsw.view.nth c.index).st ≠ .latched → exec (.lswSwitch c) s =
          .next (({ s with lsw := { s.lsw with cmd := setBit s.lsw.cmd c.index on } } : State).finish
            ⟨⟨0, s.time.tick, c⟩, 0, 1 + 65536 * 255⟩).flush) ∧
        (s.seqOwns c.index = true → s.Answered (exec (.lswSwitch c) s) c 2 (256 + 65536 * c.index))) ∧
      (c.param = 0 → groupAuth s.regs c.port (bankOf s.regs (s.regs.LSW_C_CFG_PORTAL c.index)) 2 = true →
        ((s.lsw.view.nth c.index).st = .latched → exec (.lswRestart c) s =
          .next (({ s with lsw := { s.lsw with restart := setBit s.lsw.restart c.index true } } : State).finish
            ⟨⟨0, s.time.tick, c⟩, 0, 1 + 65536 * 255⟩).flush) ∧
        ((s.lsw.view.nth c.index).st ≠ .latched → s.Answered (exec (.lswRestart c) s) c 2 (256 + 65536 * c.index))))) ∧
  (c.index < 16 → (s.links.l.nth 5).fault = false →
    (s.field.outsOff = true → s.Answered (exec (.setOut c) s) c 1 0) ∧
    (s.field.outsOff = false → c.param = BitVec.ofNat 32 (b2n on) →
      groupAuth s.regs c.port (bankOf s.regs (s.regs.FIO_O_CFG_PORTAL c.index)) 1 = true →
      ∃ u : State, exec (.setOut c) s = .next (u.finish ⟨⟨0, s.time.tick, c⟩, 0, 1 + 65536 * 255⟩).flush ∧
        u = { s with fio := u.fio } ∧ u.fio.outCmd.testBit c.index = on ∧
        (∀ j, j ≠ c.index → u.fio.outCmd.testBit j = s.fio.outCmd.testBit j) ∧ u.fio.act = s.fio.act))

/-- CAN_FRAME_START, CAN_FRAME_RECEIVED and CAN_TX_DONE. -/
def Obligations.CanTraffic : Prop :=
  ∀ (s : State) (ctl : Nat), ctl < 4 → s.coreRuns = true →
  (∀ clk o, (s.cans.nth ctl).mode = 1 → (s.cans.nth ctl).busOff = false → (s.cans.nth ctl).tx = none →
      (s.cans.nth ctl).winner s.regs ctl = some o → masterObj s.regs ctl o = false →
      (∀ i, i < 16 → ∃ d : DWord, s.mem0.store.word (canWord ctl o + i) = .encode d) →
    ∃ (t : State) (f : CanFrame), exec (.canFrameStart ctl clk) s = .next t ∧ ({ s with cans := t.cans } : State).Posted t ∧
      t.cans.nth ctl = { s.cans.nth ctl with tx := some ⟨o, 10000 * s.time.tick + clk, f, false⟩ } ∧
      (f.ide, f.id) = objIdent s.regs ctl o ∧ f.data.length = dlcLen f.fdf f.dlc ∧ ∀ k, k ≠ ctl → t.cans.nth k = s.cans.nth k) ∧
  (∀ (f : CanFrame) (sof : Nat), (s.cans.nth ctl).onBus = true → (f.fdf = false ∨ s.regs.CAN_C_CFG_FD_EN ctl = 1) →
      (s.regs.TCK_NT_CFG_MODE = 0 ∨ s.regs.TCK_NT_CFG_SRC ≠ ctl) → (s.cans.nth ctl).recv ≤ 127 → f.rtr = false →
    (∀ o, rxObject s.regs ctl f = some o → ∃ t, exec (.canFrameReceived ctl f sof) s = .next t ∧
      ({ s with cans := t.cans, mem0 := { s.mem0 with
          store := t.mem0.store, activity := t.mem0.activity, injFired := t.mem0.injFired } } : State).Posted t ∧
      (t.cans.nth ctl).new.testBit o = true ∧ (t.cans.nth ctl).tx = none ∧
      ((s.cans.nth ctl).new.testBit o = true → (t.cans.nth ctl).lost.testBit o = true) ∧
      (t.cans.nth ctl).received = satInc 16 (s.cans.nth ctl).received ∧ (t.cans.nth ctl).recv = (s.cans.nth ctl).recv - 1 ∧
      (∀ k, k ≠ ctl → t.cans.nth k = s.cans.nth k) ∧
      ∀ w, w / 16 ≠ canWord ctl o / 16 → t.mem0.store.word w = s.mem0.store.word w) ∧
    (rxObject s.regs ctl f = none → ∃ t, exec (.canFrameReceived ctl f sof) s = .next t ∧ ({ s with cans := t.cans } : State).Posted t ∧
      (t.cans.nth ctl).unmatched = satInc 16 (s.cans.nth ctl).unmatched ∧ (t.cans.nth ctl).new = (s.cans.nth ctl).new)) ∧
  (∀ (f : CanFrame) (sof : Nat), (s.cans.nth ctl).onBus = true → f.fdf = true → s.regs.CAN_C_CFG_FD_EN ctl = 0 →
    ∃ t, exec (.canFrameReceived ctl f sof) s = .next t ∧ ({ s with cans := t.cans } : State).Posted t ∧ (t.cans.nth ctl).lec = 2 ∧
      (t.cans.nth ctl).new = (s.cans.nth ctl).new ∧ (t.cans.nth ctl).received = (s.cans.nth ctl).received ∧
      ∀ k, k ≠ ctl → t.cans.nth k = s.cans.nth k) ∧
  (∀ (tx : CanTx) (tdcv : Nat), (s.cans.nth ctl).tx = some tx → tx.obj < 128 → ∃ t, exec (.canTxDone ctl tdcv) s = .next t ∧
    (t.cans.nth ctl).tx = none ∧ (t.cans.nth ctl).tec = (s.cans.nth ctl).tec - 1 ∧
    (tx.renewed = false → (t.cans.nth ctl).txreq.testBit tx.obj = false) ∧ (tx.renewed = true → (t.cans.nth ctl).txreq = (s.cans.nth ctl).txreq) ∧
    (∀ o, o ≠ tx.obj → (t.cans.nth ctl).txreq.testBit o = (s.cans.nth ctl).txreq.testBit o) ∧
    (t.cans.nth ctl).sent = satInc 16 (s.cans.nth ctl).sent ∧ (∀ k, k ≠ ctl → t.cans.nth k = s.cans.nth k) ∧
    ∀ w, w / 16 ≠ canWord ctl tx.obj / 16 → t.mem0.store.word w = s.mem0.store.word w)

/-- CAN_FAILED_ATTEMPT, CAN_RECEIVE_ERROR, CAN_BUSOFF_RECOVERED, CAN_PROTOCOL_EXCEPTION and CAN_MODE. -/
def Obligations.CanErrors : Prop :=
  ∀ (s : State) (ctl : Nat), ctl < 4 → s.coreRuns = true →
  (∀ (tx : CanTx) (lec : Nat), (s.cans.nth ctl).tx = some tx → ∃ t, exec (.canFailedAttempt ctl lec false false) s = .next t ∧
    ({ s with cans := t.cans } : State).Posted t ∧ (t.cans.nth ctl).tx = none ∧ (t.cans.nth ctl).lec = lec ∧
    (t.cans.nth ctl).tec = min ((s.cans.nth ctl).tec + 8) 256 ∧ (t.cans.nth ctl).failed = satInc 16 (s.cans.nth ctl).failed ∧
    (t.cans.nth ctl).recv = (s.cans.nth ctl).recv ∧
    ((t.cans.nth ctl).busOff = true ↔ (s.cans.nth ctl).busOff = true ∨ 247 < (s.cans.nth ctl).tec) ∧
    ∀ k, k ≠ ctl → t.cans.nth k = s.cans.nth k) ∧
  (∀ (lec : Nat) (dom : Bool), (s.cans.nth ctl).onBus = true → ∃ t, exec (.canReceiveError ctl lec dom) s = .next t ∧
    ({ s with cans := t.cans } : State).Posted t ∧ (t.cans.nth ctl).lec = lec ∧ (t.cans.nth ctl).tec = (s.cans.nth ctl).tec ∧
    ((s.cans.nth ctl).mode ≠ 2 → (t.cans.nth ctl).tx = none ∧ (t.cans.nth ctl).recv = min ((s.cans.nth ctl).recv + if dom then 8 else 1) 255) ∧
    ((s.cans.nth ctl).mode = 2 → (t.cans.nth ctl).recv = (s.cans.nth ctl).recv) ∧ ∀ k, k ≠ ctl → t.cans.nth k = s.cans.nth k) ∧
  ((s.cans.nth ctl).busOff = true → ∃ t, exec (.canBusoffRecovered ctl) s = .next t ∧ ({ s with cans := t.cans } : State).Posted t ∧
    (t.cans.nth ctl).busOff = false ∧ (t.cans.nth ctl).tec = 0 ∧ (t.cans.nth ctl).recv = 0 ∧ (t.cans.nth ctl).recover = 128 ∧ (t.cans.nth ctl).retries = [] ∧
    (t.cans.nth ctl).txreq = (s.cans.nth ctl).txreq ∧ ∀ k, k ≠ ctl → t.cans.nth k = s.cans.nth k) ∧
  ((s.cans.nth ctl).onBus = true → exec (.canProtocolException ctl) s = .next ({ s with cans := s.cans.upd ctl (fun c =>
    { c with px := satInc 16 c.px, pxTick := c.pxTick + 1 }) } : State).flush) ∧
  ((s.cans.nth ctl).asked = true → (s.cans.nth ctl).tx = none → (s.cans.nth ctl).busOff = false → ∃ t, exec (.canMode ctl) s = .next t ∧
    ({ s with cans := t.cans } : State).Posted t ∧ (t.cans.nth ctl).mode = s.regs.CAN_C_MODE_MODE ctl ∧ (t.cans.nth ctl).asked = false ∧
    (s.regs.CAN_C_MODE_MODE ctl = 0 → (t.cans.nth ctl).tec = 0 ∧ (t.cans.nth ctl).recv = 0 ∧ (t.cans.nth ctl).alone = false) ∧
    ∀ k, k ≠ ctl → t.cans.nth k = s.cans.nth k)

/-- TX_SEND, RX_READ and TX_ABORT, judged at once (log 9). -/
def Obligations.CanCommands : Prop :=
  ∀ (s : State) (c : Cmd) (ctl o page : Nat), c.port < 2 → c.ring < 64 → s.up = true → ctl < 4 → o < 128 → page < 1024 →
  c.level = 4 → c.index = 0 → canAuth s.regs ctl c.port = true → masterObj s.regs ctl o = false →
  (c.param = BitVec.ofNat 32 (o + 2 ^ 22 * ctl + 2 ^ 24) → objTx s.regs ctl o = true →
    exec (.txAbort c) s = .next (({ s with cans := s.cans.upd ctl (fun x => { x with txreq := setBit x.txreq o false }) } : State).finish
      ⟨⟨0, s.time.tick, c⟩, 0, 0⟩).flush) ∧
  (c.param = BitVec.ofNat 32 (o + 4096 * page + 2 ^ 22 * ctl + 2 ^ 24) →
    (s.hif.owner page ≠ 0 → s.Answered (exec (.txSend c) s) c 2 0 ∧ s.Answered (exec (.rxRead c) s) c 2 0) ∧
    (s.hif.owner page = 0 → s.hif.busy.testBit page = true →
      s.Answered (exec (.txSend c) s) c 1 0 ∧ s.Answered (exec (.rxRead c) s) c 1 0) ∧
    (s.hif.owner page = 0 → s.hif.busy.testBit page = false →
      (objEnabled s.regs ctl o = true → objTx s.regs ctl o = true → ∃ (u : State) (st : Nat),
        exec (.txSend c) s = .next (u.finish ⟨⟨0, s.time.tick, c⟩, st, 0⟩).flush ∧ (st = 0 ∨ st = 3) ∧
        u = { s with mem0 := u.mem0, cans := u.cans, hif := s.hif.setOwner page (hostOf c.port) } ∧
        (u.cans.nth ctl).txreq.testBit o = true ∧ (u.cans.nth ctl).txfail.testBit o = false ∧
        (∀ k, k ≠ ctl → u.cans.nth k = s.cans.nth k) ∧
        ∀ w, w / 512 ≠ page → w / 16 ≠ canWord ctl o / 16 → u.mem0.store.word w = s.mem0.store.word w) ∧
      ∃ (u : State) (st : Nat), exec (.rxRead c) s = .next (u.finish ⟨⟨0, s.time.tick, c⟩, st, 0⟩).flush ∧ (st = 0 ∨ st = 3) ∧
        u = { s with mem0 := u.mem0, cans := u.cans, hif := s.hif.setOwner page (hostOf c.port) } ∧
        (u.cans.nth ctl).new.testBit o = false ∧ (u.cans.nth ctl).lost.testBit o = false ∧
        (u.cans.nth ctl).txreq = (s.cans.nth ctl).txreq ∧ (∀ k, k ≠ ctl → u.cans.nth k = s.cans.nth k) ∧
        ∀ w, w / 512 ≠ page → w / 16 ≠ canWord ctl o / 16 → u.mem0.store.word w = s.mem0.store.word w))

/-- NT_REFERENCE_RECEIVED, NT_MASTER_PERIOD and NT_TIMEOUT. -/
def Obligations.NetworkTime : Prop :=
  ∀ s : State, s.coreRuns = true →
  (∀ (f : CanFrame) (sof : Nat), s.regs.TCK_NT_CFG_MODE = 1 → isReference s.regs f = true →
    ∃ t, exec (.ntReferenceReceived f sof) s = .next t ∧ ({ s with time := t.time, cans := t.cans } : State).Posted t ∧
      (∀ k, k ≠ s.regs.TCK_NT_CFG_SRC → t.cans.nth k = s.cans.nth k) ∧
      (t.cans.nth s.regs.TCK_NT_CFG_SRC).refs = satInc 16 (s.cans.nth s.regs.TCK_NT_CFG_SRC).refs ∧
      t.time.lastRefDtc = sof + 1 ∧ t.time.refAge = 0 ∧ t.time.tick = s.time.tick ∧
      (s.time.lastRefDtc = 0 → t.time.anchors = s.time.anchors ∧ t.time.ntValid = s.time.ntValid ∧ t.time.anchorDtc = s.time.anchorDtc) ∧
      (s.time.lastRefDtc ≠ 0 → t.time.anchorDtc = s.time.lastRefDtc - 1 ∧ t.time.anchorNt = ofLe (f.data.take 4) ∧
        t.time.anchors = min (s.time.anchors + 1) 2 ∧ (t.time.ntValid = true ↔ s.time.ntValid = true ∨ 1 ≤ s.time.anchors))) ∧
  (∀ (f : CanFrame) (sof : Nat), s.regs.TCK_NT_CFG_MODE = 2 → isReference s.regs f = true →
    exec (.ntReferenceReceived f sof) s = .next ({ s with time := { s.time with lastRefDtc := sof + 1 }
                                                          cans := s.cans.upd s.regs.TCK_NT_CFG_SRC (fun c => { c with
      refs := satInc 16 c.refs, happen := c.happen ++ [(0x0107, p1 s.regs.TCK_NT_CFG_SRC ++ p8 sof)] }) } : State).flush) ∧
  (∀ (f : CanFrame) (sof : Nat), s.regs.TCK_NT_CFG_MODE = 0 ∨ isReference s.regs f = false →
    exec (.ntReferenceReceived f sof) s = .next s.flush) ∧
  (s.regs.TCK_NT_CFG_MODE = 2 → (s.cans.nth s.regs.TCK_NT_CFG_SRC).mode = 1 →
    exec .ntMasterPeriod s = .next ({ s with time := { s.time with masterAge := 0 }
                                             cans := s.cans.upd s.regs.TCK_NT_CFG_SRC (fun c => { c with
      txreq := setBit c.txreq 127 true, missed := if c.txreq.testBit 127 then satInc 16 c.missed else c.missed }) } : State).flush) ∧
  (s.regs.TCK_NT_CFG_MODE = 1 → s.time.ntValid = true →
    exec .ntTimeout s = .next (({ s with time := { s.time with ntValid := false } } : State).says
      [(0x0105, p1 s.regs.TCK_NT_CFG_SRC)]).flush)

/-- ENABLE, DISABLE, JET_TAIL, JET_CQ, DESCRIPTOR_FETCH and FETCH_COMPLETION. -/
def Obligations.RingsAndJets : Prop :=
  ∀ (s : State) (port r : Nat), port < 2 → r < 64 → s.up = true →
  ((s.hif.ringOf port r).st = .disabled → exec (.enable port r) s = .next ({ s with hif := s.hif.port port (fun p =>
    p.ring r (fun _ => { Ring.reset with st := .running })) } : State).flush) ∧
  ((s.hif.ringOf port r).st = .running → exec (.disable port r) s = .next ({ s with hif := (s.hif.port port (fun p =>
    p.ring r (fun x => { x with st := if ringIsEvent s.regs port r then .disabled else .draining, asked := 0 }))).drained } : State).flush) ∧
  (s.portLive port = true →
    (∀ (v : Word) (clk : Nat), (s.hif.ringOf port r).st = .running → ringIsEvent s.regs port r = false → v.toNat < ringSize s.regs port r →
      exec (.jetTail port r v clk) s = .next ({ s with hif := s.hif.port port (fun p => p.ring r (fun x =>
        { x with host := v.toNat })) } : State).flush ∧
      (passes (ringSize s.regs port r) (s.hif.ringOf port r).cqHost v.toNat (s.hif.ringOf port r).cqDev = false →
        exec (.jetCq port r v clk) s = .next ({ s with hif := s.hif.port port (fun p => p.ring r (fun x =>
          { x with cqHost := v.toNat })) } : State).flush)) ∧
    (∀ (v : Word) (clk : Nat), (s.hif.ringOf port r).st ≠ .running →
      exec (.jetTail port r v clk) s = .next ({ s with hif := s.hif.port port (fun p =>
        { p with jetsIgnored := satInc 16 p.jetsIgnored }) } : State).flush ∧
      exec (.jetCq port r v clk) s = .next ({ s with hif := s.hif.port port (fun p =>
        { p with jetsIgnored := satInc 16 p.jetsIgnored }) } : State).flush) ∧
    (∀ (v : Word) (clk : Nat), (s.hif.ringOf port r).st = .running → ringSize s.regs port r ≤ v.toNat →
      exec (.jetTail port r v clk) s = .next (({ s with hif := s.hif.ringFails port r 1 } : State).post
        ⟨0x0D03, p1 r ++ p1 1, some port⟩).flush) ∧
    (s.hif.turn s.regs port = some r → exec (.descriptorFetch port r) s = .next { s with
      out := .fetchRead port r (s.hif.ringOf port r).dev (s.hif.fetchCount s.regs port r) :: s.out
      hif := s.hif.port port (fun p => { (p.ring r (fun x => { x with
        asked := s.hif.fetchCount s.regs port r
        askedRes := min (s.hif.fetchCount s.regs port r) (s.hif.resRoom s.regs port r) })) with
        served := p.served.put (ringClass s.regs port r) r }) })) ∧
  ∀ us, us ≤ 8 → (s.hif.ringOf port r).asked ≠ 0 → (s.hif.ringOf port r).st = .running →
    (∀ d : List Word, ∃ u : State, exec (.fetchCompletion port r [d] false us) s = .next u.flush ∧
      u = { s with mem0 := u.mem0, hif := u.hif } ∧ u.hif.nextId = s.hif.nextId + 1 ∧
      (u.hif.ringOf port r).dev = ((s.hif.ringOf port r).dev + 1) % ringSize s.regs port r ∧ (u.hif.ringOf port r).asked = 0 ∧
      u.hif.tracker = s.hif.tracker ++ [⟨⟨s.hif.nextId, s.time.tick, descCmd port r d⟩, descBlock d, descCode d,
        decide (ringClass s.regs port r = 0) && decide (s.hif.reserved + (s.hif.port port (fun p => p.ring r (fun x =>
          { x with asked := 0 }))).bookedRes < 32), !descOk d, false, false, false⟩] ∧
      u.hif.compl = s.hif.compl ∧ ∀ w, w / 8 ≠ trackerWord s.hif.nextId / 8 → u.mem0.store.word w = s.mem0.store.word w) ∧
    ∀ ds, exec (.fetchCompletion port r ds true us) s = .next (({ s with hif := s.hif.ringFails port r 2 } : State).post
      ⟨0x0D03, p1 r ++ p1 2, some port⟩).flush

/-- COMMAND_TIMEOUT, COMPLETION_TIMEOUT, MSIX_MODERATION_TIMEOUT, MSIX_TABLE_WRITE and GUARANTEE_RESTORED. -/
def Obligations.HostTimeouts : Prop :=
  (∀ (s : State) (id : Nat) (t : Tracked), s.up = true → s.hif.tracker = [t] → t.judged = false → t.job.id = id → s.seq.pends = [] →
    s.hif.pages = [] → s.recd.drains = Vector.replicate 2 none → s.mem0.sl.running = false → s.mem1.sl.running = false →
    s.cfg.request = none → s.cfg.install = none →
    exec (.commandTimeout id) s = .next (s.finish ⟨t.job, 4, 0⟩).flush) ∧
  (∀ (s : State) (port r : Nat), port < 2 → r < 64 → (s.hif.ringOf port r).asked ≠ 0 →
    exec (.completionTimeout port false r) s = .next (({ s with hif := s.hif.ringFails port r 3 } : State).post ⟨0x0D03, p1 r ++ p1 3, some port⟩).flush) ∧
  (∀ (s : State) (port page : Nat) (q : PageRun), port < 2 → page < 1024 → s.hif.pages = [q] → q.job.cmd.port = port → q.first = page →
    q.isIn = true → q.doneAt = 0 →
    exec (.completionTimeout port true page) s = .next (({ s with hif := { (s.hif.setBusy q.first q.count false) with pages := [] } } :
      State).finish ⟨q.job, 4, q.moved % 256⟩).flush) ∧
  (∀ (s : State) (port r : Nat), port < 2 → r < 64 → (s.hif.ringOf port r).sinceMsg ≠ 0 → (s.hif.ringOf port r).st ≠ .disabled →
    s.regs.HIF_R_MOD_MOD_US (64 * port + r) ≠ 0 →
    ((s.hif.ports.nth port).masked.testBit (s.regs.HIF_R_CFG_VECTOR (64 * port + r)) = false → (s.hif.ports.nth port).bme = true →
      exec (.msixModerationTimeout port r) s = .next { s with
        out := .msix port (s.regs.HIF_R_CFG_VECTOR (64 * port + r)) :: s.out
        hif := s.hif.port port (fun p => p.ring r (fun x => { x with sinceMsg := 0 })) }) ∧
    ((s.hif.ports.nth port).masked.testBit (s.regs.HIF_R_CFG_VECTOR (64 * port + r)) = true ∨ (s.hif.ports.nth port).bme = false →
      exec (.msixModerationTimeout port r) s = .next { s with
        hif := s.hif.port port (fun p => { (p.ring r (fun x => { x with sinceMsg := 0 })) with
          msixPend := setBit p.msixPend (s.regs.HIF_R_CFG_VECTOR (64 * port + r)) true }) })) ∧
  (∀ (s : State) (port v : Nat), port < 2 → v < 32 → s.portLive port = true → (s.hif.ports.nth port).msixPend.testBit v = true →
    ((s.hif.ports.nth port).bme = true → exec (.msixTableWrite port v false) s = .next { s with
      out := .msix port v :: s.out
      hif := s.hif.port port (fun p => { p with masked := setBit p.masked v false, msixPend := setBit p.msixPend v false }) }) ∧
    ((s.hif.ports.nth port).bme = false → exec (.msixTableWrite port v false) s = .next { s with
      hif := s.hif.port port (fun p => { p with masked := setBit p.masked v false }) }) ∧
    exec (.msixTableWrite port v true) s = .next { s with hif := s.hif.port port (fun p => { p with masked := setBit p.masked v true }) }) ∧
  ∀ (s : State) (port : Nat), port < 2 → s.started = true → (s.hif.g5.nth port).suspended = true →
    exec (.guaranteeRestored 5 port) s = .next (({ s with hif := { s.hif with g5 := s.hif.g5.put port ⟨false, 0, 0⟩ } } : State).posts
      [⟨0x0D02, p1 5 ++ p1 0xFF ++ p4 ((s.time.tick - (s.hif.g5.nth port).since : Nat) : Int), some port⟩]).flush

/-- BAR2_WRITE and BAR2_READ. The word rules of partial writes and of errors are those of chapter 15. -/
def Obligations.CisternAccess : Prop :=
  ∀ (s : State) (port addr : Nat), port < 2 → s.up = true → s.portLive port = true →
  (∀ data : List Byte, data ≠ [] → addr % 4096 + data.length ≤ 4096 → addr < 0x400000 →
    (s.hif.owner (addr / 4096) ≠ hostOf port ∨ s.hif.busy.testBit (addr / 4096) = true →
      ∃ u : State, exec (.bar2Write port addr data) s = .next u.flush ∧ u = { s with hif := { s.hif with ports := u.hif.ports } } ∧
        (u.hif.ports.nth port).pageViol = satInc 16 (s.hif.ports.nth port).pageViol ∧
        (u.hif.ports.nth port).violCount = satInc 32 (s.hif.ports.nth port).violCount ∧
        ∀ k, k ≠ port → u.hif.ports.nth k = s.hif.ports.nth k) ∧
    (s.hif.owner (addr / 4096) = hostOf port → s.hif.busy.testBit (addr / 4096) = false →
      ∃ u : State, exec (.bar2Write port addr data) s = .next u.flush ∧ u = { s with mem0 := u.mem0 } ∧
        (∀ w, 8 * w + 8 ≤ addr ∨ addr + data.length ≤ 8 * w → u.mem0.store.word w = s.mem0.store.word w) ∧
        (addr % 8 = 0 → data.length = 8 → s.mem0.activity ≠ .injection →
          u.mem0.store.word (addr / 8) = .encode (BitVec.ofNat 64 (ofLe data))))) ∧
  ∀ len, len ≠ 0 → addr + len ≤ 0x400000 → ∃ (u : State) (bytes : List Byte) (ep : Bool), exec (.bar2Read port addr len) s = .next u.flush ∧
    u = { s with mem0 := u.mem0, out := .readData port bytes ep :: s.out } ∧ bytes.length = len ∧
    (∀ d : DWord, addr % 8 = 0 → len = 8 → s.mem0.store.word (addr / 8) = .encode d → bytes = leBytes 8 d.toNat ∧ ep = false ∧
      u.mem0 = s.mem0)

/-- NOP, PAGE_TAKE, PAGE_GIVE, PAGE_PASS, PAGE_IN, PAGE_OUT, PAGE_IN_READ_COMPLETION and PAGE_TRANSFER_DONE. -/
def Obligations.PageCommands : Prop :=
  (∀ (s : State) (c : Cmd), c.port < 2 → c.ring < 64 → s.up = true → c.level = 4 → c.index = 0 →
    (c.param = 0 → s.Answered (exec (.nop c) s) c 0 0) ∧ (c.param ≠ 0 → s.Answered (exec (.nop c) s) c 2 0) ∧
    ∀ first count, 0 < count → count < 256 → first + count ≤ 1024 → c.param = BitVec.ofNat 32 (4096 * first + 2 ^ 24 * count) →
      (s.hif.allOwned first count 0 = true → s.hif.anyBusy first count = true → s.Answered (exec (.pageTake c) s) c 1 0) ∧
      (s.hif.anyBusy first count = false →
        (s.hif.allOwned first count 0 = true → ∃ h : Hif, exec (.pageTake c) s =
            .next (({ s with hif := h } : State).finish ⟨⟨0, s.time.tick, c⟩, 0, 0⟩).flush ∧ h = { s.hif with ownA := h.ownA, ownB := h.ownB } ∧
          ∀ k, h.owner k = if first ≤ k ∧ k < first + count then hostOf c.port else s.hif.owner k) ∧
        (s.hif.allOwned first count (hostOf c.port) = true →
          (∃ h : Hif, exec (.pageGive c) s =
              .next (({ s with hif := h } : State).finish ⟨⟨0, s.time.tick, c⟩, 0, 0⟩).flush ∧ h = { s.hif with ownA := h.ownA, ownB := h.ownB } ∧
            ∀ k, h.owner k = if first ≤ k ∧ k < first + count then 0 else s.hif.owner k) ∧
          ((s.hif.ports.nth (1 - c.port)).linkUp = true → (s.hif.ports.nth (1 - c.port)).inReset = false →
            ∃ h : Hif, exec (.pagePass c) s =
              .next (({ s with hif := h } : State).finish ⟨⟨0, s.time.tick, c⟩, 0, 0⟩).flush ∧ h = { s.hif with ownA := h.ownA, ownB := h.ownB } ∧
            ∀ k, h.owner k = if first ≤ k ∧ k < first + count then 3 - hostOf c.port else s.hif.owner k) ∧
          (c.addr % 4096 = 0 →
            exec (.pageIn c) s = .next ({ s with hif := { (s.hif.setBusy first count true) with
              pages := s.hif.pages ++ [⟨⟨0, s.time.tick, c⟩, true, first, count, 0, 0, false, 0⟩] } } : State).flush ∧
            exec (.pageOut c) s = .next ({ s with hif := { (s.hif.setBusy first count true) with
              pages := s.hif.pages ++ [⟨⟨0, s.time.tick, c⟩, false, first, count, 0, 0, false, 0⟩] } } : State).flush)))) ∧
  ∀ (s : State) (port page : Nat) (q : PageRun), port < 2 → page < 1024 → s.up = true → s.hif.pages = [q] → q.isIn = true →
    q.job.cmd.port = port →
    (∀ (offset : Nat) (data : List Byte), q.doneAt = 0 → q.first ≤ page → page < q.first + q.count → data ≠ [] → offset + data.length ≤ 4096 →
      ∃ u : State, exec (.pageInReadCompletion port page offset data false) s = .next u.flush ∧
        u = { s with mem0 := u.mem0, hif := { s.hif with pages := u.hif.pages, bulkBytes := u.hif.bulkBytes } } ∧
        u.hif.pages = [{ q with moved := q.moved + (q.got + data.length) / 4096, got := (q.got + data.length) % 4096
                                doneAt := if q.count ≤ q.moved + (q.got + data.length) / 4096 then s.time.tick + 1 else 0 }] ∧
        ∀ w, 8 * w + 8 ≤ 4096 * page + offset ∨ 4096 * page + offset + data.length ≤ 8 * w →
          u.mem0.store.word w = s.mem0.store.word w) ∧
    (q.first = page → q.count ≤ q.moved → exec (.pageTransferDone port page) s =
      .next (({ s with hif := { (s.hif.setBusy q.first q.count false) with pages := [] } } : State).finish
        ⟨q.job, if q.poison then 3 else 0, q.moved % 256⟩).flush)

/-- R376 on the write that every writer of the model uses. An armed injection (R386) comes after the encoding and is not meant here. -/
def Obligations.FullWordWrite : Prop :=
  ∀ (rf : RegFile) (m agent w : Nat) (bytes : List Byte) (u : MemUnit), bytes.length = 8 → u.activity ≠ .injection →
  (u.writeBytes rf m agent (8 * w) bytes).store.word w = ⟨true, BitVec.ofNat 64 (ofLe bytes), 0, 0⟩ ∧
  ((u.writeBytes rf m agent (8 * w) bytes).store.word w).cls = .clean ∧
  (∀ v, v ≠ w → (u.writeBytes rf m agent (8 * w) bytes).store.word v = u.store.word v) ∧
  u.writeBytes rf m agent (8 * w) bytes = { u with store := (u.writeBytes rf m agent (8 * w) bytes).store }

/-- SLUICE, INJECT, STOP, SLUICE_DONE, PATROL_DUE and WEIR_LEAK. m is 0 or 1. -/
def Obligations.MemoryEngines : Prop :=
  ∀ (s : State) (m : Nat) (u : MemUnit) (set : MemUnit → State), m < 2 → u = (if m = 0 then s.mem0 else s.mem1) →
  (∀ v, set v = if m = 0 then { s with mem0 := v } else { s with mem1 := v }) →
  (∀ c : Cmd, c.port < 2 → c.ring < 64 → s.up = true → c.level = 4 → c.index = 0 → c.param = BitVec.ofNat 32 m →
      memAuth s.regs c.port = true →
    (u.activity = .none →
      (s.regs.MEM_M_RANGE_LO_ADDR m ≤ s.regs.MEM_M_RANGE_HI_ADDR m → s.regs.MEM_M_RANGE_HI_ADDR m < 8 * memWords m →
        ∃ v : MemUnit, exec (.sluice c) s = .next (set v).flush ∧ v = { u with activity := .hostPass, sl := v.sl } ∧ v.sl.running = true ∧
          v.sl.pos = s.regs.MEM_M_RANGE_LO_ADDR m ∧ v.sl.hi = s.regs.MEM_M_RANGE_HI_ADDR m ∧ v.sl.source = c.port ∧
          v.sl.words = 0 ∧ v.sl.job = some ⟨0, s.time.tick, c⟩) ∧
      (flipMask s.regs m ≠ 0 → s.regs.MEM_M_INJ_ADDR_ADDR m < 8 * memWords m → exec (.inject c) s =
        .next ((set { u with activity := .injection, injMask := flipMask s.regs m, injAny := decide (s.regs.MEM_M_INJ_CFG_ANY m = 1)
                             injAddr := s.regs.MEM_M_INJ_ADDR_ADDR m }).finish ⟨⟨0, s.time.tick, c⟩, 0, 0⟩).flush) ∧
      s.Answered (exec (.stop c) s) c 2 0) ∧
    (u.activity ≠ .none →
      (s.regs.MEM_M_RANGE_LO_ADDR m ≤ s.regs.MEM_M_RANGE_HI_ADDR m → s.regs.MEM_M_RANGE_HI_ADDR m < 8 * memWords m →
        s.Answered (exec (.sluice c) s) c 1 0) ∧
      (flipMask s.regs m ≠ 0 → s.regs.MEM_M_INJ_ADDR_ADDR m < 8 * memWords m → s.Answered (exec (.inject c) s) c 1 0)) ∧
    (u.activity = .injection → exec (.stop c) s =
      .next ((set { u with activity := .none }).finish ⟨⟨0, s.time.tick, c⟩, 0, 0⟩).flush)) ∧
  (s.coreRuns = true →
    (u.sl.running = true → ∃ (v : MemUnit) (l : List Finish), exec (.sluiceDone m) s = .next ((set v).finishes l).flush ∧
      v.activity = .none ∧ v.sl.running = false ∧ v.sl.outcome = 0 ∧ v.sl.job = none ∧
      (u.sl.job = none → l = []) ∧ ∀ j, u.sl.job = some j → ∃ n, l = [⟨j, 0, n⟩]) ∧
    (s.regs.MEM_M_PATROL_PERIOD m ≠ 0 →
      (u.activity = .none → ∃ v : MemUnit, exec (.patrolDue m) s = .next (set v).flush ∧ v.activity = .patrol ∧ v.sl.running = true ∧
        v.sl.source = 2 ∧ v.sl.pos = 0 ∧ v.sl.hi = 8 * memWords m - 8 ∧ v.store = u.store ∧ v.patrolAge = 0) ∧
      (u.activity ≠ .none → exec (.patrolDue m) s = .next (set { u with patrolDue := true }).flush)) ∧
    exec (.weirLeak m) s = .next (set { u with weirLevel := u.weirLevel - 1, weirAge := 0 }).flush)

/-- CYCLE_CUT, RECORD_COMMIT, REC_SEQ_LO_READ, DRAIN and DRAIN_DONE. -/
def Obligations.RecordStore : Prop :=
  (∀ (s : State) (p : Nat) (c : Cycle), p < 8 → s.started = true → s.recd.cycles.nth p = some c →
    ∃ (t : State) (n : Cycle), exec (.cycleCut p) s = .next t ∧ t.recd.next = s.recd.next + 1 ∧ t.recd.staged = s.recd.staged ++ [s.recd.next] ∧
      t.recd.cuts = satInc 16 s.recd.cuts ∧ t.recd.commit = s.recd.commit ∧ t.recd.cycles.nth p = some n ∧ n.continued = true ∧
      n.start = s.time.tick ∧ (∀ k, k ≠ p → t.recd.cycles.nth k = s.recd.cycles.nth k) ∧ t.mem1.store = s.mem1.store ∧
      ∀ w, w / 16 ≠ stageWord s.recd.next / 16 → (s.mem0.store.word w).cls = .clean → t.mem0.store.word w = s.mem0.store.word w) ∧
  (∀ (s : State) (n : Nat), s.started = true → s.recd.staged = [n] → ∃ t, exec .recordCommit s = .next t ∧ t.recd.commit = n ∧
      t.recd.staged = [] ∧ t.recd.next = s.recd.next ∧ ∀ w, w / 16 ≠ recWord n / 16 → t.mem1.store.word w = s.mem1.store.word w) ∧
  (∀ (s : State) (port which : Nat), port < 2 → which < 5 → s.up = true → s.portLive port = true →
    exec (.recSeqLoRead port which) s = .next ({ s with
      recd := { s.recd with snaps := s.recd.snaps.upd port (fun v => v.put which (s.recNumber which / 2 ^ 32 % 256)) }
      out := .regData port (BitVec.ofNat 32 (s.recNumber which)) :: s.out } : State).flush) ∧
  (∀ (s : State) (c : Cmd) (first count : Nat), c.port < 2 → c.ring < 64 → s.up = true → c.level = 4 → c.index = 0 → 0 < count →
      count < 256 → first + count ≤ 1024 → c.param = BitVec.ofNat 32 (4096 * first + 2 ^ 24 * count) → recAuth s.regs c.port = true →
      s.hif.pagesFree first count = 0 →
    (s.recd.headValid = false ∨ s.recd.drains.nth c.port ≠ none → s.Answered (exec (.drain c) s) c 1 0) ∧
    (s.recd.headValid = true → s.recd.drains.nth c.port = none → ∃ (u : State) (d : Drain), exec (.drain c) s = .next u.flush ∧
      u = { s with mem0 := u.mem0, mem1 := u.mem1, recd := u.recd, hif := s.hif.setBusy first count true } ∧
      u.recd.drains.nth c.port = some d ∧ d.job = ⟨0, s.time.tick, c⟩ ∧ d.page = first ∧ d.count = count ∧ d.last = s.recd.commit)) ∧
  ∀ (s : State) (port : Nat) (d : Drain), port < 2 → s.up = true → s.recd.drains.nth port = some d → d.job.cmd.port = port →
    ∃ (u : State) (st n : Nat), exec (.drainDone port) s = .next (u.finish ⟨d.job, st, n⟩).flush ∧ (st = 0 ∨ st = 3) ∧
      u.recd.drains.nth port = none ∧ u.recd.commit = s.recd.commit ∧ u.recd.next = s.recd.next ∧
      ∀ k, d.page ≤ k → k < d.page + d.count → u.hif.owner k = hostOf port

/-- CAP_ARM, CAP_TRIGGER, CAP_STOP and CAPTURE_SAMPLE. A unit that is done counts as idle (log 21). -/
def Obligations.Captures : Prop :=
  (∀ (s : State) (c : Cmd) (k first count : Nat), c.port < 2 → c.ring < 64 → s.up = true → k < 4 → c.level = 1 → c.index < 16 →
    0 < count → count < 256 → first + count ≤ 1024 → c.param = BitVec.ofNat 32 (k + 4096 * first + 2 ^ 24 * count) →
    serviceAuth s.regs c.port (bankOf s.regs (c.index / 2)) = true → s.hif.pagesFree first count = 0 →
    ((s.recd.units.nth k).st = 0 ∨ (s.recd.units.nth k).st = 3 → s.regs.REC_U_PRE_PRE k < 256 * count →
      ∃ n : Capture, exec (.capArm c) s = .next (({ s with
          hif := s.hif.setBusy first count true, recd := { s.recd with units := s.recd.units.put k n } } : State).finish
            ⟨⟨0, s.time.tick, c⟩, 0, 0⟩).flush ∧
        n.st = 1 ∧ n.port = c.port ∧ n.portal = false ∧ n.target = c.index ∧ n.page = first ∧ n.count = count ∧ n.slot = 0 ∧ n.trig = 0) ∧
    ((s.recd.units.nth k).st = 1 ∨ (s.recd.units.nth k).st = 2 → s.Answered (exec (.capArm c) s) c 1 0)) ∧
  (∀ (s : State) (c : Cmd) (k : Nat), c.port < 2 → c.ring < 64 → s.up = true → k < 4 → c.level = 4 → c.index = 0 → c.param = BitVec.ofNat 32 k →
    (s.recd.units.nth k).port = c.port →
    ((s.recd.units.nth k).st = 1 → (s.recd.units.nth k).trig = 0 → exec (.capTrigger c) s = .next (({ s with recd := { s.recd with
      units := s.recd.units.put k { s.recd.units.nth k with trig := 1 } } } : State).finish ⟨⟨0, s.time.tick, c⟩, 0, 0⟩).flush) ∧
    ((s.recd.units.nth k).st = 0 ∨ (s.recd.units.nth k).st = 3 → s.Answered (exec (.capTrigger c) s) c 2 0 ∧
      s.Answered (exec (.capStop c) s) c 2 0) ∧
    ((s.recd.units.nth k).st = 1 → ∃ t, exec (.capStop c) s = .next t ∧ (t.recd.units.nth k).st = 3 ∧ (t.recd.units.nth k).outcome = 1 ∧
      ∀ j, j ≠ k → t.recd.units.nth j = s.recd.units.nth j)) ∧
  ∀ (s : State) (k : Nat), k < 4 → s.started = true → (s.recd.units.nth k).st = 1 → (s.recd.units.nth k).trig = 0 →
    (s.recd.units.nth k).portal = false →
    ∃ u : State, exec (.captureSample k) s = .next u.flush ∧ u = { s with mem0 := u.mem0, recd := u.recd } ∧
      (u.recd.units.nth k).before = (s.recd.units.nth k).before + 1 ∧ (u.recd.units.nth k).st = 1 ∧
      (u.recd.units.nth k).slot = (if 256 * (s.recd.units.nth k).count ≤ (s.recd.units.nth k).slot + 1 then 0
        else (s.recd.units.nth k).slot + 1) ∧
      ∀ w, w / 2 ≠ 256 * (s.recd.units.nth k).page + (s.recd.units.nth k).slot → u.mem0.store.word w = s.mem0.store.word w

/-- RELIEF_SET, RELIEF_APPLY, RELIEF_TIMEOUT, IMG_WRITE, IMG_WRITE_DONE, IMG_COMMIT, IMG_COMMIT_DONE and IMG_READ. -/
def Obligations.ReliefAndImages : Prop :=
  (∀ (s : State) (c : Cmd) (r : Nat), c.port < 2 → c.ring < 64 → s.up = true → c.level = 4 → c.index = 0 → r < 16 →
    r < s.cfg.reliefs.length → c.param = BitVec.ofNat 32 r → cfgAuth s.regs c.port false = true →
    (s.cfg.request ≠ none → s.Answered (exec (.reliefSet c) s) c 1 0) ∧
    (s.cfg.request = none → s.cfg.relief = r → s.Answered (exec (.reliefSet c) s) c 0 0) ∧
    (s.cfg.request = none → s.cfg.relief ≠ r → ∃ q : ReliefReq, exec (.reliefSet c) s =
        .next ({ s with cfg := { s.cfg with request := some q } } : State).flush ∧
      q.relief = r ∧ q.job = ⟨0, s.time.tick, c⟩ ∧ q.go = false ∧ q.applied = false ∧ q.poison = false)) ∧
  (∀ (s : State) (q : ReliefReq), s.started = true → s.cfg.request = some q → q.applied = false → q.poison = false →
    exec .reliefTimeout s = .next (({ s with cfg := { s.cfg with request := none } } : State).finish ⟨q.job, 4, 0⟩).flush ∧
    (q.go = false → s.reliefFree q.relief = false → exec .reliefApply s = .next s.flush) ∧
    (s.reliefFree q.relief = true → (s.reliefPoison q.relief).2 = false → ∃ t, exec .reliefApply s = .next t ∧
      t.cfg.request = none ∧ t.cfg.relief = q.relief ∧ t.cfg.bank = s.cfg.bank ∧ t.pending = s.pending)) ∧
  (∀ (s : State) (c : Cmd), c.port < 2 → c.ring < 64 → s.up = true → c.level = 4 → c.index = 0 → cfgAuth s.regs c.port true = true →
    s.cfg.install = none →
    (c.param = 0 → exec (.imgCommit c) s = .next ({ s with cfg := { s.cfg with
      install := some ⟨⟨0, s.time.tick, c⟩, 3, 1 - s.cfg.bank, 0, 0, 0, 0, false⟩ } } : State).flush) ∧
    ∀ page count off, 0 < count → count ≤ 160 → off + count ≤ 160 → page + count ≤ 1024 → s.hif.anyBusy page count = false →
      (s.hif.allOwned page count (hostOf c.port) = true → c.param = BitVec.ofNat 32 (16 * off + 4096 * page + 2 ^ 24 * count) →
        ∃ u : State, exec (.imgWrite c) s = .next u.flush ∧
          u = { s with mem1 := u.mem1, cfg := u.cfg, hif := s.hif.setBusy page count true } ∧
          u.cfg.install = some ⟨⟨0, s.time.tick, c⟩, 2, 1 - s.cfg.bank, page, count, off, 0, false⟩ ∧ u.cfg.relief = s.cfg.relief ∧
          ∀ w, w ≠ bankWord (1 - s.cfg.bank) + 1 → u.mem1.store.word w = s.mem1.store.word w) ∧
      ∀ b, b < 2 → s.hif.allOwned page count 0 = true → c.param = BitVec.ofNat 32 (b + 16 * off + 4096 * page + 2 ^ 24 * count) →
        exec (.imgRead c) s = .next ({ s with hif := s.hif.setBusy page count true, cfg := { s.cfg with
          install := some ⟨⟨0, s.time.tick, c⟩, 4, b, page, count, off, 0, false⟩ } } : State).flush) ∧
  ∀ (s : State) (q : Install), s.up = true → s.cfg.install = some q →
    (q.code = 2 → ∃ (u : State) (st : Nat), exec .imgWriteDone s = .next (u.finish ⟨q.job, st, 0⟩).flush ∧ (st = 0 ∨ st = 3) ∧
      u = { s with mem0 := u.mem0, mem1 := u.mem1, hif := s.hif.setBusy q.page q.count false,
                   cfg := { s.cfg with install := none, banks := u.cfg.banks } } ∧
      ∀ b, b ≠ q.bank → u.cfg.banks.nth b = s.cfg.banks.nth b) ∧
    (q.code = 3 → q.bank < 2 → ∃ t, exec .imgCommitDone s = .next t ∧ t.cfg.install = none ∧
      ((s.mem1.imgVerify s.regs q.bank).2.2 = none → (t.cfg.banks.nth q.bank).valid = false ∧
        (t.cfg.banks.nth q.bank).cause = (s.mem1.imgVerify s.regs q.bank).2.1) ∧
      ((s.mem1.imgVerify s.regs q.bank).2.2 ≠ none → (t.cfg.banks.nth q.bank).valid = true ∧ (t.cfg.banks.nth q.bank).committed = true ∧
        (s.boot.straps.testBit 7 = false → (t.cfg.banks.nth q.bank).gen = (s.cfg.gen + 1) % 2 ^ 32)))

/-- State.reset. That the model starts there, with no word written, is its choice (log 3). -/
def Obligations.ResetState : Prop :=
  State.reset.pending = [] ∧ State.reset.boot.phase = .deviceReset ∧ State.reset.coreRuns = false ∧ State.reset.up = false ∧
  State.reset.started = false ∧ (∀ port, State.reset.portLive port = false) ∧ (∀ p, p < 8 → (State.reset.seq.portals.nth p).st = .isolated) ∧
  (∀ b, b < 4 → (State.reset.dies.nth b).armed = false) ∧ State.reset.regs = .reset ∧ State.reset.memCanonical

/-- The invariant of the memories over every command of the table: whatever writes a word keeps the form in which equal memories are equal data. -/
def Obligations.StepsKeepMemoriesCanonical : Prop :=
  ∀ s t : State, s.memCanonical → step s = .next t → t.memCanonical

/-- What the machine may do to its own queue, over every command of the table. That commands wait in a queue is the model's form. -/
def Obligations.StepsTakeOneCommand : Prop :=
  ∀ s t : State, step s = .next t → t.pending = s.pending.tail

/-- No command of the table is refused, and only an operand outside its kind stops one. -/
def Obligations.WellFormedCommandsRun : Prop :=
  (∀ (c : Instr) (s : State), c.wf = true → ∃ t, exec c s = .next t) ∧
  ∀ (c : Instr) (s : State), (∃ t, exec c s = .next t) ∨ exec c s = .fault .noSuchObject
end

