-- ==== Sys2Proof/Laws/Vec.lean ====
section
/-! SUPPORT. Vectors and sorted lists: what an entry reads as after a change. -/

set_option Elab.async false

variable {α β : Type} [Inhabited α] [Inhabited β] {n : Nat}

theorem Vector.nth_upd_same (v : Vector α n) (i : Nat) (f : α → α) (h : i < n) : (v.upd i f).nth i = f (v.nth i) := by
  simp [Vector.upd, Vector.nth, h]

theorem Vector.nth_upd_ne (v : Vector α n) (i j : Nat) (f : α → α) (h : j ≠ i) : (v.upd i f).nth j = v.nth j := by
  unfold Vector.upd Vector.nth
  split
  · split
    · rw [Vector.getElem_set]; simp [Ne.symm h]
    · rfl
  · rfl

theorem Vector.nth_upd (v : Vector α n) (i j : Nat) (f : α → α) (h : i < n) :
    (v.upd i f).nth j = if j = i then f (v.nth j) else v.nth j := by
  by_cases e : j = i
  · subst e; simp [Vector.nth_upd_same v j f h]
  · simp [e, Vector.nth_upd_ne v i j f e]

theorem Vector.nth_put_same (v : Vector α n) (i : Nat) (x : α) (h : i < n) : (v.put i x).nth i = x :=
  Vector.nth_upd_same v i (fun _ => x) h

theorem Vector.nth_put_ne (v : Vector α n) (i j : Nat) (x : α) (h : j ≠ i) : (v.put i x).nth j = v.nth j :=
  Vector.nth_upd_ne v i j (fun _ => x) h

theorem Vector.nth_of_le (v : Vector α n) (i : Nat) (h : n ≤ i) : v.nth i = default := by
  simp [Vector.nth, Nat.not_lt.mpr h]

theorem Vector.nth_map (v : Vector α n) (f : α → β) (i : Nat) (h : i < n) : (v.map f).nth i = f (v.nth i) := by
  simp [Vector.nth, h]

theorem Vector.nth_mapIdx (v : Vector α n) (f : Nat → α → β) (i : Nat) (h : i < n) : (v.mapIdx f).nth i = f i (v.nth i) := by
  simp [Vector.nth, h]

theorem Vector.nth_replicate (x : α) (i : Nat) (h : i < n) : (Vector.replicate n x).nth i = x := by
  simp [Vector.nth, h]

theorem Vector.nth_ofFn (f : Fin n → α) (i : Nat) (h : i < n) : (Vector.ofFn f).nth i = f ⟨i, h⟩ := by
  simp [Vector.nth, h]

omit [Inhabited α] in
theorem Vector.upd_upd (v : Vector α n) (i : Nat) (f g : α → α) : (v.upd i f).upd i g = v.upd i (fun x => g (f x)) := by
  unfold Vector.upd
  split
  · simp
  · rfl

/-- Two changes of an entry that agree on the entry are the same change. -/
theorem Vector.upd_congr (v : Vector α n) (i : Nat) (f g : α → α) (h : f (v.nth i) = g (v.nth i)) : v.upd i f = v.upd i g := by
  unfold Vector.upd
  split
  · rename_i hi; rw [Vector.nth, dif_pos hi] at h; rw [h]
  · rfl
end

