-- ==== Sys2Proof/Laws/Memory.lean ====
section
/-! SUPPORT. The protected memories: read after write, and every operation keeps the canonical form. -/

set_option Elab.async false

namespace Sys2Proof.Machine

variable {α : Type}

/-- Every key of a list that follows key k is above it. -/
theorem keysRise_cons (k : Nat) (v : α) (l : List (Nat × α)) :
    keysRise ((k, v) :: l) = true ↔ (∀ c ∈ l, k < c.1) ∧ keysRise l = true := by
  induction l generalizing k v with
  | nil => simp [keysRise]
  | cons c l ih =>
    obtain ⟨j, w⟩ := c
    simp only [keysRise, Bool.and_eq_true, decide_eq_true_eq, List.mem_cons, forall_eq_or_imp]
    rw [ih j w]
    constructor
    · rintro ⟨h, a, b⟩; exact ⟨⟨h, fun c hc => Nat.lt_trans h (a c hc)⟩, a, b⟩
    · rintro ⟨⟨h, _⟩, a, b⟩; exact ⟨h, a, b⟩

theorem mem_insertKey (k : Nat) (v : α) (l : List (Nat × α)) (c : Nat × α) (h : c ∈ insertKey k v l) : c = (k, v) ∨ c ∈ l := by
  induction l with
  | nil => simpa [insertKey] using h
  | cons d l ih =>
    obtain ⟨j, w⟩ := d
    unfold insertKey at h
    split at h
    · rcases List.mem_cons.mp h with e | e
      · simp [e]
      · rcases ih e with e | e <;> simp [e]
    · split at h <;> rcases List.mem_cons.mp h with e | e <;> simp_all

theorem mem_eraseKey (k : Nat) (l : List (Nat × α)) (c : Nat × α) (h : c ∈ eraseKey k l) : c ∈ l := by
  induction l with
  | nil => simp [eraseKey] at h
  | cons d l ih =>
    obtain ⟨j, w⟩ := d
    unfold eraseKey at h
    split at h
    · exact List.mem_cons_of_mem _ h
    · rcases List.mem_cons.mp h with e | e
      · simp [e]
      · exact List.mem_cons_of_mem _ (ih e)

theorem keysRise_insertKey (k : Nat) (v : α) (l : List (Nat × α)) (h : keysRise l = true) : keysRise (insertKey k v l) = true := by
  induction l with
  | nil => rfl
  | cons d l ih =>
    obtain ⟨j, w⟩ := d
    rw [keysRise_cons] at h
    unfold insertKey
    split
    · rw [keysRise_cons]
      refine ⟨fun c hc => ?_, ih h.2⟩
      rcases mem_insertKey k v l c hc with e | e
      · simpa [e]
      · exact h.1 c e
    · split
      · rw [keysRise_cons]; subst_vars; exact h
      · rw [keysRise_cons, keysRise_cons]
        refine ⟨fun c hc => ?_, h⟩
        rcases List.mem_cons.mp hc with e | e
        · simp [e]; omega
        · have := h.1 c e; omega

theorem keysRise_eraseKey (k : Nat) (l : List (Nat × α)) (h : keysRise l = true) : keysRise (eraseKey k l) = true := by
  induction l with
  | nil => rfl
  | cons d l ih =>
    obtain ⟨j, w⟩ := d
    rw [keysRise_cons] at h
    unfold eraseKey
    split
    · exact h.2
    · rw [keysRise_cons]
      exact ⟨fun c hc => h.1 c (mem_eraseKey k l c hc), ih h.2⟩

theorem lookupKey_none (k : Nat) (l : List (Nat × α)) (h : ∀ c ∈ l, k < c.1) : lookupKey k l = none := by
  induction l with
  | nil => rfl
  | cons d l ih =>
    obtain ⟨j, w⟩ := d
    have hj : k < j := h (j, w) (by simp)
    unfold lookupKey
    rw [if_neg (by omega)]
    exact ih (fun c hc => h c (List.mem_cons_of_mem _ hc))

theorem lookupKey_insertKey (k a : Nat) (v : α) (l : List (Nat × α)) (h : keysRise l = true) :
    lookupKey a (insertKey k v l) = if a = k then some v else lookupKey a l := by
  induction l with
  | nil => simp [insertKey, lookupKey, eq_comm]
  | cons d l ih =>
    obtain ⟨j, w⟩ := d
    rw [keysRise_cons] at h
    unfold insertKey
    split
    · rename_i hjk
      simp only [lookupKey]
      rw [ih h.2]
      by_cases e : j = a
      · subst e; simp [Nat.ne_of_lt hjk]
      · simp [e]
    · split
      · rename_i _ e; subst e; simp only [lookupKey]; by_cases e : j = a
        · simp [e]
        · simp [e, Ne.symm e]
      · simp only [lookupKey]
        by_cases e : k = a
        · simp [e]
        · simp [e, Ne.symm e]

theorem lookupKey_eraseKey (k a : Nat) (l : List (Nat × α)) (h : keysRise l = true) :
    lookupKey a (eraseKey k l) = if a = k then none else lookupKey a l := by
  induction l with
  | nil => simp [eraseKey, lookupKey]
  | cons d l ih =>
    obtain ⟨j, w⟩ := d
    rw [keysRise_cons] at h
    unfold eraseKey
    split
    · rename_i e
      subst e
      by_cases e : a = j
      · subst e; simp [lookupKey_none a l h.1]
      · simp [e, lookupKey, Ne.symm e]
    · rename_i e
      simp only [lookupKey]
      rw [ih h.2]
      by_cases e' : j = a
      · subst e'; simp [e]
      · simp [e']

theorem Memory.wf_keys (m : Memory) (h : m.wf = true) : keysRise m.cells = true := by
  unfold Memory.wf at h; simp at h; exact h.1

theorem Memory.setWord_background (m : Memory) (w k : Nat) (x : MemWord) : (m.setWord w x).background k = m.background k := rfl

/-- A word set is what is read at its number, and no other word changes (R371). -/
theorem Memory.word_setWord (m : Memory) (w k : Nat) (x : MemWord) (h : m.wf = true) :
    (m.setWord w x).word k = if k = w then x else m.word k := by
  have hk := Memory.wf_keys m h
  unfold Memory.word
  rw [Memory.setWord_background]
  unfold Memory.setWord
  by_cases e : x = m.background w
  · simp only [e, if_true]
    rw [lookupKey_eraseKey w k m.cells hk]
    by_cases e' : k = w
    · subst e'; simp
    · simp [e']
  · simp only [e, if_false]
    rw [lookupKey_insertKey w k x m.cells hk]
    by_cases e' : k = w <;> simp [e']

/-- Setting a word keeps the canonical form. -/
theorem Memory.setWord_wf (m : Memory) (w : Nat) (x : MemWord) (h : m.wf = true) : (m.setWord w x).wf = true := by
  have hk := Memory.wf_keys m h
  have ha : ∀ c ∈ m.cells, c.2 ≠ m.background c.1 := by
    unfold Memory.wf at h
    simp only [Bool.and_eq_true, List.all_eq_true, decide_eq_true_eq] at h
    exact h.2
  unfold Memory.wf
  simp only [Bool.and_eq_true, List.all_eq_true, Memory.setWord_background]
  unfold Memory.setWord
  by_cases e : x = m.background w
  · simp only [e, if_true]
    exact ⟨keysRise_eraseKey w m.cells hk, fun c hc => decide_eq_true (ha c (mem_eraseKey w m.cells c hc))⟩
  · simp only [e, if_false]
    refine ⟨keysRise_insertKey w x m.cells hk, fun c hc => ?_⟩
    rcases mem_insertKey w x m.cells c hc with e' | e'
    · subst e'; exact decide_eq_true e
    · exact decide_eq_true (ha c e')

/-- The canonical form of a unit's store is kept by a change. -/
def MemUnit.KeepsWf (u v : MemUnit) : Prop := u.store.wf = true → v.store.wf = true

theorem MemUnit.KeepsWf.refl (u : MemUnit) : u.KeepsWf u := id
theorem MemUnit.KeepsWf.trans {u v w : MemUnit} (h : u.KeepsWf v) (k : v.KeepsWf w) : u.KeepsWf w := k ∘ h

theorem MemUnit.keepsWf_fold {ι : Type} (f : MemUnit → ι → MemUnit) (h : ∀ (u : MemUnit) (i : ι), u.KeepsWf (f u i)) (l : List ι)
    (u : MemUnit) : u.KeepsWf (l.foldl f u) := by
  induction l generalizing u with
  | nil => exact MemUnit.KeepsWf.refl u
  | cons i l ih => exact MemUnit.KeepsWf.trans (h u i) (ih (f u i))

theorem MemUnit.putBack_wf (w : Nat) (x : MemWord) (u : MemUnit) : u.KeepsWf (u.putBack w x) := Memory.setWord_wf u.store w x

theorem MemUnit.place_wf (m agent w : Nat) (x : MemWord) (u : MemUnit) : u.KeepsWf (u.place m agent w x) := by
  unfold MemUnit.place
  split
  · exact Memory.setWord_wf u.store w _
  · exact Memory.setWord_wf u.store w x

theorem MemUnit.countCe_store (rf : RegFile) (m w : Nat) (u : MemUnit) : (u.countCe rf m w).store = u.store := by
  unfold MemUnit.countCe; dsimp only; split <;> rfl

theorem MemUnit.countUe_store (m agent w : Nat) (u : MemUnit) : (u.countUe m agent w).store = u.store := rfl

theorem MemUnit.read_wf (rf : RegFile) (m agent w : Nat) (u : MemUnit) : u.KeepsWf (u.read rf m agent w).1 := by
  unfold MemUnit.read
  dsimp only
  split
  · exact id
  · exact id
  · intro h; show (MemUnit.countCe _ _ _ _).store.wf = true; rw [MemUnit.countCe_store]; exact Memory.setWord_wf _ _ _ h
  · exact id
  · exact Memory.setWord_wf u.store w _

theorem MemUnit.consume_wf (agent addr : Nat) (u : MemUnit) : u.KeepsWf (u.consume agent addr) := id

theorem MemUnit.use_wf (rf : RegFile) (m agent w : Nat) (u : MemUnit) : u.KeepsWf (u.use rf m agent w).1 := by
  unfold MemUnit.use
  dsimp only
  split
  · exact MemUnit.KeepsWf.trans (MemUnit.read_wf rf m agent w u) (MemUnit.consume_wf _ _ _)
  · exact MemUnit.read_wf rf m agent w u

theorem MemUnit.writeFull_wf (m agent w : Nat) (d : DWord) (u : MemUnit) : u.KeepsWf (u.writeFull m agent w d) :=
  MemUnit.place_wf m agent w _ u

theorem MemUnit.writeCopy_wf (m agent w : Nat) (d : DWord) (bad : Bool) (u : MemUnit) : u.KeepsWf (u.writeCopy m agent w d bad) :=
  MemUnit.place_wf m agent w _ u

/-- A partial write's look at its target leaves the store as it is. -/
theorem MemUnit.target_store (rf : RegFile) (m agent w : Nat) (u : MemUnit) : (u.target rf m agent w).1.store = u.store := by
  unfold MemUnit.target
  dsimp only
  split
  · rfl
  · rfl
  · exact MemUnit.countCe_store _ _ _ _
  · exact MemUnit.countUe_store _ _ _ _
  · rfl

theorem MemUnit.writePart_wf (rf : RegFile) (m agent w : Nat) (bs : List (Option Byte)) (bad : Bool) (u : MemUnit) :
    u.KeepsWf (u.writePart rf m agent w bs bad) := fun h =>
  MemUnit.writeCopy_wf _ _ _ _ _ _ (by rw [MemUnit.target_store]; exact h)

theorem MemUnit.writeWordBytes_wf (rf : RegFile) (m agent w : Nat) (bs : List (Option Byte)) (bad : Bool) (u : MemUnit) :
    u.KeepsWf (u.writeWordBytes rf m agent w bs bad) := by
  unfold MemUnit.writeWordBytes
  split
  · exact MemUnit.writeCopy_wf _ _ _ _ _ u
  · exact MemUnit.writePart_wf _ _ _ _ _ _ u

/-- Writing bytes, poisoned or not, keeps the canonical form. -/
theorem MemUnit.writeData_wf (rf : RegFile) (m agent addr : Nat) (bytes : List Byte) (bad : Bool) (u : MemUnit) :
    u.KeepsWf (u.writeData rf m agent addr bytes bad) :=
  MemUnit.keepsWf_fold _ (fun v _ => MemUnit.writeWordBytes_wf _ _ _ _ _ _ v) _ u

/-- Writing bytes keeps the canonical form. -/
theorem MemUnit.writeBytes_wf (rf : RegFile) (m agent addr : Nat) (bytes : List Byte) (u : MemUnit) :
    u.KeepsWf (u.writeBytes rf m agent addr bytes) :=
  MemUnit.writeData_wf rf m agent addr bytes false u

theorem MemUnit.readWords_wf (rf : RegFile) (m agent w n : Nat) (u : MemUnit) : u.KeepsWf (u.readWords rf m agent w n).1 := by
  unfold MemUnit.readWords
  suffices h : ∀ (l : List Nat) (a : MemUnit × List (DWord × Bool)), a.1.KeepsWf (l.foldl (fun a k =>
      ((a.1.read rf m agent (w + k)).1, a.2 ++ [((a.1.read rf m agent (w + k)).2.data, (a.1.read rf m agent (w + k)).2.bad)])) a).1 from
    h _ (u, [])
  intro l
  induction l with
  | nil => intro a; exact id
  | cons k l ih => intro a; exact MemUnit.KeepsWf.trans (MemUnit.read_wf rf m agent (w + k) a.1) (ih (_, _))

theorem MemUnit.useWords_wf (rf : RegFile) (m agent w n : Nat) (u : MemUnit) : u.KeepsWf (u.useWords rf m agent w n).1 := by
  unfold MemUnit.useWords
  suffices h : ∀ (l : List Nat) (a : MemUnit × List (DWord × Bool)), a.1.KeepsWf (l.foldl (fun a k =>
      ((a.1.use rf m agent (w + k)).1, a.2 ++ [((a.1.use rf m agent (w + k)).2.data, (a.1.use rf m agent (w + k)).2.bad)])) a).1 from
    h _ (u, [])
  intro l
  induction l with
  | nil => intro a; exact id
  | cons k l ih => intro a; exact MemUnit.KeepsWf.trans (MemUnit.use_wf rf m agent (w + k) a.1) (ih (_, _))

theorem MemUnit.writeWords_wf (m agent w : Nat) (l : List (DWord × Bool)) (u : MemUnit) : u.KeepsWf (u.writeWords m agent w l) := by
  unfold MemUnit.writeWords
  suffices h : ∀ (l : List (DWord × Bool)) (a : MemUnit × Nat), a.1.KeepsWf (l.foldl (fun a x =>
      (a.1.writeCopy m agent a.2 x.1 x.2, a.2 + 1)) a).1 from h l (u, w)
  intro l
  induction l with
  | nil => intro a; exact id
  | cons x l ih => intro a; exact MemUnit.KeepsWf.trans (MemUnit.writeCopy_wf m agent a.2 x.1 x.2 a.1) (ih (_, _))

theorem MemUnit.sluiceWord_wf (rf : RegFile) (m w : Nat) (u : MemUnit) : u.KeepsWf (u.sluiceWord rf m w) := by
  unfold MemUnit.sluiceWord
  dsimp only
  split <;> exact MemUnit.read_wf rf m 13 w u

theorem MemUnit.sluiceSpan_wf (rf : RegFile) (m n : Nat) (u : MemUnit) : u.KeepsWf (u.sluiceSpan rf m n) := by
  unfold MemUnit.sluiceSpan
  dsimp only
  exact MemUnit.keepsWf_fold _ (fun v _ => MemUnit.sluiceWord_wf _ _ _ v) _ u

theorem MemUnit.workingWrite_wf (place data : Nat) (u : MemUnit) : u.KeepsWf (u.workingWrite place data) := by
  unfold MemUnit.workingWrite
  split
  · exact MemUnit.place_wf _ _ _ _ u
  · exact id

end Sys2Proof.Machine
end

