-- ==== Sys2Proof/Laws/PerInstr.lean ====
section
/-! SUPPORT. Per command: the objects its operands name, and that a well-formed command names objects the chip has. -/

/-- The objects a command names, each with the number of its kind. -/
def Sys2Proof.Instr.objects (i : Sys2Proof.Instr) : List (Nat × Nat) :=
  match i with
  | .tick _ => []
  | .tickOverrun slot _ _ _ _ => [(slot, 12)]
  | .powerOn => []
  | .rstNLow _ => []
  | .vcoreBrownOut => []
  | .vioBrownOut => []
  | .clockLoss => []
  | .coreWatchdog => []
  | .coreReset => []
  | .resetRelease _ _ _ => []
  | .vdrvLow die _ => [(die, 4)]
  | .vdrvRecovered die _ => [(die, 4)]
  | .portReset port _ => [(port, 2)]
  | .portUp port _ _ => [(port, 2)]
  | .pcieConfigRequest port _ => [(port, 2)]
  | .carrierPeriodStart die half _ => [(die, 4), (half, 2)]
  | .bridgeSafeState die => [(die, 4)]
  | .leafComparatorTrip leaf phase => [(leaf, 16), (phase, 3)]
  | .stepComparatorTrip step phase => [(step, 8), (phase, 2)]
  | .edgeClassChange leaf _ => [(leaf, 16)]
  | .switchLink4Frame _ => []
  | .switchAutonomous => []
  | .switchSupervisorReset => []
  | .link6Frame _ => []
  | .lswEvaluation _ _ _ => []
  | .lswComparatorTrip ch _ => [(ch, 48)]
  | .inrushWindowEnd ch => [(ch, 48)]
  | .pauseEnd ch => [(ch, 48)]
  | .settleExpired ch => [(ch, 48)]
  | .groupUnderVoltage g _ => [(g, 6)]
  | .groupUvRecovered g _ => [(g, 6)]
  | .uvStaggeredRestart ch => [(ch, 48)]
  | .openLoadQualified ch _ => [(ch, 48)]
  | .dimEdge pin _ => [(pin, 8)]
  | .railDip g _ _ => [(g, 6)]
  | .senseUpdate g => [(g, 6)]
  | .channelBTestPulse _ => []
  | .switchDieLatch => []
  | .fieldLink5Frame _ => []
  | .fieldOutputsOff => []
  | .fieldDieSupervisorReset _ => []
  | .fieldSample _ _ _ _ => []
  | .wireBreak input _ _ => [(input, 64)]
  | .fieldSupplyState _ _ _ => []
  | .fsRecExpired _ => []
  | .fieldOutputThermal out _ => [(out, 16)]
  | .trainlineSample _ => []
  | .tlIndeterminate tl => [(tl, 6)]
  | .ilkTestPulse _ => []
  | .ilkDiscrepancy => []
  | .ilkDiscSafe => []
  | .ilkFeedbackTimeout => []
  | .chargePumpRunDown _ => []
  | .tUnlockExpired portal => [(portal, 8)]
  | .tOpenExpired portal => [(portal, 8)]
  | .tCloseExpired portal => [(portal, 8)]
  | .tLockExpired portal => [(portal, 8)]
  | .tDwellExpired portal => [(portal, 8)]
  | .tWarnExpired portal => [(portal, 8)]
  | .tRecloseExpired portal => [(portal, 8)]
  | .tObsClearExpired portal => [(portal, 8)]
  | .tStepExpired portal => [(portal, 8)]
  | .signaturePulse portal => [(portal, 8)]
  | .sigPulseJudged portal _ => [(portal, 8)]
  | .pendingOpenTaken portal => [(portal, 8)]
  | .pendDeadline portal => [(portal, 8)]
  | .departMsExpired bank => [(bank, 4)]
  | .obsTrip leaf _ => [(leaf, 16)]
  | .obsReactionDone leaf => [(leaf, 16)]
  | .ldrUvHold die => [(die, 4)]
  | .ldrUvResume die => [(die, 4)]
  | .ldrRailOv die => [(die, 4)]
  | .ldrOvRecovered die => [(die, 4)]
  | .ldrOcLatch leaf phase => [(leaf, 16), (phase, 3)]
  | .injectionRequest leaf => [(leaf, 16)]
  | .ldrRwindDone leaf _ => [(leaf, 16)]
  | .stpStall step _ => [(step, 8)]
  | .standstillReduction step => [(step, 8)]
  | .stpOcLatch step phase => [(step, 8), (phase, 2)]
  | .homingTrip step => [(step, 8)]
  | .fbkHallFault leaf cause => [(leaf, 16), (cause, 4)]
  | .fbkEncoderFault port cause => [(port, 8), (cause, 6)]
  | .errorWindowClose isEncoder source => [(source, if isEncoder then 8 else 16)]
  | .fbkZeroSpeed leaf => [(leaf, 16)]
  | .patStateSave => []
  | .canFrameStart ctl _ => [(ctl, 4)]
  | .canFrameReceived ctl _ _ => [(ctl, 4)]
  | .canTxDone ctl _ => [(ctl, 4)]
  | .canFailedAttempt ctl _ _ _ => [(ctl, 4)]
  | .canBusoffRecovered ctl => [(ctl, 4)]
  | .canProtocolException ctl => [(ctl, 4)]
  | .canModeWrite port ctl _ => [(port, 2), (ctl, 4)]
  | .canMode ctl => [(ctl, 4)]
  | .canObjEnWrite port ctl m _ => [(port, 2), (ctl, 4), (m, 4)]
  | .ntReferenceReceived _ _ => []
  | .ntMasterPeriod => []
  | .ntTimeout => []
  | .jetTail port ring _ _ => [(port, 2), (ring, 64)]
  | .jetCq port ring _ _ => [(port, 2), (ring, 64)]
  | .descriptorFetch port ring => [(port, 2), (ring, 64)]
  | .fetchCompletion port ring _ _ _ => [(port, 2), (ring, 64)]
  | .commandTimeout _ => []
  | .msixModerationTimeout port ring => [(port, 2), (ring, 64)]
  | .guaranteeRestored guarantee port => [(guarantee, 7), (port, 2)]
  | .bar2Write port _ _ => [(port, 2)]
  | .bar2Read port _ _ => [(port, 2)]
  | .dtcLoRead port _ => [(port, 2)]
  | .recSeqLoRead port which => [(port, 2), (which, 5)]
  | .registerWrite port _ _ _ _ => [(port, 2)]
  | .resyncSwitch => []
  | .clrLinkCnt => []
  | .genReset port _ => [(port, 2)]
  | .tckClrHwm => []
  | .clrOverrun => []
  | .clrCycles => []
  | .clrLatch => []
  | .clrTrips => []
  | .ldrClrOc leaf => [(leaf, 16)]
  | .cmpPosWrite port axis _ _ => [(port, 2), (axis, 24)]
  | .disarm axis _ => [(axis, 24)]
  | .stpClrOc step => [(step, 8)]
  | .stpClrCount => []
  | .clrHall leaf => [(leaf, 16)]
  | .clrEnc port => [(port, 8)]
  | .fbkClrCnt => []
  | .clrAlarm => []
  | .save => []
  | .lswClrCount => []
  | .fioClrCnt => []
  | .hifClrHwm => []
  | .clrStat port => [(port, 2)]
  | .enable port ring => [(port, 2), (ring, 64)]
  | .disable port ring => [(port, 2), (ring, 64)]
  | .memClrCount => []
  | .recClrCount => []
  | .cfgGroupOpen port => [(port, 2)]
  | .cfgGroupCommit port _ => [(port, 2)]
  | .seqOpen c => [(c.port, 2), (c.ring, 64)]
  | .seqClose c => [(c.port, 2), (c.ring, 64)]
  | .seqReopen c => [(c.port, 2), (c.ring, 64)]
  | .seqHold c => [(c.port, 2), (c.ring, 64)]
  | .crewClose c => [(c.port, 2), (c.ring, 64)]
  | .isolate c => [(c.port, 2), (c.ring, 64)]
  | .deisolate c => [(c.port, 2), (c.ring, 64)]
  | .clearFault c => [(c.port, 2), (c.ring, 64)]
  | .resetManual c => [(c.port, 2), (c.ring, 64)]
  | .armLoad c => [(c.port, 2), (c.ring, 64)]
  | .armRead c => [(c.port, 2), (c.ring, 64)]
  | .tblLoad c => [(c.port, 2), (c.ring, 64)]
  | .tblRead c => [(c.port, 2), (c.ring, 64)]
  | .accept c => [(c.port, 2), (c.ring, 64)]
  | .refuse c => [(c.port, 2), (c.ring, 64)]
  | .thaw c => [(c.port, 2), (c.ring, 64)]
  | .propRead c => [(c.port, 2), (c.ring, 64)]
  | .lswSwitch c => [(c.port, 2), (c.ring, 64)]
  | .lswRestart c => [(c.port, 2), (c.ring, 64)]
  | .setOut c => [(c.port, 2), (c.ring, 64)]
  | .txSend c => [(c.port, 2), (c.ring, 64)]
  | .rxRead c => [(c.port, 2), (c.ring, 64)]
  | .txAbort c => [(c.port, 2), (c.ring, 64)]
  | .nop c => [(c.port, 2), (c.ring, 64)]
  | .pageTake c => [(c.port, 2), (c.ring, 64)]
  | .pageGive c => [(c.port, 2), (c.ring, 64)]
  | .pagePass c => [(c.port, 2), (c.ring, 64)]
  | .pageIn c => [(c.port, 2), (c.ring, 64)]
  | .pageOut c => [(c.port, 2), (c.ring, 64)]
  | .pageTransferDone port page => [(port, 2), (page, 1024)]
  | .sluice c => [(c.port, 2), (c.ring, 64)]
  | .inject c => [(c.port, 2), (c.ring, 64)]
  | .stop c => [(c.port, 2), (c.ring, 64)]
  | .sluiceDone mem => [(mem, 2)]
  | .patrolDue mem => [(mem, 2)]
  | .weirLeak mem => [(mem, 2)]
  | .drain c => [(c.port, 2), (c.ring, 64)]
  | .drainDone port => [(port, 2)]
  | .capArm c => [(c.port, 2), (c.ring, 64)]
  | .capTrigger c => [(c.port, 2), (c.ring, 64)]
  | .capStop c => [(c.port, 2), (c.ring, 64)]
  | .captureSample unit => [(unit, 4)]
  | .recordCommit => []
  | .cycleCut portal => [(portal, 8)]
  | .reliefSet c => [(c.port, 2), (c.ring, 64)]
  | .reliefApply => []
  | .reliefTimeout => []
  | .imgWrite c => [(c.port, 2), (c.ring, 64)]
  | .imgWriteDone => []
  | .imgCommit c => [(c.port, 2), (c.ring, 64)]
  | .imgCommitDone => []
  | .imgRead c => [(c.port, 2), (c.ring, 64)]
  | .link6FrameMissed => []
  | .canReceiveError ctl _ _ => [(ctl, 4)]
  | .completionTimeout port isPageIn which => [(port, 2), (which, if isPageIn then 1024 else 64)]
  | .pageInReadCompletion port page _ _ _ => [(port, 2), (page, 1024)]
  | .msixTableWrite port vector _ => [(port, 2), (vector, 32)]

/-- Every object that a well-formed command names is one the chip has. -/
def Sys2Proof.Laws.NamesObjects.Statement (i : Sys2Proof.Instr) : Prop := i.wf = true → ∀ x ∈ i.objects, x.1 < x.2

set_option Elab.async false

namespace Sys2Proof.Laws.NamesObjects

theorem tick (x0 : TickIn) : Statement (.tick x0) := by
  intro _ x hx; simp [Instr.objects] at hx

theorem tickOverrun (x0 : Nat) (x1 : Nat) (x2 : Nat) (x3 : Nat) (x4 : TickIn) : Statement (.tickOverrun x0 x1 x2 x3 x4) := by
  intro h; simp [Instr.wf, Instr.objects] at h ⊢; omega

theorem powerOn : Statement (.powerOn) := by
  intro _ x hx; simp [Instr.objects] at hx

theorem rstNLow (x0 : Nat) : Statement (.rstNLow x0) := by
  intro _ x hx; simp [Instr.objects] at hx

theorem vcoreBrownOut : Statement (.vcoreBrownOut) := by
  intro _ x hx; simp [Instr.objects] at hx

theorem vioBrownOut : Statement (.vioBrownOut) := by
  intro _ x hx; simp [Instr.objects] at hx

theorem clockLoss : Statement (.clockLoss) := by
  intro _ x hx; simp [Instr.objects] at hx

theorem coreWatchdog : Statement (.coreWatchdog) := by
  intro _ x hx; simp [Instr.objects] at hx

theorem coreReset : Statement (.coreReset) := by
  intro _ x hx; simp [Instr.objects] at hx

theorem resetRelease (x0 : Nat) (x1 : Nat) (x2 : Nat) : Statement (.resetRelease x0 x1 x2) := by
  intro _ x hx; simp [Instr.objects] at hx

theorem vdrvLow (x0 : Nat) (x1 : Nat) : Statement (.vdrvLow x0 x1) := by
  intro h; simpa [Instr.wf, Instr.objects, Cmd.wf] using h

theorem vdrvRecovered (x0 : Nat) (x1 : Nat) : Statement (.vdrvRecovered x0 x1) := by
  intro h; simpa [Instr.wf, Instr.objects, Cmd.wf] using h

theorem portReset (x0 : Nat) (x1 : PortResetKind) : Statement (.portReset x0 x1) := by
  intro h; simpa [Instr.wf, Instr.objects, Cmd.wf] using h

theorem portUp (x0 : Nat) (x1 : Nat) (x2 : Nat) : Statement (.portUp x0 x1 x2) := by
  intro h; simpa [Instr.wf, Instr.objects, Cmd.wf] using h

theorem pcieConfigRequest (x0 : Nat) (x1 : CfgReq) : Statement (.pcieConfigRequest x0 x1) := by
  intro h; simpa [Instr.wf, Instr.objects, Cmd.wf] using h

theorem carrierPeriodStart (x0 : Nat) (x1 : Nat) (x2 : Bool) : Statement (.carrierPeriodStart x0 x1 x2) := by
  intro h; simpa [Instr.wf, Instr.objects, Cmd.wf] using h

theorem bridgeSafeState (x0 : Nat) : Statement (.bridgeSafeState x0) := by
  intro h; simpa [Instr.wf, Instr.objects, Cmd.wf] using h

theorem leafComparatorTrip (x0 : Nat) (x1 : Nat) : Statement (.leafComparatorTrip x0 x1) := by
  intro h; simpa [Instr.wf, Instr.objects, Cmd.wf] using h

theorem stepComparatorTrip (x0 : Nat) (x1 : Nat) : Statement (.stepComparatorTrip x0 x1) := by
  intro h; simpa [Instr.wf, Instr.objects, Cmd.wf] using h

theorem edgeClassChange (x0 : Nat) (x1 : EdgeLoop) : Statement (.edgeClassChange x0 x1) := by
  intro h; simpa [Instr.wf, Instr.objects, Cmd.wf] using h

theorem switchLink4Frame (x0 : Bool) : Statement (.switchLink4Frame x0) := by
  intro _ x hx; simp [Instr.objects] at hx

theorem switchAutonomous : Statement (.switchAutonomous) := by
  intro _ x hx; simp [Instr.objects] at hx

theorem switchSupervisorReset : Statement (.switchSupervisorReset) := by
  intro _ x hx; simp [Instr.objects] at hx

theorem link6Frame (x0 : Bool) : Statement (.link6Frame x0) := by
  intro _ x hx; simp [Instr.objects] at hx

theorem lswEvaluation (x0 : List Int) (x1 : List Int) (x2 : List Nat) : Statement (.lswEvaluation x0 x1 x2) := by
  intro _ x hx; simp [Instr.objects] at hx

theorem lswComparatorTrip (x0 : Nat) (x1 : Int) : Statement (.lswComparatorTrip x0 x1) := by
  intro h; simpa [Instr.wf, Instr.objects, Cmd.wf] using h

theorem inrushWindowEnd (x0 : Nat) : Statement (.inrushWindowEnd x0) := by
  intro h; simpa [Instr.wf, Instr.objects, Cmd.wf] using h

theorem pauseEnd (x0 : Nat) : Statement (.pauseEnd x0) := by
  intro h; simpa [Instr.wf, Instr.objects, Cmd.wf] using h

theorem settleExpired (x0 : Nat) : Statement (.settleExpired x0) := by
  intro h; simpa [Instr.wf, Instr.objects, Cmd.wf] using h

theorem groupUnderVoltage (x0 : Nat) (x1 : Nat) : Statement (.groupUnderVoltage x0 x1) := by
  intro h; simpa [Instr.wf, Instr.objects, Cmd.wf] using h

theorem groupUvRecovered (x0 : Nat) (x1 : Nat) : Statement (.groupUvRecovered x0 x1) := by
  intro h; simpa [Instr.wf, Instr.objects, Cmd.wf] using h

theorem uvStaggeredRestart (x0 : Nat) : Statement (.uvStaggeredRestart x0) := by
  intro h; simpa [Instr.wf, Instr.objects, Cmd.wf] using h

theorem openLoadQualified (x0 : Nat) (x1 : Bool) : Statement (.openLoadQualified x0 x1) := by
  intro h; simpa [Instr.wf, Instr.objects, Cmd.wf] using h

theorem dimEdge (x0 : Nat) (x1 : Bool) : Statement (.dimEdge x0 x1) := by
  intro h; simpa [Instr.wf, Instr.objects, Cmd.wf] using h

theorem railDip (x0 : Nat) (x1 : Nat) (x2 : Nat) : Statement (.railDip x0 x1 x2) := by
  intro h; simpa [Instr.wf, Instr.objects, Cmd.wf] using h

theorem senseUpdate (x0 : Nat) : Statement (.senseUpdate x0) := by
  intro h; simpa [Instr.wf, Instr.objects, Cmd.wf] using h

theorem channelBTestPulse (x0 : Bool) : Statement (.channelBTestPulse x0) := by
  intro _ x hx; simp [Instr.objects] at hx

theorem switchDieLatch : Statement (.switchDieLatch) := by
  intro _ x hx; simp [Instr.objects] at hx

theorem fieldLink5Frame (x0 : Bool) : Statement (.fieldLink5Frame x0) := by
  intro _ x hx; simp [Instr.objects] at hx

theorem fieldOutputsOff : Statement (.fieldOutputsOff) := by
  intro _ x hx; simp [Instr.objects] at hx

theorem fieldDieSupervisorReset (x0 : Bool) : Statement (.fieldDieSupervisorReset x0) := by
  intro _ x hx; simp [Instr.objects] at hx

theorem fieldSample (x0 : List Nat) (x1 : List Nat) (x2 : Nat) (x3 : List Nat) : Statement (.fieldSample x0 x1 x2 x3) := by
  intro _ x hx; simp [Instr.objects] at hx

theorem wireBreak (x0 : Nat) (x1 : Bool) (x2 : Nat) : Statement (.wireBreak x0 x1 x2) := by
  intro h; simpa [Instr.wf, Instr.objects, Cmd.wf] using h

theorem fieldSupplyState (x0 : Bool) (x1 : Bool) (x2 : Nat) : Statement (.fieldSupplyState x0 x1 x2) := by
  intro _ x hx; simp [Instr.objects] at hx

theorem fsRecExpired (x0 : Nat) : Statement (.fsRecExpired x0) := by
  intro _ x hx; simp [Instr.objects] at hx

theorem fieldOutputThermal (x0 : Nat) (x1 : Bool) : Statement (.fieldOutputThermal x0 x1) := by
  intro h; simpa [Instr.wf, Instr.objects, Cmd.wf] using h

theorem trainlineSample (x0 : List Nat) : Statement (.trainlineSample x0) := by
  intro _ x hx; simp [Instr.objects] at hx

theorem tlIndeterminate (x0 : Nat) : Statement (.tlIndeterminate x0) := by
  intro h; simpa [Instr.wf, Instr.objects, Cmd.wf] using h

theorem ilkTestPulse (x0 : Bool) : Statement (.ilkTestPulse x0) := by
  intro _ x hx; simp [Instr.objects] at hx

theorem ilkDiscrepancy : Statement (.ilkDiscrepancy) := by
  intro _ x hx; simp [Instr.objects] at hx

theorem ilkDiscSafe : Statement (.ilkDiscSafe) := by
  intro _ x hx; simp [Instr.objects] at hx

theorem ilkFeedbackTimeout : Statement (.ilkFeedbackTimeout) := by
  intro _ x hx; simp [Instr.objects] at hx

theorem chargePumpRunDown (x0 : Bool) : Statement (.chargePumpRunDown x0) := by
  intro _ x hx; simp [Instr.objects] at hx

theorem tUnlockExpired (x0 : Nat) : Statement (.tUnlockExpired x0) := by
  intro h; simpa [Instr.wf, Instr.objects, Cmd.wf] using h

theorem tOpenExpired (x0 : Nat) : Statement (.tOpenExpired x0) := by
  intro h; simpa [Instr.wf, Instr.objects, Cmd.wf] using h

theorem tCloseExpired (x0 : Nat) : Statement (.tCloseExpired x0) := by
  intro h; simpa [Instr.wf, Instr.objects, Cmd.wf] using h

theorem tLockExpired (x0 : Nat) : Statement (.tLockExpired x0) := by
  intro h; simpa [Instr.wf, Instr.objects, Cmd.wf] using h

theorem tDwellExpired (x0 : Nat) : Statement (.tDwellExpired x0) := by
  intro h; simpa [Instr.wf, Instr.objects, Cmd.wf] using h

theorem tWarnExpired (x0 : Nat) : Statement (.tWarnExpired x0) := by
  intro h; simpa [Instr.wf, Instr.objects, Cmd.wf] using h

theorem tRecloseExpired (x0 : Nat) : Statement (.tRecloseExpired x0) := by
  intro h; simpa [Instr.wf, Instr.objects, Cmd.wf] using h

theorem tObsClearExpired (x0 : Nat) : Statement (.tObsClearExpired x0) := by
  intro h; simpa [Instr.wf, Instr.objects, Cmd.wf] using h

theorem tStepExpired (x0 : Nat) : Statement (.tStepExpired x0) := by
  intro h; simpa [Instr.wf, Instr.objects, Cmd.wf] using h

theorem signaturePulse (x0 : Nat) : Statement (.signaturePulse x0) := by
  intro h; simpa [Instr.wf, Instr.objects, Cmd.wf] using h

theorem sigPulseJudged (x0 : Nat) (x1 : Int) : Statement (.sigPulseJudged x0 x1) := by
  intro h; simpa [Instr.wf, Instr.objects, Cmd.wf] using h

theorem pendingOpenTaken (x0 : Nat) : Statement (.pendingOpenTaken x0) := by
  intro h; simpa [Instr.wf, Instr.objects, Cmd.wf] using h

theorem pendDeadline (x0 : Nat) : Statement (.pendDeadline x0) := by
  intro h; simpa [Instr.wf, Instr.objects, Cmd.wf] using h

theorem departMsExpired (x0 : Nat) : Statement (.departMsExpired x0) := by
  intro h; simpa [Instr.wf, Instr.objects, Cmd.wf] using h

theorem obsTrip (x0 : Nat) (x1 : Nat) : Statement (.obsTrip x0 x1) := by
  intro h; simpa [Instr.wf, Instr.objects, Cmd.wf] using h

theorem obsReactionDone (x0 : Nat) : Statement (.obsReactionDone x0) := by
  intro h; simpa [Instr.wf, Instr.objects, Cmd.wf] using h

theorem ldrUvHold (x0 : Nat) : Statement (.ldrUvHold x0) := by
  intro h; simpa [Instr.wf, Instr.objects, Cmd.wf] using h

theorem ldrUvResume (x0 : Nat) : Statement (.ldrUvResume x0) := by
  intro h; simpa [Instr.wf, Instr.objects, Cmd.wf] using h

theorem ldrRailOv (x0 : Nat) : Statement (.ldrRailOv x0) := by
  intro h; simpa [Instr.wf, Instr.objects, Cmd.wf] using h

theorem ldrOvRecovered (x0 : Nat) : Statement (.ldrOvRecovered x0) := by
  intro h; simpa [Instr.wf, Instr.objects, Cmd.wf] using h

theorem ldrOcLatch (x0 : Nat) (x1 : Nat) : Statement (.ldrOcLatch x0 x1) := by
  intro h; simpa [Instr.wf, Instr.objects, Cmd.wf] using h

theorem injectionRequest (x0 : Nat) : Statement (.injectionRequest x0) := by
  intro h; simpa [Instr.wf, Instr.objects, Cmd.wf] using h

theorem ldrRwindDone (x0 : Nat) (x1 : Bool) : Statement (.ldrRwindDone x0 x1) := by
  intro h; simpa [Instr.wf, Instr.objects, Cmd.wf] using h

theorem stpStall (x0 : Nat) (x1 : Bool) : Statement (.stpStall x0 x1) := by
  intro h; simpa [Instr.wf, Instr.objects, Cmd.wf] using h

theorem standstillReduction (x0 : Nat) : Statement (.standstillReduction x0) := by
  intro h; simpa [Instr.wf, Instr.objects, Cmd.wf] using h

theorem stpOcLatch (x0 : Nat) (x1 : Nat) : Statement (.stpOcLatch x0 x1) := by
  intro h; simpa [Instr.wf, Instr.objects, Cmd.wf] using h

theorem homingTrip (x0 : Nat) : Statement (.homingTrip x0) := by
  intro h; simpa [Instr.wf, Instr.objects, Cmd.wf] using h

theorem fbkHallFault (x0 : Nat) (x1 : Nat) : Statement (.fbkHallFault x0 x1) := by
  intro h; simp [Instr.wf, Instr.objects] at h ⊢; omega

theorem fbkEncoderFault (x0 : Nat) (x1 : Nat) : Statement (.fbkEncoderFault x0 x1) := by
  intro h; simp [Instr.wf, Instr.objects] at h ⊢; omega

theorem errorWindowClose (x0 : Bool) (x1 : Nat) : Statement (.errorWindowClose x0 x1) := by
  intro h; simpa [Instr.wf, Instr.objects, Cmd.wf] using h

theorem fbkZeroSpeed (x0 : Nat) : Statement (.fbkZeroSpeed x0) := by
  intro h; simpa [Instr.wf, Instr.objects, Cmd.wf] using h

theorem patStateSave : Statement (.patStateSave) := by
  intro _ x hx; simp [Instr.objects] at hx

theorem canFrameStart (x0 : Nat) (x1 : Nat) : Statement (.canFrameStart x0 x1) := by
  intro h; simpa [Instr.wf, Instr.objects, Cmd.wf] using h

theorem canFrameReceived (x0 : Nat) (x1 : CanFrame) (x2 : Nat) : Statement (.canFrameReceived x0 x1 x2) := by
  intro h; simpa [Instr.wf, Instr.objects, Cmd.wf] using h

theorem canTxDone (x0 : Nat) (x1 : Nat) : Statement (.canTxDone x0 x1) := by
  intro h; simpa [Instr.wf, Instr.objects, Cmd.wf] using h

theorem canFailedAttempt (x0 : Nat) (x1 : Nat) (x2 : Bool) (x3 : Bool) : Statement (.canFailedAttempt x0 x1 x2 x3) := by
  intro h; simpa [Instr.wf, Instr.objects, Cmd.wf] using h

theorem canBusoffRecovered (x0 : Nat) : Statement (.canBusoffRecovered x0) := by
  intro h; simpa [Instr.wf, Instr.objects, Cmd.wf] using h

theorem canProtocolException (x0 : Nat) : Statement (.canProtocolException x0) := by
  intro h; simpa [Instr.wf, Instr.objects, Cmd.wf] using h

theorem canModeWrite (x0 : Nat) (x1 : Nat) (x2 : Word) : Statement (.canModeWrite x0 x1 x2) := by
  intro h; simpa [Instr.wf, Instr.objects, Cmd.wf] using h

theorem canMode (x0 : Nat) : Statement (.canMode x0) := by
  intro h; simpa [Instr.wf, Instr.objects, Cmd.wf] using h

theorem canObjEnWrite (x0 : Nat) (x1 : Nat) (x2 : Nat) (x3 : Word) : Statement (.canObjEnWrite x0 x1 x2 x3) := by
  intro h; simp [Instr.wf, Instr.objects] at h ⊢; omega

theorem ntReferenceReceived (x0 : CanFrame) (x1 : Nat) : Statement (.ntReferenceReceived x0 x1) := by
  intro _ x hx; simp [Instr.objects] at hx

theorem ntMasterPeriod : Statement (.ntMasterPeriod) := by
  intro _ x hx; simp [Instr.objects] at hx

theorem ntTimeout : Statement (.ntTimeout) := by
  intro _ x hx; simp [Instr.objects] at hx

theorem jetTail (x0 : Nat) (x1 : Nat) (x2 : Word) (x3 : Nat) : Statement (.jetTail x0 x1 x2 x3) := by
  intro h; simpa [Instr.wf, Instr.objects, Cmd.wf] using h

theorem jetCq (x0 : Nat) (x1 : Nat) (x2 : Word) (x3 : Nat) : Statement (.jetCq x0 x1 x2 x3) := by
  intro h; simpa [Instr.wf, Instr.objects, Cmd.wf] using h

theorem descriptorFetch (x0 : Nat) (x1 : Nat) : Statement (.descriptorFetch x0 x1) := by
  intro h; simpa [Instr.wf, Instr.objects, Cmd.wf] using h

theorem fetchCompletion (x0 : Nat) (x1 : Nat) (x2 : List (List Word)) (x3 : Bool) (x4 : Nat) : Statement (.fetchCompletion x0 x1 x2 x3 x4) := by
  intro h; simp [Instr.wf, Instr.objects] at h ⊢; omega

theorem commandTimeout (x0 : Nat) : Statement (.commandTimeout x0) := by
  intro _ x hx; simp [Instr.objects] at hx

theorem msixModerationTimeout (x0 : Nat) (x1 : Nat) : Statement (.msixModerationTimeout x0 x1) := by
  intro h; simpa [Instr.wf, Instr.objects, Cmd.wf] using h

theorem guaranteeRestored (x0 : Nat) (x1 : Nat) : Statement (.guaranteeRestored x0 x1) := by
  intro h; simpa [Instr.wf, Instr.objects, Cmd.wf] using h

theorem bar2Write (x0 : Nat) (x1 : Nat) (x2 : List Byte) : Statement (.bar2Write x0 x1 x2) := by
  intro h; simpa [Instr.wf, Instr.objects, Cmd.wf] using h

theorem bar2Read (x0 : Nat) (x1 : Nat) (x2 : Nat) : Statement (.bar2Read x0 x1 x2) := by
  intro h; simpa [Instr.wf, Instr.objects, Cmd.wf] using h

theorem dtcLoRead (x0 : Nat) (x1 : Nat) : Statement (.dtcLoRead x0 x1) := by
  intro h; simpa [Instr.wf, Instr.objects, Cmd.wf] using h

theorem recSeqLoRead (x0 : Nat) (x1 : Nat) : Statement (.recSeqLoRead x0 x1) := by
  intro h; simpa [Instr.wf, Instr.objects, Cmd.wf] using h

theorem registerWrite (x0 : Nat) (x1 : Nat) (x2 : Word) (x3 : Nat) (x4 : Nat) : Statement (.registerWrite x0 x1 x2 x3 x4) := by
  intro h; simpa [Instr.wf, Instr.objects, Cmd.wf] using h

theorem resyncSwitch : Statement (.resyncSwitch) := by
  intro _ x hx; simp [Instr.objects] at hx

theorem clrLinkCnt : Statement (.clrLinkCnt) := by
  intro _ x hx; simp [Instr.objects] at hx

theorem genReset (x0 : Nat) (x1 : Word) : Statement (.genReset x0 x1) := by
  intro h; simpa [Instr.wf, Instr.objects, Cmd.wf] using h

theorem tckClrHwm : Statement (.tckClrHwm) := by
  intro _ x hx; simp [Instr.objects] at hx

theorem clrOverrun : Statement (.clrOverrun) := by
  intro _ x hx; simp [Instr.objects] at hx

theorem clrCycles : Statement (.clrCycles) := by
  intro _ x hx; simp [Instr.objects] at hx

theorem clrLatch : Statement (.clrLatch) := by
  intro _ x hx; simp [Instr.objects] at hx

theorem clrTrips : Statement (.clrTrips) := by
  intro _ x hx; simp [Instr.objects] at hx

theorem ldrClrOc (x0 : Nat) : Statement (.ldrClrOc x0) := by
  intro h; simpa [Instr.wf, Instr.objects, Cmd.wf] using h

theorem cmpPosWrite (x0 : Nat) (x1 : Nat) (x2 : Word) (x3 : Nat) : Statement (.cmpPosWrite x0 x1 x2 x3) := by
  intro h; simpa [Instr.wf, Instr.objects, Cmd.wf] using h

theorem disarm (x0 : Nat) (x1 : Nat) : Statement (.disarm x0 x1) := by
  intro h; simpa [Instr.wf, Instr.objects, Cmd.wf] using h

theorem stpClrOc (x0 : Nat) : Statement (.stpClrOc x0) := by
  intro h; simpa [Instr.wf, Instr.objects, Cmd.wf] using h

theorem stpClrCount : Statement (.stpClrCount) := by
  intro _ x hx; simp [Instr.objects] at hx

theorem clrHall (x0 : Nat) : Statement (.clrHall x0) := by
  intro h; simpa [Instr.wf, Instr.objects, Cmd.wf] using h

theorem clrEnc (x0 : Nat) : Statement (.clrEnc x0) := by
  intro h; simpa [Instr.wf, Instr.objects, Cmd.wf] using h

theorem fbkClrCnt : Statement (.fbkClrCnt) := by
  intro _ x hx; simp [Instr.objects] at hx

theorem clrAlarm : Statement (.clrAlarm) := by
  intro _ x hx; simp [Instr.objects] at hx

theorem save : Statement (.save) := by
  intro _ x hx; simp [Instr.objects] at hx

theorem lswClrCount : Statement (.lswClrCount) := by
  intro _ x hx; simp [Instr.objects] at hx

theorem fioClrCnt : Statement (.fioClrCnt) := by
  intro _ x hx; simp [Instr.objects] at hx

theorem hifClrHwm : Statement (.hifClrHwm) := by
  intro _ x hx; simp [Instr.objects] at hx

theorem clrStat (x0 : Nat) : Statement (.clrStat x0) := by
  intro h; simpa [Instr.wf, Instr.objects, Cmd.wf] using h

theorem enable (x0 : Nat) (x1 : Nat) : Statement (.enable x0 x1) := by
  intro h; simpa [Instr.wf, Instr.objects, Cmd.wf] using h

theorem disable (x0 : Nat) (x1 : Nat) : Statement (.disable x0 x1) := by
  intro h; simpa [Instr.wf, Instr.objects, Cmd.wf] using h

theorem memClrCount : Statement (.memClrCount) := by
  intro _ x hx; simp [Instr.objects] at hx

theorem recClrCount : Statement (.recClrCount) := by
  intro _ x hx; simp [Instr.objects] at hx

theorem cfgGroupOpen (x0 : Nat) : Statement (.cfgGroupOpen x0) := by
  intro h; simpa [Instr.wf, Instr.objects, Cmd.wf] using h

theorem cfgGroupCommit (x0 : Nat) (x1 : Nat) : Statement (.cfgGroupCommit x0 x1) := by
  intro h; simpa [Instr.wf, Instr.objects, Cmd.wf] using h

theorem seqOpen (x0 : Cmd) : Statement (.seqOpen x0) := by
  intro h; simpa [Instr.wf, Instr.objects, Cmd.wf] using h

theorem seqClose (x0 : Cmd) : Statement (.seqClose x0) := by
  intro h; simpa [Instr.wf, Instr.objects, Cmd.wf] using h

theorem seqReopen (x0 : Cmd) : Statement (.seqReopen x0) := by
  intro h; simpa [Instr.wf, Instr.objects, Cmd.wf] using h

theorem seqHold (x0 : Cmd) : Statement (.seqHold x0) := by
  intro h; simpa [Instr.wf, Instr.objects, Cmd.wf] using h

theorem crewClose (x0 : Cmd) : Statement (.crewClose x0) := by
  intro h; simpa [Instr.wf, Instr.objects, Cmd.wf] using h

theorem isolate (x0 : Cmd) : Statement (.isolate x0) := by
  intro h; simpa [Instr.wf, Instr.objects, Cmd.wf] using h

theorem deisolate (x0 : Cmd) : Statement (.deisolate x0) := by
  intro h; simpa [Instr.wf, Instr.objects, Cmd.wf] using h

theorem clearFault (x0 : Cmd) : Statement (.clearFault x0) := by
  intro h; simpa [Instr.wf, Instr.objects, Cmd.wf] using h

theorem resetManual (x0 : Cmd) : Statement (.resetManual x0) := by
  intro h; simpa [Instr.wf, Instr.objects, Cmd.wf] using h

theorem armLoad (x0 : Cmd) : Statement (.armLoad x0) := by
  intro h; simpa [Instr.wf, Instr.objects, Cmd.wf] using h

theorem armRead (x0 : Cmd) : Statement (.armRead x0) := by
  intro h; simpa [Instr.wf, Instr.objects, Cmd.wf] using h

theorem tblLoad (x0 : Cmd) : Statement (.tblLoad x0) := by
  intro h; simpa [Instr.wf, Instr.objects, Cmd.wf] using h

theorem tblRead (x0 : Cmd) : Statement (.tblRead x0) := by
  intro h; simpa [Instr.wf, Instr.objects, Cmd.wf] using h

theorem accept (x0 : Cmd) : Statement (.accept x0) := by
  intro h; simpa [Instr.wf, Instr.objects, Cmd.wf] using h

theorem refuse (x0 : Cmd) : Statement (.refuse x0) := by
  intro h; simpa [Instr.wf, Instr.objects, Cmd.wf] using h

theorem thaw (x0 : Cmd) : Statement (.thaw x0) := by
  intro h; simpa [Instr.wf, Instr.objects, Cmd.wf] using h

theorem propRead (x0 : Cmd) : Statement (.propRead x0) := by
  intro h; simpa [Instr.wf, Instr.objects, Cmd.wf] using h

theorem lswSwitch (x0 : Cmd) : Statement (.lswSwitch x0) := by
  intro h; simpa [Instr.wf, Instr.objects, Cmd.wf] using h

theorem lswRestart (x0 : Cmd) : Statement (.lswRestart x0) := by
  intro h; simpa [Instr.wf, Instr.objects, Cmd.wf] using h

theorem setOut (x0 : Cmd) : Statement (.setOut x0) := by
  intro h; simpa [Instr.wf, Instr.objects, Cmd.wf] using h

theorem txSend (x0 : Cmd) : Statement (.txSend x0) := by
  intro h; simpa [Instr.wf, Instr.objects, Cmd.wf] using h

theorem rxRead (x0 : Cmd) : Statement (.rxRead x0) := by
  intro h; simpa [Instr.wf, Instr.objects, Cmd.wf] using h

theorem txAbort (x0 : Cmd) : Statement (.txAbort x0) := by
  intro h; simpa [Instr.wf, Instr.objects, Cmd.wf] using h

theorem nop (x0 : Cmd) : Statement (.nop x0) := by
  intro h; simpa [Instr.wf, Instr.objects, Cmd.wf] using h

theorem pageTake (x0 : Cmd) : Statement (.pageTake x0) := by
  intro h; simpa [Instr.wf, Instr.objects, Cmd.wf] using h

theorem pageGive (x0 : Cmd) : Statement (.pageGive x0) := by
  intro h; simpa [Instr.wf, Instr.objects, Cmd.wf] using h

theorem pagePass (x0 : Cmd) : Statement (.pagePass x0) := by
  intro h; simpa [Instr.wf, Instr.objects, Cmd.wf] using h

theorem pageIn (x0 : Cmd) : Statement (.pageIn x0) := by
  intro h; simpa [Instr.wf, Instr.objects, Cmd.wf] using h

theorem pageOut (x0 : Cmd) : Statement (.pageOut x0) := by
  intro h; simpa [Instr.wf, Instr.objects, Cmd.wf] using h

theorem pageTransferDone (x0 : Nat) (x1 : Nat) : Statement (.pageTransferDone x0 x1) := by
  intro h; simpa [Instr.wf, Instr.objects, Cmd.wf] using h

theorem sluice (x0 : Cmd) : Statement (.sluice x0) := by
  intro h; simpa [Instr.wf, Instr.objects, Cmd.wf] using h

theorem inject (x0 : Cmd) : Statement (.inject x0) := by
  intro h; simpa [Instr.wf, Instr.objects, Cmd.wf] using h

theorem stop (x0 : Cmd) : Statement (.stop x0) := by
  intro h; simpa [Instr.wf, Instr.objects, Cmd.wf] using h

theorem sluiceDone (x0 : Nat) : Statement (.sluiceDone x0) := by
  intro h; simpa [Instr.wf, Instr.objects, Cmd.wf] using h

theorem patrolDue (x0 : Nat) : Statement (.patrolDue x0) := by
  intro h; simpa [Instr.wf, Instr.objects, Cmd.wf] using h

theorem weirLeak (x0 : Nat) : Statement (.weirLeak x0) := by
  intro h; simpa [Instr.wf, Instr.objects, Cmd.wf] using h

theorem drain (x0 : Cmd) : Statement (.drain x0) := by
  intro h; simpa [Instr.wf, Instr.objects, Cmd.wf] using h

theorem drainDone (x0 : Nat) : Statement (.drainDone x0) := by
  intro h; simpa [Instr.wf, Instr.objects, Cmd.wf] using h

theorem capArm (x0 : Cmd) : Statement (.capArm x0) := by
  intro h; simpa [Instr.wf, Instr.objects, Cmd.wf] using h

theorem capTrigger (x0 : Cmd) : Statement (.capTrigger x0) := by
  intro h; simpa [Instr.wf, Instr.objects, Cmd.wf] using h

theorem capStop (x0 : Cmd) : Statement (.capStop x0) := by
  intro h; simpa [Instr.wf, Instr.objects, Cmd.wf] using h

theorem captureSample (x0 : Nat) : Statement (.captureSample x0) := by
  intro h; simpa [Instr.wf, Instr.objects, Cmd.wf] using h

theorem recordCommit : Statement (.recordCommit) := by
  intro _ x hx; simp [Instr.objects] at hx

theorem cycleCut (x0 : Nat) : Statement (.cycleCut x0) := by
  intro h; simpa [Instr.wf, Instr.objects, Cmd.wf] using h

theorem reliefSet (x0 : Cmd) : Statement (.reliefSet x0) := by
  intro h; simpa [Instr.wf, Instr.objects, Cmd.wf] using h

theorem reliefApply : Statement (.reliefApply) := by
  intro _ x hx; simp [Instr.objects] at hx

theorem reliefTimeout : Statement (.reliefTimeout) := by
  intro _ x hx; simp [Instr.objects] at hx

theorem imgWrite (x0 : Cmd) : Statement (.imgWrite x0) := by
  intro h; simpa [Instr.wf, Instr.objects, Cmd.wf] using h

theorem imgWriteDone : Statement (.imgWriteDone) := by
  intro _ x hx; simp [Instr.objects] at hx

theorem imgCommit (x0 : Cmd) : Statement (.imgCommit x0) := by
  intro h; simpa [Instr.wf, Instr.objects, Cmd.wf] using h

theorem imgCommitDone : Statement (.imgCommitDone) := by
  intro _ x hx; simp [Instr.objects] at hx

theorem imgRead (x0 : Cmd) : Statement (.imgRead x0) := by
  intro h; simpa [Instr.wf, Instr.objects, Cmd.wf] using h

theorem link6FrameMissed : Statement (.link6FrameMissed) := by
  intro _ x hx; simp [Instr.objects] at hx

theorem canReceiveError (x0 : Nat) (x1 : Nat) (x2 : Bool) : Statement (.canReceiveError x0 x1 x2) := by
  intro h; simpa [Instr.wf, Instr.objects, Cmd.wf] using h

theorem completionTimeout (x0 : Nat) (x1 : Bool) (x2 : Nat) : Statement (.completionTimeout x0 x1 x2) := by
  intro h; simpa [Instr.wf, Instr.objects, Cmd.wf] using h

theorem pageInReadCompletion (x0 : Nat) (x1 : Nat) (x2 : Nat) (x3 : List Byte) (x4 : Bool) : Statement (.pageInReadCompletion x0 x1 x2 x3 x4) := by
  intro h; simpa [Instr.wf, Instr.objects, Cmd.wf] using h

theorem msixTableWrite (x0 : Nat) (x1 : Nat) (x2 : Bool) : Statement (.msixTableWrite x0 x1 x2) := by
  intro h; simpa [Instr.wf, Instr.objects, Cmd.wf] using h

end Sys2Proof.Laws.NamesObjects
end

