-- ==== Sys2Proof/Laws/State.lean ====
section
/-! SUPPORT. Each field of the state after each named update. -/

set_option Elab.async false

namespace Sys2Proof.Machine

@[simp] theorem State.leaf_pending (l : Nat) (f : Leaf → Leaf) (s : State) : (s.leaf l f).pending = s.pending := rfl
@[simp] theorem State.leaf_freeCount (l : Nat) (f : Leaf → Leaf) (s : State) : (s.leaf l f).freeCount = s.freeCount := rfl
@[simp] theorem State.leaf_out (l : Nat) (f : Leaf → Leaf) (s : State) : (s.leaf l f).out = s.out := rfl
@[simp] theorem State.leaf_regs (l : Nat) (f : Leaf → Leaf) (s : State) : (s.leaf l f).regs = s.regs := rfl
@[simp] theorem State.leaf_boot (l : Nat) (f : Leaf → Leaf) (s : State) : (s.leaf l f).boot = s.boot := rfl
@[simp] theorem State.leaf_time (l : Nat) (f : Leaf → Leaf) (s : State) : (s.leaf l f).time = s.time := rfl
@[simp] theorem State.leaf_cfg (l : Nat) (f : Leaf → Leaf) (s : State) : (s.leaf l f).cfg = s.cfg := rfl
@[simp] theorem State.leaf_links (l : Nat) (f : Leaf → Leaf) (s : State) : (s.leaf l f).links = s.links := rfl
@[simp] theorem State.leaf_seq (l : Nat) (f : Leaf → Leaf) (s : State) : (s.leaf l f).seq = s.seq := rfl
@[simp] theorem State.leaf_ilk (l : Nat) (f : Leaf → Leaf) (s : State) : (s.leaf l f).ilk = s.ilk := rfl
@[simp] theorem State.leaf_sw (l : Nat) (f : Leaf → Leaf) (s : State) : (s.leaf l f).sw = s.sw := rfl
@[simp] theorem State.leaf_field (l : Nat) (f : Leaf → Leaf) (s : State) : (s.leaf l f).field = s.field := rfl
@[simp] theorem State.leaf_lsw (l : Nat) (f : Leaf → Leaf) (s : State) : (s.leaf l f).lsw = s.lsw := rfl
@[simp] theorem State.leaf_fio (l : Nat) (f : Leaf → Leaf) (s : State) : (s.leaf l f).fio = s.fio := rfl
@[simp] theorem State.leaf_encs (l : Nat) (f : Leaf → Leaf) (s : State) : (s.leaf l f).encs = s.encs := rfl
@[simp] theorem State.leaf_steps (l : Nat) (f : Leaf → Leaf) (s : State) : (s.leaf l f).steps = s.steps := rfl
@[simp] theorem State.leaf_moves (l : Nat) (f : Leaf → Leaf) (s : State) : (s.leaf l f).moves = s.moves := rfl
@[simp] theorem State.leaf_dies (l : Nat) (f : Leaf → Leaf) (s : State) : (s.leaf l f).dies = s.dies := rfl
@[simp] theorem State.leaf_pwrScale (l : Nat) (f : Leaf → Leaf) (s : State) : (s.leaf l f).pwrScale = s.pwrScale := rfl
@[simp] theorem State.leaf_pwrNow (l : Nat) (f : Leaf → Leaf) (s : State) : (s.leaf l f).pwrNow = s.pwrNow := rfl
@[simp] theorem State.leaf_pwrQuiet (l : Nat) (f : Leaf → Leaf) (s : State) : (s.leaf l f).pwrQuiet = s.pwrQuiet := rfl
@[simp] theorem State.leaf_pat (l : Nat) (f : Leaf → Leaf) (s : State) : (s.leaf l f).pat = s.pat := rfl
@[simp] theorem State.leaf_cans (l : Nat) (f : Leaf → Leaf) (s : State) : (s.leaf l f).cans = s.cans := rfl
@[simp] theorem State.leaf_hif (l : Nat) (f : Leaf → Leaf) (s : State) : (s.leaf l f).hif = s.hif := rfl
@[simp] theorem State.leaf_mem0 (l : Nat) (f : Leaf → Leaf) (s : State) : (s.leaf l f).mem0 = s.mem0 := rfl
@[simp] theorem State.leaf_mem1 (l : Nat) (f : Leaf → Leaf) (s : State) : (s.leaf l f).mem1 = s.mem1 := rfl
@[simp] theorem State.leaf_recd (l : Nat) (f : Leaf → Leaf) (s : State) : (s.leaf l f).recd = s.recd := rfl
@[simp] theorem State.move_pending (a : Nat) (f : Move → Move) (s : State) : (s.move a f).pending = s.pending := rfl
@[simp] theorem State.move_freeCount (a : Nat) (f : Move → Move) (s : State) : (s.move a f).freeCount = s.freeCount := rfl
@[simp] theorem State.move_out (a : Nat) (f : Move → Move) (s : State) : (s.move a f).out = s.out := rfl
@[simp] theorem State.move_regs (a : Nat) (f : Move → Move) (s : State) : (s.move a f).regs = s.regs := rfl
@[simp] theorem State.move_boot (a : Nat) (f : Move → Move) (s : State) : (s.move a f).boot = s.boot := rfl
@[simp] theorem State.move_time (a : Nat) (f : Move → Move) (s : State) : (s.move a f).time = s.time := rfl
@[simp] theorem State.move_cfg (a : Nat) (f : Move → Move) (s : State) : (s.move a f).cfg = s.cfg := rfl
@[simp] theorem State.move_links (a : Nat) (f : Move → Move) (s : State) : (s.move a f).links = s.links := rfl
@[simp] theorem State.move_seq (a : Nat) (f : Move → Move) (s : State) : (s.move a f).seq = s.seq := rfl
@[simp] theorem State.move_ilk (a : Nat) (f : Move → Move) (s : State) : (s.move a f).ilk = s.ilk := rfl
@[simp] theorem State.move_sw (a : Nat) (f : Move → Move) (s : State) : (s.move a f).sw = s.sw := rfl
@[simp] theorem State.move_field (a : Nat) (f : Move → Move) (s : State) : (s.move a f).field = s.field := rfl
@[simp] theorem State.move_lsw (a : Nat) (f : Move → Move) (s : State) : (s.move a f).lsw = s.lsw := rfl
@[simp] theorem State.move_fio (a : Nat) (f : Move → Move) (s : State) : (s.move a f).fio = s.fio := rfl
@[simp] theorem State.move_leaves (a : Nat) (f : Move → Move) (s : State) : (s.move a f).leaves = s.leaves := rfl
@[simp] theorem State.move_encs (a : Nat) (f : Move → Move) (s : State) : (s.move a f).encs = s.encs := rfl
@[simp] theorem State.move_steps (a : Nat) (f : Move → Move) (s : State) : (s.move a f).steps = s.steps := rfl
@[simp] theorem State.move_dies (a : Nat) (f : Move → Move) (s : State) : (s.move a f).dies = s.dies := rfl
@[simp] theorem State.move_pwrScale (a : Nat) (f : Move → Move) (s : State) : (s.move a f).pwrScale = s.pwrScale := rfl
@[simp] theorem State.move_pwrNow (a : Nat) (f : Move → Move) (s : State) : (s.move a f).pwrNow = s.pwrNow := rfl
@[simp] theorem State.move_pwrQuiet (a : Nat) (f : Move → Move) (s : State) : (s.move a f).pwrQuiet = s.pwrQuiet := rfl
@[simp] theorem State.move_pat (a : Nat) (f : Move → Move) (s : State) : (s.move a f).pat = s.pat := rfl
@[simp] theorem State.move_cans (a : Nat) (f : Move → Move) (s : State) : (s.move a f).cans = s.cans := rfl
@[simp] theorem State.move_hif (a : Nat) (f : Move → Move) (s : State) : (s.move a f).hif = s.hif := rfl
@[simp] theorem State.move_mem0 (a : Nat) (f : Move → Move) (s : State) : (s.move a f).mem0 = s.mem0 := rfl
@[simp] theorem State.move_mem1 (a : Nat) (f : Move → Move) (s : State) : (s.move a f).mem1 = s.mem1 := rfl
@[simp] theorem State.move_recd (a : Nat) (f : Move → Move) (s : State) : (s.move a f).recd = s.recd := rfl
@[simp] theorem State.stepD_pending (p : Nat) (f : StepDrive → StepDrive) (s : State) : (s.stepD p f).pending = s.pending := rfl
@[simp] theorem State.stepD_freeCount (p : Nat) (f : StepDrive → StepDrive) (s : State) : (s.stepD p f).freeCount = s.freeCount := rfl
@[simp] theorem State.stepD_out (p : Nat) (f : StepDrive → StepDrive) (s : State) : (s.stepD p f).out = s.out := rfl
@[simp] theorem State.stepD_regs (p : Nat) (f : StepDrive → StepDrive) (s : State) : (s.stepD p f).regs = s.regs := rfl
@[simp] theorem State.stepD_boot (p : Nat) (f : StepDrive → StepDrive) (s : State) : (s.stepD p f).boot = s.boot := rfl
@[simp] theorem State.stepD_time (p : Nat) (f : StepDrive → StepDrive) (s : State) : (s.stepD p f).time = s.time := rfl
@[simp] theorem State.stepD_cfg (p : Nat) (f : StepDrive → StepDrive) (s : State) : (s.stepD p f).cfg = s.cfg := rfl
@[simp] theorem State.stepD_links (p : Nat) (f : StepDrive → StepDrive) (s : State) : (s.stepD p f).links = s.links := rfl
@[simp] theorem State.stepD_seq (p : Nat) (f : StepDrive → StepDrive) (s : State) : (s.stepD p f).seq = s.seq := rfl
@[simp] theorem State.stepD_ilk (p : Nat) (f : StepDrive → StepDrive) (s : State) : (s.stepD p f).ilk = s.ilk := rfl
@[simp] theorem State.stepD_sw (p : Nat) (f : StepDrive → StepDrive) (s : State) : (s.stepD p f).sw = s.sw := rfl
@[simp] theorem State.stepD_field (p : Nat) (f : StepDrive → StepDrive) (s : State) : (s.stepD p f).field = s.field := rfl
@[simp] theorem State.stepD_lsw (p : Nat) (f : StepDrive → StepDrive) (s : State) : (s.stepD p f).lsw = s.lsw := rfl
@[simp] theorem State.stepD_fio (p : Nat) (f : StepDrive → StepDrive) (s : State) : (s.stepD p f).fio = s.fio := rfl
@[simp] theorem State.stepD_leaves (p : Nat) (f : StepDrive → StepDrive) (s : State) : (s.stepD p f).leaves = s.leaves := rfl
@[simp] theorem State.stepD_encs (p : Nat) (f : StepDrive → StepDrive) (s : State) : (s.stepD p f).encs = s.encs := rfl
@[simp] theorem State.stepD_moves (p : Nat) (f : StepDrive → StepDrive) (s : State) : (s.stepD p f).moves = s.moves := rfl
@[simp] theorem State.stepD_dies (p : Nat) (f : StepDrive → StepDrive) (s : State) : (s.stepD p f).dies = s.dies := rfl
@[simp] theorem State.stepD_pwrScale (p : Nat) (f : StepDrive → StepDrive) (s : State) : (s.stepD p f).pwrScale = s.pwrScale := rfl
@[simp] theorem State.stepD_pwrNow (p : Nat) (f : StepDrive → StepDrive) (s : State) : (s.stepD p f).pwrNow = s.pwrNow := rfl
@[simp] theorem State.stepD_pwrQuiet (p : Nat) (f : StepDrive → StepDrive) (s : State) : (s.stepD p f).pwrQuiet = s.pwrQuiet := rfl
@[simp] theorem State.stepD_pat (p : Nat) (f : StepDrive → StepDrive) (s : State) : (s.stepD p f).pat = s.pat := rfl
@[simp] theorem State.stepD_cans (p : Nat) (f : StepDrive → StepDrive) (s : State) : (s.stepD p f).cans = s.cans := rfl
@[simp] theorem State.stepD_hif (p : Nat) (f : StepDrive → StepDrive) (s : State) : (s.stepD p f).hif = s.hif := rfl
@[simp] theorem State.stepD_mem0 (p : Nat) (f : StepDrive → StepDrive) (s : State) : (s.stepD p f).mem0 = s.mem0 := rfl
@[simp] theorem State.stepD_mem1 (p : Nat) (f : StepDrive → StepDrive) (s : State) : (s.stepD p f).mem1 = s.mem1 := rfl
@[simp] theorem State.stepD_recd (p : Nat) (f : StepDrive → StepDrive) (s : State) : (s.stepD p f).recd = s.recd := rfl
@[simp] theorem State.die_pending (b : Nat) (f : BridgeDie → BridgeDie) (s : State) : (s.die b f).pending = s.pending := rfl
@[simp] theorem State.die_freeCount (b : Nat) (f : BridgeDie → BridgeDie) (s : State) : (s.die b f).freeCount = s.freeCount := rfl
@[simp] theorem State.die_out (b : Nat) (f : BridgeDie → BridgeDie) (s : State) : (s.die b f).out = s.out := rfl
@[simp] theorem State.die_regs (b : Nat) (f : BridgeDie → BridgeDie) (s : State) : (s.die b f).regs = s.regs := rfl
@[simp] theorem State.die_boot (b : Nat) (f : BridgeDie → BridgeDie) (s : State) : (s.die b f).boot = s.boot := rfl
@[simp] theorem State.die_time (b : Nat) (f : BridgeDie → BridgeDie) (s : State) : (s.die b f).time = s.time := rfl
@[simp] theorem State.die_cfg (b : Nat) (f : BridgeDie → BridgeDie) (s : State) : (s.die b f).cfg = s.cfg := rfl
@[simp] theorem State.die_links (b : Nat) (f : BridgeDie → BridgeDie) (s : State) : (s.die b f).links = s.links := rfl
@[simp] theorem State.die_seq (b : Nat) (f : BridgeDie → BridgeDie) (s : State) : (s.die b f).seq = s.seq := rfl
@[simp] theorem State.die_ilk (b : Nat) (f : BridgeDie → BridgeDie) (s : State) : (s.die b f).ilk = s.ilk := rfl
@[simp] theorem State.die_sw (b : Nat) (f : BridgeDie → BridgeDie) (s : State) : (s.die b f).sw = s.sw := rfl
@[simp] theorem State.die_field (b : Nat) (f : BridgeDie → BridgeDie) (s : State) : (s.die b f).field = s.field := rfl
@[simp] theorem State.die_lsw (b : Nat) (f : BridgeDie → BridgeDie) (s : State) : (s.die b f).lsw = s.lsw := rfl
@[simp] theorem State.die_fio (b : Nat) (f : BridgeDie → BridgeDie) (s : State) : (s.die b f).fio = s.fio := rfl
@[simp] theorem State.die_leaves (b : Nat) (f : BridgeDie → BridgeDie) (s : State) : (s.die b f).leaves = s.leaves := rfl
@[simp] theorem State.die_encs (b : Nat) (f : BridgeDie → BridgeDie) (s : State) : (s.die b f).encs = s.encs := rfl
@[simp] theorem State.die_steps (b : Nat) (f : BridgeDie → BridgeDie) (s : State) : (s.die b f).steps = s.steps := rfl
@[simp] theorem State.die_moves (b : Nat) (f : BridgeDie → BridgeDie) (s : State) : (s.die b f).moves = s.moves := rfl
@[simp] theorem State.die_pwrScale (b : Nat) (f : BridgeDie → BridgeDie) (s : State) : (s.die b f).pwrScale = s.pwrScale := rfl
@[simp] theorem State.die_pwrNow (b : Nat) (f : BridgeDie → BridgeDie) (s : State) : (s.die b f).pwrNow = s.pwrNow := rfl
@[simp] theorem State.die_pwrQuiet (b : Nat) (f : BridgeDie → BridgeDie) (s : State) : (s.die b f).pwrQuiet = s.pwrQuiet := rfl
@[simp] theorem State.die_pat (b : Nat) (f : BridgeDie → BridgeDie) (s : State) : (s.die b f).pat = s.pat := rfl
@[simp] theorem State.die_cans (b : Nat) (f : BridgeDie → BridgeDie) (s : State) : (s.die b f).cans = s.cans := rfl
@[simp] theorem State.die_hif (b : Nat) (f : BridgeDie → BridgeDie) (s : State) : (s.die b f).hif = s.hif := rfl
@[simp] theorem State.die_mem0 (b : Nat) (f : BridgeDie → BridgeDie) (s : State) : (s.die b f).mem0 = s.mem0 := rfl
@[simp] theorem State.die_mem1 (b : Nat) (f : BridgeDie → BridgeDie) (s : State) : (s.die b f).mem1 = s.mem1 := rfl
@[simp] theorem State.die_recd (b : Nat) (f : BridgeDie → BridgeDie) (s : State) : (s.die b f).recd = s.recd := rfl
@[simp] theorem State.patMod_pending (f : Pat → Pat) (s : State) : (s.patMod f).pending = s.pending := rfl
@[simp] theorem State.patMod_freeCount (f : Pat → Pat) (s : State) : (s.patMod f).freeCount = s.freeCount := rfl
@[simp] theorem State.patMod_out (f : Pat → Pat) (s : State) : (s.patMod f).out = s.out := rfl
@[simp] theorem State.patMod_regs (f : Pat → Pat) (s : State) : (s.patMod f).regs = s.regs := rfl
@[simp] theorem State.patMod_boot (f : Pat → Pat) (s : State) : (s.patMod f).boot = s.boot := rfl
@[simp] theorem State.patMod_time (f : Pat → Pat) (s : State) : (s.patMod f).time = s.time := rfl
@[simp] theorem State.patMod_cfg (f : Pat → Pat) (s : State) : (s.patMod f).cfg = s.cfg := rfl
@[simp] theorem State.patMod_links (f : Pat → Pat) (s : State) : (s.patMod f).links = s.links := rfl
@[simp] theorem State.patMod_seq (f : Pat → Pat) (s : State) : (s.patMod f).seq = s.seq := rfl
@[simp] theorem State.patMod_ilk (f : Pat → Pat) (s : State) : (s.patMod f).ilk = s.ilk := rfl
@[simp] theorem State.patMod_sw (f : Pat → Pat) (s : State) : (s.patMod f).sw = s.sw := rfl
@[simp] theorem State.patMod_field (f : Pat → Pat) (s : State) : (s.patMod f).field = s.field := rfl
@[simp] theorem State.patMod_lsw (f : Pat → Pat) (s : State) : (s.patMod f).lsw = s.lsw := rfl
@[simp] theorem State.patMod_fio (f : Pat → Pat) (s : State) : (s.patMod f).fio = s.fio := rfl
@[simp] theorem State.patMod_leaves (f : Pat → Pat) (s : State) : (s.patMod f).leaves = s.leaves := rfl
@[simp] theorem State.patMod_encs (f : Pat → Pat) (s : State) : (s.patMod f).encs = s.encs := rfl
@[simp] theorem State.patMod_steps (f : Pat → Pat) (s : State) : (s.patMod f).steps = s.steps := rfl
@[simp] theorem State.patMod_moves (f : Pat → Pat) (s : State) : (s.patMod f).moves = s.moves := rfl
@[simp] theorem State.patMod_dies (f : Pat → Pat) (s : State) : (s.patMod f).dies = s.dies := rfl
@[simp] theorem State.patMod_pwrScale (f : Pat → Pat) (s : State) : (s.patMod f).pwrScale = s.pwrScale := rfl
@[simp] theorem State.patMod_pwrNow (f : Pat → Pat) (s : State) : (s.patMod f).pwrNow = s.pwrNow := rfl
@[simp] theorem State.patMod_pwrQuiet (f : Pat → Pat) (s : State) : (s.patMod f).pwrQuiet = s.pwrQuiet := rfl
@[simp] theorem State.patMod_cans (f : Pat → Pat) (s : State) : (s.patMod f).cans = s.cans := rfl
@[simp] theorem State.patMod_hif (f : Pat → Pat) (s : State) : (s.patMod f).hif = s.hif := rfl
@[simp] theorem State.patMod_mem0 (f : Pat → Pat) (s : State) : (s.patMod f).mem0 = s.mem0 := rfl
@[simp] theorem State.patMod_mem1 (f : Pat → Pat) (s : State) : (s.patMod f).mem1 = s.mem1 := rfl
@[simp] theorem State.patMod_recd (f : Pat → Pat) (s : State) : (s.patMod f).recd = s.recd := rfl
@[simp] theorem State.recMod_pending (f : Rec → Rec) (s : State) : (s.recMod f).pending = s.pending := rfl
@[simp] theorem State.recMod_freeCount (f : Rec → Rec) (s : State) : (s.recMod f).freeCount = s.freeCount := rfl
@[simp] theorem State.recMod_out (f : Rec → Rec) (s : State) : (s.recMod f).out = s.out := rfl
@[simp] theorem State.recMod_regs (f : Rec → Rec) (s : State) : (s.recMod f).regs = s.regs := rfl
@[simp] theorem State.recMod_boot (f : Rec → Rec) (s : State) : (s.recMod f).boot = s.boot := rfl
@[simp] theorem State.recMod_time (f : Rec → Rec) (s : State) : (s.recMod f).time = s.time := rfl
@[simp] theorem State.recMod_cfg (f : Rec → Rec) (s : State) : (s.recMod f).cfg = s.cfg := rfl
@[simp] theorem State.recMod_links (f : Rec → Rec) (s : State) : (s.recMod f).links = s.links := rfl
@[simp] theorem State.recMod_seq (f : Rec → Rec) (s : State) : (s.recMod f).seq = s.seq := rfl
@[simp] theorem State.recMod_ilk (f : Rec → Rec) (s : State) : (s.recMod f).ilk = s.ilk := rfl
@[simp] theorem State.recMod_sw (f : Rec → Rec) (s : State) : (s.recMod f).sw = s.sw := rfl
@[simp] theorem State.recMod_field (f : Rec → Rec) (s : State) : (s.recMod f).field = s.field := rfl
@[simp] theorem State.recMod_lsw (f : Rec → Rec) (s : State) : (s.recMod f).lsw = s.lsw := rfl
@[simp] theorem State.recMod_fio (f : Rec → Rec) (s : State) : (s.recMod f).fio = s.fio := rfl
@[simp] theorem State.recMod_leaves (f : Rec → Rec) (s : State) : (s.recMod f).leaves = s.leaves := rfl
@[simp] theorem State.recMod_encs (f : Rec → Rec) (s : State) : (s.recMod f).encs = s.encs := rfl
@[simp] theorem State.recMod_steps (f : Rec → Rec) (s : State) : (s.recMod f).steps = s.steps := rfl
@[simp] theorem State.recMod_moves (f : Rec → Rec) (s : State) : (s.recMod f).moves = s.moves := rfl
@[simp] theorem State.recMod_dies (f : Rec → Rec) (s : State) : (s.recMod f).dies = s.dies := rfl
@[simp] theorem State.recMod_pwrScale (f : Rec → Rec) (s : State) : (s.recMod f).pwrScale = s.pwrScale := rfl
@[simp] theorem State.recMod_pwrNow (f : Rec → Rec) (s : State) : (s.recMod f).pwrNow = s.pwrNow := rfl
@[simp] theorem State.recMod_pwrQuiet (f : Rec → Rec) (s : State) : (s.recMod f).pwrQuiet = s.pwrQuiet := rfl
@[simp] theorem State.recMod_pat (f : Rec → Rec) (s : State) : (s.recMod f).pat = s.pat := rfl
@[simp] theorem State.recMod_cans (f : Rec → Rec) (s : State) : (s.recMod f).cans = s.cans := rfl
@[simp] theorem State.recMod_hif (f : Rec → Rec) (s : State) : (s.recMod f).hif = s.hif := rfl
@[simp] theorem State.recMod_mem0 (f : Rec → Rec) (s : State) : (s.recMod f).mem0 = s.mem0 := rfl
@[simp] theorem State.recMod_mem1 (f : Rec → Rec) (s : State) : (s.recMod f).mem1 = s.mem1 := rfl

@[simp] theorem State.leaf_leaves (l : Nat) (f : Leaf → Leaf) (s : State) : (s.leaf l f).leaves = s.leaves.upd l f := rfl
@[simp] theorem State.move_moves (a : Nat) (f : Move → Move) (s : State) : (s.move a f).moves = s.moves.upd a f := rfl
@[simp] theorem State.stepD_steps (p : Nat) (f : StepDrive → StepDrive) (s : State) : (s.stepD p f).steps = s.steps.upd p f := rfl
@[simp] theorem State.die_dies (b : Nat) (f : BridgeDie → BridgeDie) (s : State) : (s.die b f).dies = s.dies.upd b f := rfl
@[simp] theorem State.patMod_pat (f : Pat → Pat) (s : State) : (s.patMod f).pat = f s.pat := rfl
@[simp] theorem State.recMod_recd (f : Rec → Rec) (s : State) : (s.recMod f).recd = f s.recd := rfl

end Sys2Proof.Machine
end

