-- ==== Sys2Proof/Laws/Posting.lean ====
section
/-! SUPPORT. What posting events, ending commands and placing entries can change: nothing but what State.Posted names. -/

set_option Elab.async false

namespace Sys2Proof.Machine

/-- A fold of steps that each keep a reflexive and transitive relation keeps it. -/
theorem foldl_keeps {σ ι : Type} (R : σ → σ → Prop) (refl : ∀ s, R s s) (trans : ∀ {a b c}, R a b → R b c → R a c)
    (f : σ → ι → σ) (h : ∀ s i, R s (f s i)) (l : List ι) (s : σ) : R s (l.foldl f s) := by
  induction l generalizing s with
  | nil => exact refl s
  | cons i l ih => exact trans (h s i) (ih (f s i))

theorem State.Posted.refl (s : State) : s.Posted s := rfl

theorem State.Posted.trans {s t u : State} (h : s.Posted t) (k : t.Posted u) : s.Posted u := by
  unfold State.Posted at *
  rw [k, h]

theorem State.Posted.pending {u t : State} (h : u.Posted t) : t.pending = u.pending := by
  have e := congrArg State.pending h; exact e
theorem State.Posted.freeCount {u t : State} (h : u.Posted t) : t.freeCount = u.freeCount := by
  have e := congrArg State.freeCount h; exact e
theorem State.Posted.regs {u t : State} (h : u.Posted t) : t.regs = u.regs := by
  have e := congrArg State.regs h; exact e
theorem State.Posted.boot {u t : State} (h : u.Posted t) : t.boot = u.boot := by
  have e := congrArg State.boot h; exact e
theorem State.Posted.time {u t : State} (h : u.Posted t) : t.time = u.time := by
  have e := congrArg State.time h; exact e
theorem State.Posted.cfg {u t : State} (h : u.Posted t) : t.cfg = u.cfg := by
  have e := congrArg State.cfg h; exact e
theorem State.Posted.seq {u t : State} (h : u.Posted t) : t.seq = u.seq := by
  have e := congrArg State.seq h; exact e
theorem State.Posted.ilk {u t : State} (h : u.Posted t) : t.ilk = u.ilk := by
  have e := congrArg State.ilk h; exact e
theorem State.Posted.sw {u t : State} (h : u.Posted t) : t.sw = u.sw := by
  have e := congrArg State.sw h; exact e
theorem State.Posted.field {u t : State} (h : u.Posted t) : t.field = u.field := by
  have e := congrArg State.field h; exact e
theorem State.Posted.lsw {u t : State} (h : u.Posted t) : t.lsw = u.lsw := by
  have e := congrArg State.lsw h; exact e
theorem State.Posted.fio {u t : State} (h : u.Posted t) : t.fio = u.fio := by
  have e := congrArg State.fio h; exact e
theorem State.Posted.leaves {u t : State} (h : u.Posted t) : t.leaves = u.leaves := by
  have e := congrArg State.leaves h; exact e
theorem State.Posted.encs {u t : State} (h : u.Posted t) : t.encs = u.encs := by
  have e := congrArg State.encs h; exact e
theorem State.Posted.steps {u t : State} (h : u.Posted t) : t.steps = u.steps := by
  have e := congrArg State.steps h; exact e
theorem State.Posted.moves {u t : State} (h : u.Posted t) : t.moves = u.moves := by
  have e := congrArg State.moves h; exact e
theorem State.Posted.dies {u t : State} (h : u.Posted t) : t.dies = u.dies := by
  have e := congrArg State.dies h; exact e
theorem State.Posted.pwrScale {u t : State} (h : u.Posted t) : t.pwrScale = u.pwrScale := by
  have e := congrArg State.pwrScale h; exact e
theorem State.Posted.pwrNow {u t : State} (h : u.Posted t) : t.pwrNow = u.pwrNow := by
  have e := congrArg State.pwrNow h; exact e
theorem State.Posted.pwrQuiet {u t : State} (h : u.Posted t) : t.pwrQuiet = u.pwrQuiet := by
  have e := congrArg State.pwrQuiet h; exact e
theorem State.Posted.pat {u t : State} (h : u.Posted t) : t.pat = u.pat := by
  have e := congrArg State.pat h; exact e
theorem State.Posted.cans {u t : State} (h : u.Posted t) : t.cans = u.cans := by
  have e := congrArg State.cans h; exact e
theorem State.Posted.recd {u t : State} (h : u.Posted t) : t.recd = u.recd := by
  have e := congrArg State.recd h; exact e
theorem State.Posted.mem0_store {u t : State} (h : u.Posted t) : t.mem0.store = u.mem0.store := by
  have e := congrArg (fun x : State => x.mem0.store) h; exact e
theorem State.Posted.mem1_store {u t : State} (h : u.Posted t) : t.mem1.store = u.mem1.store := by
  have e := congrArg (fun x : State => x.mem1.store) h; exact e
theorem State.Posted.ownA {u t : State} (h : u.Posted t) : t.hif.ownA = u.hif.ownA := by
  have e := congrArg (fun x : State => x.hif.ownA) h; exact e
theorem State.Posted.ownB {u t : State} (h : u.Posted t) : t.hif.ownB = u.hif.ownB := by
  have e := congrArg (fun x : State => x.hif.ownB) h; exact e
theorem State.Posted.busy {u t : State} (h : u.Posted t) : t.hif.busy = u.hif.busy := by
  have e := congrArg (fun x : State => x.hif.busy) h; exact e
theorem State.Posted.pages {u t : State} (h : u.Posted t) : t.hif.pages = u.hif.pages := by
  have e := congrArg (fun x : State => x.hif.pages) h; exact e

theorem State.posted_fold {ι : Type} (f : State → ι → State) (h : ∀ (s : State) (i : ι), s.Posted (f s i)) (l : List ι) (s : State) :
    s.Posted (l.foldl f s) :=
  foldl_keeps State.Posted State.Posted.refl State.Posted.trans f h l s

theorem State.post_posted (e : Post) (s : State) : s.Posted (s.post e) := by
  unfold State.post
  cases e.dest <;> rfl

theorem State.posts_posted (l : List Post) (s : State) : s.Posted (s.posts l) :=
  State.posted_fold _ (fun s e => State.post_posted e s) l s

theorem State.says_posted (l : List (Nat × List Byte)) (s : State) : s.Posted (s.says l) :=
  State.posted_fold _ (fun s _ => State.post_posted _ s) l s

theorem State.finish_posted (f : Finish) (s : State) : s.Posted (s.finish f) := by
  unfold State.finish Hif.free
  split <;> (try split) <;> rfl

theorem State.finishes_posted (l : List Finish) (s : State) : s.Posted (s.finishes l) :=
  State.posted_fold _ (fun s f => State.finish_posted f s) l s

theorem State.placeCompl_posted (c : Compl) (s : State) : s.Posted (s.placeCompl c) := by
  unfold State.placeCompl Hif.free Hif.port
  split <;> rfl

theorem State.tryCompl_posted (s : State) (c : Compl) : s.Posted (s.tryCompl c) := by
  unfold State.tryCompl
  split
  · unfold Hif.free; split <;> rfl
  · rfl
  · split
    · exact State.placeCompl_posted c s
    · rfl

theorem State.placeEvent_posted (port : Nat) (q : QEvent) (s : State) : s.Posted (s.placeEvent port q) := rfl

theorem State.placeLost_posted (port r : Nat) (s : State) : s.Posted (s.placeLost port r) := by
  unfold State.placeLost
  dsimp only
  split
  · rfl
  · exact State.Posted.trans (t := { s with hif := _ }) rfl (State.placeEvent_posted _ _ _)

theorem State.tryEvent_posted (port : Nat) (s : State) (q : QEvent) : s.Posted (s.tryEvent port q) := by
  unfold State.tryEvent
  dsimp only
  split
  · rfl
  · split
    · rfl
    · split
      · exact State.Posted.trans (State.Posted.trans (State.placeLost_posted port q.ring s) (State.placeEvent_posted _ _ _)) rfl
      · exact State.placeLost_posted port q.ring s

theorem State.placeCompls_posted (k : Nat) (s : State) : s.Posted (s.placeCompls k) :=
  State.Posted.trans (State.posted_fold _ State.tryCompl_posted _ _) (State.posted_fold _ State.tryCompl_posted _ _)

theorem State.placeEvents_posted (k : Nat) (s : State) : s.Posted (s.placeEvents k) :=
  State.Posted.trans (State.posted_fold _ (State.tryEvent_posted 0) _ _) (State.posted_fold _ (State.tryEvent_posted 1) _ _)

theorem State.drained_posted (s : State) : s.Posted { s with hif := s.hif.drained } := rfl

theorem State.place_posted (s : State) : s.Posted s.place :=
  State.Posted.trans (State.placeCompls_posted 0 s) <| State.Posted.trans (State.placeEvents_posted 0 _) <|
  State.Posted.trans (State.placeCompls_posted 1 _) <| State.Posted.trans (State.placeEvents_posted 1 _) <|
  State.Posted.trans (State.placeCompls_posted 2 _) <| State.Posted.trans (State.placeEvents_posted 2 _) <|
  State.drained_posted _

theorem State.memPost_posted (s : State) : s.Posted s.memPost :=
  State.Posted.trans (t := { s with mem0 := _, mem1 := _, links := _ }) rfl (State.says_posted _ _)

/-- The end of a command outside a tick changes only what posting changes. -/
theorem State.flush_posted (s : State) : s.Posted s.flush :=
  State.Posted.trans (State.memPost_posted s) (State.place_posted _)

/-- The end of a command with events changes only what posting changes. -/
theorem State.says_flush_posted (l : List (Nat × List Byte)) (s : State) : s.Posted (s.says l).flush :=
  State.Posted.trans (State.says_posted l s) (State.flush_posted _)

@[simp] theorem State.flush_pending (s : State) : (s.flush).pending = s.pending := (State.flush_posted s).pending
@[simp] theorem State.flush_freeCount (s : State) : (s.flush).freeCount = s.freeCount := (State.flush_posted s).freeCount
@[simp] theorem State.flush_regs (s : State) : (s.flush).regs = s.regs := (State.flush_posted s).regs
@[simp] theorem State.flush_boot (s : State) : (s.flush).boot = s.boot := (State.flush_posted s).boot
@[simp] theorem State.flush_time (s : State) : (s.flush).time = s.time := (State.flush_posted s).time
@[simp] theorem State.flush_cfg (s : State) : (s.flush).cfg = s.cfg := (State.flush_posted s).cfg
@[simp] theorem State.flush_seq (s : State) : (s.flush).seq = s.seq := (State.flush_posted s).seq
@[simp] theorem State.flush_ilk (s : State) : (s.flush).ilk = s.ilk := (State.flush_posted s).ilk
@[simp] theorem State.flush_sw (s : State) : (s.flush).sw = s.sw := (State.flush_posted s).sw
@[simp] theorem State.flush_field (s : State) : (s.flush).field = s.field := (State.flush_posted s).field
@[simp] theorem State.flush_lsw (s : State) : (s.flush).lsw = s.lsw := (State.flush_posted s).lsw
@[simp] theorem State.flush_fio (s : State) : (s.flush).fio = s.fio := (State.flush_posted s).fio
@[simp] theorem State.flush_leaves (s : State) : (s.flush).leaves = s.leaves := (State.flush_posted s).leaves
@[simp] theorem State.flush_encs (s : State) : (s.flush).encs = s.encs := (State.flush_posted s).encs
@[simp] theorem State.flush_steps (s : State) : (s.flush).steps = s.steps := (State.flush_posted s).steps
@[simp] theorem State.flush_moves (s : State) : (s.flush).moves = s.moves := (State.flush_posted s).moves
@[simp] theorem State.flush_dies (s : State) : (s.flush).dies = s.dies := (State.flush_posted s).dies
@[simp] theorem State.flush_pwrScale (s : State) : (s.flush).pwrScale = s.pwrScale := (State.flush_posted s).pwrScale
@[simp] theorem State.flush_pwrNow (s : State) : (s.flush).pwrNow = s.pwrNow := (State.flush_posted s).pwrNow
@[simp] theorem State.flush_pwrQuiet (s : State) : (s.flush).pwrQuiet = s.pwrQuiet := (State.flush_posted s).pwrQuiet
@[simp] theorem State.flush_pat (s : State) : (s.flush).pat = s.pat := (State.flush_posted s).pat
@[simp] theorem State.flush_cans (s : State) : (s.flush).cans = s.cans := (State.flush_posted s).cans
@[simp] theorem State.flush_recd (s : State) : (s.flush).recd = s.recd := (State.flush_posted s).recd
@[simp] theorem State.flush_mem0_store (s : State) : (s.flush).mem0.store = s.mem0.store :=
  (State.flush_posted s).mem0_store
@[simp] theorem State.flush_mem1_store (s : State) : (s.flush).mem1.store = s.mem1.store :=
  (State.flush_posted s).mem1_store
@[simp] theorem State.says_pending (l : List (Nat × List Byte)) (s : State) : (s.says l).pending = s.pending := (State.says_posted l s).pending
@[simp] theorem State.says_freeCount (l : List (Nat × List Byte)) (s : State) : (s.says l).freeCount = s.freeCount := (State.says_posted l s).freeCount
@[simp] theorem State.says_regs (l : List (Nat × List Byte)) (s : State) : (s.says l).regs = s.regs := (State.says_posted l s).regs
@[simp] theorem State.says_boot (l : List (Nat × List Byte)) (s : State) : (s.says l).boot = s.boot := (State.says_posted l s).boot
@[simp] theorem State.says_time (l : List (Nat × List Byte)) (s : State) : (s.says l).time = s.time := (State.says_posted l s).time
@[simp] theorem State.says_cfg (l : List (Nat × List Byte)) (s : State) : (s.says l).cfg = s.cfg := (State.says_posted l s).cfg
@[simp] theorem State.says_seq (l : List (Nat × List Byte)) (s : State) : (s.says l).seq = s.seq := (State.says_posted l s).seq
@[simp] theorem State.says_ilk (l : List (Nat × List Byte)) (s : State) : (s.says l).ilk = s.ilk := (State.says_posted l s).ilk
@[simp] theorem State.says_sw (l : List (Nat × List Byte)) (s : State) : (s.says l).sw = s.sw := (State.says_posted l s).sw
@[simp] theorem State.says_field (l : List (Nat × List Byte)) (s : State) : (s.says l).field = s.field := (State.says_posted l s).field
@[simp] theorem State.says_lsw (l : List (Nat × List Byte)) (s : State) : (s.says l).lsw = s.lsw := (State.says_posted l s).lsw
@[simp] theorem State.says_fio (l : List (Nat × List Byte)) (s : State) : (s.says l).fio = s.fio := (State.says_posted l s).fio
@[simp] theorem State.says_leaves (l : List (Nat × List Byte)) (s : State) : (s.says l).leaves = s.leaves := (State.says_posted l s).leaves
@[simp] theorem State.says_encs (l : List (Nat × List Byte)) (s : State) : (s.says l).encs = s.encs := (State.says_posted l s).encs
@[simp] theorem State.says_steps (l : List (Nat × List Byte)) (s : State) : (s.says l).steps = s.steps := (State.says_posted l s).steps
@[simp] theorem State.says_moves (l : List (Nat × List Byte)) (s : State) : (s.says l).moves = s.moves := (State.says_posted l s).moves
@[simp] theorem State.says_dies (l : List (Nat × List Byte)) (s : State) : (s.says l).dies = s.dies := (State.says_posted l s).dies
@[simp] theorem State.says_pwrScale (l : List (Nat × List Byte)) (s : State) : (s.says l).pwrScale = s.pwrScale := (State.says_posted l s).pwrScale
@[simp] theorem State.says_pwrNow (l : List (Nat × List Byte)) (s : State) : (s.says l).pwrNow = s.pwrNow := (State.says_posted l s).pwrNow
@[simp] theorem State.says_pwrQuiet (l : List (Nat × List Byte)) (s : State) : (s.says l).pwrQuiet = s.pwrQuiet := (State.says_posted l s).pwrQuiet
@[simp] theorem State.says_pat (l : List (Nat × List Byte)) (s : State) : (s.says l).pat = s.pat := (State.says_posted l s).pat
@[simp] theorem State.says_cans (l : List (Nat × List Byte)) (s : State) : (s.says l).cans = s.cans := (State.says_posted l s).cans
@[simp] theorem State.says_recd (l : List (Nat × List Byte)) (s : State) : (s.says l).recd = s.recd := (State.says_posted l s).recd
@[simp] theorem State.says_mem0_store (l : List (Nat × List Byte)) (s : State) : (s.says l).mem0.store = s.mem0.store :=
  (State.says_posted l s).mem0_store
@[simp] theorem State.says_mem1_store (l : List (Nat × List Byte)) (s : State) : (s.says l).mem1.store = s.mem1.store :=
  (State.says_posted l s).mem1_store
@[simp] theorem State.posts_pending (l : List Post) (s : State) : (s.posts l).pending = s.pending := (State.posts_posted l s).pending
@[simp] theorem State.posts_freeCount (l : List Post) (s : State) : (s.posts l).freeCount = s.freeCount := (State.posts_posted l s).freeCount
@[simp] theorem State.posts_regs (l : List Post) (s : State) : (s.posts l).regs = s.regs := (State.posts_posted l s).regs
@[simp] theorem State.posts_boot (l : List Post) (s : State) : (s.posts l).boot = s.boot := (State.posts_posted l s).boot
@[simp] theorem State.posts_time (l : List Post) (s : State) : (s.posts l).time = s.time := (State.posts_posted l s).time
@[simp] theorem State.posts_cfg (l : List Post) (s : State) : (s.posts l).cfg = s.cfg := (State.posts_posted l s).cfg
@[simp] theorem State.posts_seq (l : List Post) (s : State) : (s.posts l).seq = s.seq := (State.posts_posted l s).seq
@[simp] theorem State.posts_ilk (l : List Post) (s : State) : (s.posts l).ilk = s.ilk := (State.posts_posted l s).ilk
@[simp] theorem State.posts_sw (l : List Post) (s : State) : (s.posts l).sw = s.sw := (State.posts_posted l s).sw
@[simp] theorem State.posts_field (l : List Post) (s : State) : (s.posts l).field = s.field := (State.posts_posted l s).field
@[simp] theorem State.posts_lsw (l : List Post) (s : State) : (s.posts l).lsw = s.lsw := (State.posts_posted l s).lsw
@[simp] theorem State.posts_fio (l : List Post) (s : State) : (s.posts l).fio = s.fio := (State.posts_posted l s).fio
@[simp] theorem State.posts_leaves (l : List Post) (s : State) : (s.posts l).leaves = s.leaves := (State.posts_posted l s).leaves
@[simp] theorem State.posts_encs (l : List Post) (s : State) : (s.posts l).encs = s.encs := (State.posts_posted l s).encs
@[simp] theorem State.posts_steps (l : List Post) (s : State) : (s.posts l).steps = s.steps := (State.posts_posted l s).steps
@[simp] theorem State.posts_moves (l : List Post) (s : State) : (s.posts l).moves = s.moves := (State.posts_posted l s).moves
@[simp] theorem State.posts_dies (l : List Post) (s : State) : (s.posts l).dies = s.dies := (State.posts_posted l s).dies
@[simp] theorem State.posts_pwrScale (l : List Post) (s : State) : (s.posts l).pwrScale = s.pwrScale := (State.posts_posted l s).pwrScale
@[simp] theorem State.posts_pwrNow (l : List Post) (s : State) : (s.posts l).pwrNow = s.pwrNow := (State.posts_posted l s).pwrNow
@[simp] theorem State.posts_pwrQuiet (l : List Post) (s : State) : (s.posts l).pwrQuiet = s.pwrQuiet := (State.posts_posted l s).pwrQuiet
@[simp] theorem State.posts_pat (l : List Post) (s : State) : (s.posts l).pat = s.pat := (State.posts_posted l s).pat
@[simp] theorem State.posts_cans (l : List Post) (s : State) : (s.posts l).cans = s.cans := (State.posts_posted l s).cans
@[simp] theorem State.posts_recd (l : List Post) (s : State) : (s.posts l).recd = s.recd := (State.posts_posted l s).recd
@[simp] theorem State.posts_mem0_store (l : List Post) (s : State) : (s.posts l).mem0.store = s.mem0.store :=
  (State.posts_posted l s).mem0_store
@[simp] theorem State.posts_mem1_store (l : List Post) (s : State) : (s.posts l).mem1.store = s.mem1.store :=
  (State.posts_posted l s).mem1_store
@[simp] theorem State.finish_pending (f : Finish) (s : State) : (s.finish f).pending = s.pending := (State.finish_posted f s).pending
@[simp] theorem State.finish_freeCount (f : Finish) (s : State) : (s.finish f).freeCount = s.freeCount := (State.finish_posted f s).freeCount
@[simp] theorem State.finish_regs (f : Finish) (s : State) : (s.finish f).regs = s.regs := (State.finish_posted f s).regs
@[simp] theorem State.finish_boot (f : Finish) (s : State) : (s.finish f).boot = s.boot := (State.finish_posted f s).boot
@[simp] theorem State.finish_time (f : Finish) (s : State) : (s.finish f).time = s.time := (State.finish_posted f s).time
@[simp] theorem State.finish_cfg (f : Finish) (s : State) : (s.finish f).cfg = s.cfg := (State.finish_posted f s).cfg
@[simp] theorem State.finish_seq (f : Finish) (s : State) : (s.finish f).seq = s.seq := (State.finish_posted f s).seq
@[simp] theorem State.finish_ilk (f : Finish) (s : State) : (s.finish f).ilk = s.ilk := (State.finish_posted f s).ilk
@[simp] theorem State.finish_sw (f : Finish) (s : State) : (s.finish f).sw = s.sw := (State.finish_posted f s).sw
@[simp] theorem State.finish_field (f : Finish) (s : State) : (s.finish f).field = s.field := (State.finish_posted f s).field
@[simp] theorem State.finish_lsw (f : Finish) (s : State) : (s.finish f).lsw = s.lsw := (State.finish_posted f s).lsw
@[simp] theorem State.finish_fio (f : Finish) (s : State) : (s.finish f).fio = s.fio := (State.finish_posted f s).fio
@[simp] theorem State.finish_leaves (f : Finish) (s : State) : (s.finish f).leaves = s.leaves := (State.finish_posted f s).leaves
@[simp] theorem State.finish_encs (f : Finish) (s : State) : (s.finish f).encs = s.encs := (State.finish_posted f s).encs
@[simp] theorem State.finish_steps (f : Finish) (s : State) : (s.finish f).steps = s.steps := (State.finish_posted f s).steps
@[simp] theorem State.finish_moves (f : Finish) (s : State) : (s.finish f).moves = s.moves := (State.finish_posted f s).moves
@[simp] theorem State.finish_dies (f : Finish) (s : State) : (s.finish f).dies = s.dies := (State.finish_posted f s).dies
@[simp] theorem State.finish_pwrScale (f : Finish) (s : State) : (s.finish f).pwrScale = s.pwrScale := (State.finish_posted f s).pwrScale
@[simp] theorem State.finish_pwrNow (f : Finish) (s : State) : (s.finish f).pwrNow = s.pwrNow := (State.finish_posted f s).pwrNow
@[simp] theorem State.finish_pwrQuiet (f : Finish) (s : State) : (s.finish f).pwrQuiet = s.pwrQuiet := (State.finish_posted f s).pwrQuiet
@[simp] theorem State.finish_pat (f : Finish) (s : State) : (s.finish f).pat = s.pat := (State.finish_posted f s).pat
@[simp] theorem State.finish_cans (f : Finish) (s : State) : (s.finish f).cans = s.cans := (State.finish_posted f s).cans
@[simp] theorem State.finish_recd (f : Finish) (s : State) : (s.finish f).recd = s.recd := (State.finish_posted f s).recd
@[simp] theorem State.finish_mem0_store (f : Finish) (s : State) : (s.finish f).mem0.store = s.mem0.store :=
  (State.finish_posted f s).mem0_store
@[simp] theorem State.finish_mem1_store (f : Finish) (s : State) : (s.finish f).mem1.store = s.mem1.store :=
  (State.finish_posted f s).mem1_store
@[simp] theorem State.finishes_pending (l : List Finish) (s : State) : (s.finishes l).pending = s.pending := (State.finishes_posted l s).pending
@[simp] theorem State.finishes_freeCount (l : List Finish) (s : State) : (s.finishes l).freeCount = s.freeCount := (State.finishes_posted l s).freeCount
@[simp] theorem State.finishes_regs (l : List Finish) (s : State) : (s.finishes l).regs = s.regs := (State.finishes_posted l s).regs
@[simp] theorem State.finishes_boot (l : List Finish) (s : State) : (s.finishes l).boot = s.boot := (State.finishes_posted l s).boot
@[simp] theorem State.finishes_time (l : List Finish) (s : State) : (s.finishes l).time = s.time := (State.finishes_posted l s).time
@[simp] theorem State.finishes_cfg (l : List Finish) (s : State) : (s.finishes l).cfg = s.cfg := (State.finishes_posted l s).cfg
@[simp] theorem State.finishes_seq (l : List Finish) (s : State) : (s.finishes l).seq = s.seq := (State.finishes_posted l s).seq
@[simp] theorem State.finishes_ilk (l : List Finish) (s : State) : (s.finishes l).ilk = s.ilk := (State.finishes_posted l s).ilk
@[simp] theorem State.finishes_sw (l : List Finish) (s : State) : (s.finishes l).sw = s.sw := (State.finishes_posted l s).sw
@[simp] theorem State.finishes_field (l : List Finish) (s : State) : (s.finishes l).field = s.field := (State.finishes_posted l s).field
@[simp] theorem State.finishes_lsw (l : List Finish) (s : State) : (s.finishes l).lsw = s.lsw := (State.finishes_posted l s).lsw
@[simp] theorem State.finishes_fio (l : List Finish) (s : State) : (s.finishes l).fio = s.fio := (State.finishes_posted l s).fio
@[simp] theorem State.finishes_leaves (l : List Finish) (s : State) : (s.finishes l).leaves = s.leaves := (State.finishes_posted l s).leaves
@[simp] theorem State.finishes_encs (l : List Finish) (s : State) : (s.finishes l).encs = s.encs := (State.finishes_posted l s).encs
@[simp] theorem State.finishes_steps (l : List Finish) (s : State) : (s.finishes l).steps = s.steps := (State.finishes_posted l s).steps
@[simp] theorem State.finishes_moves (l : List Finish) (s : State) : (s.finishes l).moves = s.moves := (State.finishes_posted l s).moves
@[simp] theorem State.finishes_dies (l : List Finish) (s : State) : (s.finishes l).dies = s.dies := (State.finishes_posted l s).dies
@[simp] theorem State.finishes_pwrScale (l : List Finish) (s : State) : (s.finishes l).pwrScale = s.pwrScale := (State.finishes_posted l s).pwrScale
@[simp] theorem State.finishes_pwrNow (l : List Finish) (s : State) : (s.finishes l).pwrNow = s.pwrNow := (State.finishes_posted l s).pwrNow
@[simp] theorem State.finishes_pwrQuiet (l : List Finish) (s : State) : (s.finishes l).pwrQuiet = s.pwrQuiet := (State.finishes_posted l s).pwrQuiet
@[simp] theorem State.finishes_pat (l : List Finish) (s : State) : (s.finishes l).pat = s.pat := (State.finishes_posted l s).pat
@[simp] theorem State.finishes_cans (l : List Finish) (s : State) : (s.finishes l).cans = s.cans := (State.finishes_posted l s).cans
@[simp] theorem State.finishes_recd (l : List Finish) (s : State) : (s.finishes l).recd = s.recd := (State.finishes_posted l s).recd
@[simp] theorem State.finishes_mem0_store (l : List Finish) (s : State) : (s.finishes l).mem0.store = s.mem0.store :=
  (State.finishes_posted l s).mem0_store
@[simp] theorem State.finishes_mem1_store (l : List Finish) (s : State) : (s.finishes l).mem1.store = s.mem1.store :=
  (State.finishes_posted l s).mem1_store
@[simp] theorem State.place_pending (s : State) : (s.place).pending = s.pending := (State.place_posted s).pending
@[simp] theorem State.place_freeCount (s : State) : (s.place).freeCount = s.freeCount := (State.place_posted s).freeCount
@[simp] theorem State.place_regs (s : State) : (s.place).regs = s.regs := (State.place_posted s).regs
@[simp] theorem State.place_boot (s : State) : (s.place).boot = s.boot := (State.place_posted s).boot
@[simp] theorem State.place_time (s : State) : (s.place).time = s.time := (State.place_posted s).time
@[simp] theorem State.place_cfg (s : State) : (s.place).cfg = s.cfg := (State.place_posted s).cfg
@[simp] theorem State.place_seq (s : State) : (s.place).seq = s.seq := (State.place_posted s).seq
@[simp] theorem State.place_ilk (s : State) : (s.place).ilk = s.ilk := (State.place_posted s).ilk
@[simp] theorem State.place_sw (s : State) : (s.place).sw = s.sw := (State.place_posted s).sw
@[simp] theorem State.place_field (s : State) : (s.place).field = s.field := (State.place_posted s).field
@[simp] theorem State.place_lsw (s : State) : (s.place).lsw = s.lsw := (State.place_posted s).lsw
@[simp] theorem State.place_fio (s : State) : (s.place).fio = s.fio := (State.place_posted s).fio
@[simp] theorem State.place_leaves (s : State) : (s.place).leaves = s.leaves := (State.place_posted s).leaves
@[simp] theorem State.place_encs (s : State) : (s.place).encs = s.encs := (State.place_posted s).encs
@[simp] theorem State.place_steps (s : State) : (s.place).steps = s.steps := (State.place_posted s).steps
@[simp] theorem State.place_moves (s : State) : (s.place).moves = s.moves := (State.place_posted s).moves
@[simp] theorem State.place_dies (s : State) : (s.place).dies = s.dies := (State.place_posted s).dies
@[simp] theorem State.place_pwrScale (s : State) : (s.place).pwrScale = s.pwrScale := (State.place_posted s).pwrScale
@[simp] theorem State.place_pwrNow (s : State) : (s.place).pwrNow = s.pwrNow := (State.place_posted s).pwrNow
@[simp] theorem State.place_pwrQuiet (s : State) : (s.place).pwrQuiet = s.pwrQuiet := (State.place_posted s).pwrQuiet
@[simp] theorem State.place_pat (s : State) : (s.place).pat = s.pat := (State.place_posted s).pat
@[simp] theorem State.place_cans (s : State) : (s.place).cans = s.cans := (State.place_posted s).cans
@[simp] theorem State.place_recd (s : State) : (s.place).recd = s.recd := (State.place_posted s).recd
@[simp] theorem State.place_mem0_store (s : State) : (s.place).mem0.store = s.mem0.store :=
  (State.place_posted s).mem0_store
@[simp] theorem State.place_mem1_store (s : State) : (s.place).mem1.store = s.mem1.store :=
  (State.place_posted s).mem1_store

end Sys2Proof.Machine
end

