-- ==== Sys2Proof/Laws/Rows.lean ====
section
/-! SUPPORT. What the shared operations of the commands' meanings can do. -/

namespace Sys2Proof.Machine

@[simp] theorem onObject_of_lt (n i : Nat) (t : State) (h : i < n) : onObject n i t = .next t := if_pos h

theorem onObject_of_le (n i : Nat) (t : State) (h : n ≤ i) : onObject n i t = .fault .noSuchObject := if_neg (Nat.not_lt.mpr h)

/-- Where a command on an object answers a state, the object is there and the state is the one computed. -/
theorem onObject_next (n i : Nat) (t u : State) (h : onObject n i t = .next u) : i < n ∧ u = t := by
  unfold onObject at h
  split at h
  · exact ⟨‹_›, by cases h; rfl⟩
  · cases h

theorem onObject_total (n i : Nat) (t : State) : onObject n i t = .next t ∨ onObject n i t = .fault .noSuchObject := by
  unfold onObject
  split
  · exact .inl rfl
  · exact .inr rfl

@[simp] theorem onObjects_of_lt (n i m j : Nat) (t : State) (h : i < n) (k : j < m) : onObjects n i m j t = .next t := if_pos ⟨h, k⟩

theorem onObjects_next (n i m j : Nat) (t u : State) (h : onObjects n i m j t = .next u) : i < n ∧ j < m ∧ u = t := by
  unfold onObjects at h
  split at h
  · rename_i k; exact ⟨k.1, k.2, by cases h; rfl⟩
  · cases h

theorem onObjects_total (n i m j : Nat) (t : State) : onObjects n i m j t = .next t ∨ onObjects n i m j t = .fault .noSuchObject := by
  unfold onObjects
  split
  · exact .inl rfl
  · exact .inr rfl

@[simp] theorem State.inCore_of (f : State → State) (s : State) (h : s.coreRuns = true) : s.inCore f = (f s).flush := if_pos h
@[simp] theorem State.inStage_of (f : State → State) (s : State) (h : s.started = true) : s.inStage f = (f s).flush := if_pos h
@[simp] theorem State.whenUp_of (f : State → State) (s : State) (h : s.up = true) : s.whenUp f = (f s).flush := if_pos h

@[simp] theorem State.fromPort_of (port : Nat) (f : State → State) (s : State) (h : s.up = true) (k : s.portLive port = true) :
    s.fromPort port f = (f s).flush := by
  unfold State.fromPort; rw [h, k]; rfl

theorem State.inCore_held (f : State → State) (s : State) (h : s.coreRuns = false) : s.inCore f = s := by
  unfold State.inCore; rw [h]; rfl

theorem State.inStage_before (f : State → State) (s : State) (h : s.started = false) : s.inStage f = s := by
  unfold State.inStage; rw [h]; rfl

theorem State.whenUp_before (f : State → State) (s : State) (h : s.up = false) : s.whenUp f = s := by
  unfold State.whenUp; rw [h]; rfl

/-- A change that keeps a relation which posting keeps too is kept by the four guards. -/
theorem State.guards_keep (R : State → State → Prop) (refl : ∀ s, R s s) (flush : ∀ s t, R s t → R s t.flush) (f : State → State)
    (h : ∀ s, R s (f s)) (port : Nat) (s : State) :
    R s (s.inCore f) ∧ R s (s.inStage f) ∧ R s (s.whenUp f) ∧ R s (s.fromPort port f) := by
  refine ⟨?_, ?_, ?_, ?_⟩
  · unfold State.inCore; split
    · exact flush _ _ (h s)
    · exact refl s
  · unfold State.inStage; split
    · exact flush _ _ (h s)
    · exact refl s
  · unfold State.whenUp; split
    · exact flush _ _ (h s)
    · exact refl s
  · unfold State.fromPort; split
    · exact flush _ _ (h s)
    · exact refl s

/-- A host command of a ring of a port, once the configuration is committed (log 9). -/
theorem hostCmd_of (f : Job → State → State) (c : Cmd) (s : State) (h : c.port < 2) (k : c.ring < 64) (u : s.up = true) :
    hostCmd f c s = .next (f ⟨0, s.time.tick, c⟩ s).flush := by
  unfold hostCmd
  rw [State.whenUp_of _ _ u]
  exact onObjects_of_lt _ _ _ _ _ h k

theorem hostCmd_before (f : Job → State → State) (c : Cmd) (s : State) (h : c.port < 2) (k : c.ring < 64) (u : s.up = false) :
    hostCmd f c s = .next s := by
  unfold hostCmd
  rw [State.whenUp_before _ _ u]
  exact onObjects_of_lt _ _ _ _ _ h k

@[simp] theorem State.memRow_zero (f : MemUnit → MemUnit × List Finish) (s : State) :
    s.memRow 0 f = ({ s with mem0 := (f s.mem0).1 } : State).finishes (f s.mem0).2 := rfl

@[simp] theorem State.memRow_one (f : MemUnit → MemUnit × List Finish) (s : State) :
    s.memRow 1 f = ({ s with mem1 := (f s.mem1).1 } : State).finishes (f s.mem1).2 := rfl

theorem State.memRow_pending (m : Nat) (f : MemUnit → MemUnit × List Finish) (s : State) : (s.memRow m f).pending = s.pending := by
  unfold State.memRow; simp only [State.finishes_pending]; split <;> rfl

theorem State.ilkRow_pending (f : IlkIn → Ilk → Ilk × List Ev) (s : State) : (s.ilkRow f).pending = s.pending :=
  State.says_pending _ _

end Sys2Proof.Machine
end

