-- ==== Sys2Proof/Machine/ReadBack.lean ====
section
/-! DEFINITION. What a read of the setup space returns (R10, R11, R27, R438): writable fields as written, the other fields from the
state they report. The table has no row for a plain register read; the two reads that change something are rows of their own. -/

namespace Sys2Proof.Machine

/-- A word of fields (lowest bit, width, value). -/
def fieldsNat (l : List (Nat × Nat × Nat)) : Nat := l.foldr (fun x n => x.2.2 % 2 ^ x.2.1 * 2 ^ x.1 + n) 0

/-- A flag at a bit. -/
def flag (i : Nat) (b : Bool) : Nat × Nat × Nat := (i, 1, b2n b)

/-- Two signed halves of 16 bits. -/
def halves (hi lo : Int) : Nat := fieldsNat [(16, 16, pattern 16 (sat16 hi)), (0, 16, pattern 16 (sat16 lo))]

/-- Bits 32 m to 32 m + 31 of a mask. -/
def part32 (m n : Nat) : Nat := n / 2 ^ (32 * m) % 2 ^ 32

/-- What an instance of each of some registers reads as: the first entry whose register lies at this base. -/
def pickReg (base : Nat) : List (RegRow × Nat) → Nat
  | [] => 0
  | (r, v) :: l => if r.base = base then v else pickReg base l

/-- GEN registers (chapters 01 and 18). -/
def State.readGen (base i : Nat) (s : State) : Nat :=
  pickReg base
    [(Reg.GEN_DEVICE_ID, 0x24800101), (Reg.GEN_DIESET_REV, Config.diesetRev.toNat), (Reg.GEN_DIE_REV, Config.dieRev.toNat),
     (Reg.GEN_SERIAL0, (Config.serialWord 0).toNat), (Reg.GEN_SERIAL1, (Config.serialWord 1).toNat),
     (Reg.GEN_SERIAL2, (Config.serialWord 2).toNat), (Reg.GEN_STRAPS, s.boot.straps % 2 ^ 16),
     (Reg.GEN_LINK_STATUS, fieldsNat [(16, 8, s.links.autonomous), (8, 8, maskOf 8 (fun k => (s.links.l.nth k).sticky)),
       (0, 8, maskOf 8 (fun k => (s.links.l.nth k).up && !(s.links.l.nth k).fault))]),
     (Reg.GEN_LINK_ERRCNT, (s.links.l.nth i).errors),
     (Reg.GEN_RESET_CAUSE, fieldsNat [(16, 8, s.boot.coreResets), flag 8 s.boot.storm, flag 7 s.boot.switchHeld, (0, 7, s.boot.cause)]),
     (Reg.GEN_SUPPLY, fieldsNat [(16, 16, s.boot.vdrvV), (0, 4, s.boot.vdrvLow)]), (Reg.GEN_BOOT_TIME, s.boot.bootUs)]

/-- TCK registers (chapter 02), read by a port in a clock of the tick. -/
def State.readTck (base i port clk : Nat) (s : State) : Nat :=
  let t := s.time
  let dtc := 10000 * t.tick + clk
  pickReg base
    [(Reg.TCK_STATUS, fieldsNat [flag 2 t.ntValid, flag 1 t.armed, flag 0 t.overrun]), (Reg.TCK_TICK_COUNT, t.tick),
     (Reg.TCK_DTC_LO, dtc), (Reg.TCK_DTC_HI_SNAP, t.snapHi.nth port), (Reg.TCK_OVR_COUNT, fieldsNat [(12, 4, t.lastSlot), (0, 12, t.ovrCount)]),
     (Reg.TCK_SLOT_HWM, t.hwm.nth i % 2 ^ 12), (Reg.TCK_NT_NOW, (t.stamp s.regs dtc).1), (Reg.TCK_NT_ANCHOR_NT, t.anchorNt),
     (Reg.TCK_NT_ANCHOR_DTC_LO, part32 0 t.anchorDtc), (Reg.TCK_NT_ANCHOR_DTC_HI, part32 1 t.anchorDtc), (Reg.TCK_NT_RATE, t.rateNow s.regs)]

/-- The timer that SEQ_P_TIMER_NOW shows and its ticks left: the state's own timer before T_LOCK, T_RECLOSE and T_OBS_CLEAR. -/
def SeqPortal.timerNow (x : SeqPortal) : Nat × Nat :=
  if x.timer ≠ 0 then (x.timer, x.left) else if x.tLock ≠ 0 then (6, x.tLock - 1) else if x.tReclose ≠ 0 then (7, x.tReclose - 1)
  else if x.tObs ≠ 0 then (8, x.tObs - 1) else (0, 0)

/-- SEQ registers (chapter 03). -/
def State.readSeq (base i : Nat) (s : State) : Nat :=
  let q := s.seq
  let x := q.portals.nth i
  let k := q.banks.nth i
  let t := x.timerNow
  pickReg base
    [(Reg.SEQ_TRAIN_VIEW, fieldsNat [(8, 6, q.tlUnknown), (0, 6, q.tlActive)]),
     (Reg.SEQ_PORTAL_STATE, fieldsNat ((List.range 8).map (fun p => (4 * p, 4, (q.portals.nth p).st.code)))),
     (Reg.SEQ_STEP_STATE, fieldsNat ([(24, 8, maskOf 8 (fun p => (q.portals.nth p).locked)), (16, 8, maskOf 8 (fun p => (q.portals.nth p).warning))] ++
       (List.range 8).map (fun p => (2 * p, 2, (q.portals.nth p).step.code)))),
     (Reg.SEQ_BANK_STATUS, fieldsNat [(16, 16, min k.elapsed 65535), (8, 8, bankMembers s.regs i), flag 3 k.suspended, flag 2 k.depart,
       flag 1 (decide (k.permit = .unknown)), flag 0 (decide (k.permit = .yes))]),
     (Reg.SEQ_P_STATUS, fieldsNat [(24, 8, x.cause), (20, 4, x.attempt), flag 19 x.ref, flag 18 x.holdPending, (17, 1, x.dir), flag 16 x.warning,
       flag 15 x.locked, flag 14 x.sigOk, flag 13 x.lockB, flag 12 x.lockA, flag 11 (decide ((q.banks.nth (bankOf s.regs i)).permit = .yes)),
       flag 10 (q.pends.any (fun d => d.mask.testBit i)), (4, 2, x.step.code), (0, 4, x.st.code)]),
     (Reg.SEQ_P_TIMER_NOW, fieldsNat [(24, 8, t.1), (0, 16, (t.2 + 19) / 20)]), (Reg.SEQ_P_CYCLES, x.cycles),
     (Reg.SEQ_P_SIG_LAST, pattern 16 (sat16 x.sigLast))]

/-- ILK registers (chapter 04). -/
def State.readIlk (base : Nat) (s : State) : Nat :=
  let k := s.ilk
  pickReg base
    [(Reg.ILK_B_CRC, k.crcB),
     (Reg.ILK_STATUS, fieldsNat [(24, 8, k.cause), (16, 5, k.force), flag 11 k.fb, flag 10 k.outB, flag 9 k.outA, flag 8 k.decB, flag 7 k.decA,
       (0, 2, k.st.code)]),
     (Reg.ILK_PORTAL, fieldsNat [(8, 8, k.bOk), (0, 8, k.aOk)]), (Reg.ILK_READBACK, fieldsNat [(16, 16, k.ls), (0, 16, k.hs)]),
     (Reg.ILK_SUPPLY, k.sup), (Reg.ILK_COUNT, fieldsNat [(16, 16, k.openings), (0, 16, k.discSafe)])]

/-- ARM as the last words built carry it (R145). -/
def State.edgeArmed (l : Nat) (s : State) : Bool := (((s.dies.nth (l / 4)).next.nth 0).edgeArm).testBit (l % 4)

/-- OBS registers (chapter 05). -/
def State.readObs (base i : Nat) (s : State) : Nat :=
  let o := (s.leaves.nth i).obs
  pickReg base
    [(Reg.OBS_EDGE_STATE, fieldsNat ((List.range 16).map (fun l => (2 * l, 2, (s.leaves.nth l).obs.edge)))),
     (Reg.OBS_ACTIVE, fieldsNat [(16, 16, maskOf 16 (fun l => s.edgeArmed l)), (0, 16, maskOf 16 (fun l => decide ((s.leaves.nth l).obs.react ≠ .none)))]),
     (Reg.OBS_L_NOW, halves o.th o.fDir),
     (Reg.OBS_L_STATUS, fieldsNat [(24, 8, o.cause), (15, 9, o.bin), (12, 2, o.edge), flag 11 (s.edgeArmed i), flag 10 (decide (o.react ≠ .none)),
       flag 9 (o.clear s.regs i), flag 8 o.stroke, (0, 1, o.dir)]),
     (Reg.OBS_L_TARGET, pattern 32 o.target), (Reg.OBS_L_TRIP_POS, pattern 32 o.tripPos),
     (Reg.OBS_L_TRIPS, fieldsNat [(16, 16, o.tripsO), (0, 16, o.tripsC)])]

/-- LDR registers (chapter 06). Currents in mA, voltages in 10 mV, resistances in 0.1 mΩ; the high-side switch of a phase is measured before
its low-side switch (log 16). -/
def State.readLdr (base i : Nat) (s : State) : Nat :=
  let d := (s.leaves.nth i).drive
  let b := s.dies.nth i
  let rds := fun (k : Nat) => fieldsNat [(16, 16, d.rds.nth (2 * k)), (0, 16, d.rds.nth (2 * k + 1))]
  let dies := fun (f : BridgeDie → Bool) => maskOf 4 (fun k => f (s.dies.nth k))
  pickReg base
    [(Reg.LDR_L_STATUS, fieldsNat [(12, 4, (s.leafRow i).1), flag 11 d.uvHold, flag 10 d.pwrLimited, flag 9 d.tempDerate, flag 8 d.i2tOn, flag 7 d.relax,
       flag 6 d.ocLatched, (0, 3, (s.leafRow i).2)]),
     (Reg.LDR_L_IDQ, halves d.iq d.id), (Reg.LDR_L_VDQ, halves (divZ d.vq 10) (divZ d.vd 10)),
     (Reg.LDR_L_ANGLE, fieldsNat [(16, 3, (s.leaves.nth i).fbk.code), (0, 16, d.angle)]),
     (Reg.LDR_L_ILIM_NOW, fieldsNat [(16, 16, isqrt (d.msq / 131072)), (0, 16, d.limit)]),
     (Reg.LDR_L_RDSON_U, rds 0), (Reg.LDR_L_RDSON_V, rds 1), (Reg.LDR_L_RDSON_W, rds 2),
     (Reg.LDR_L_RWIND, fieldsNat [(16, 16, pattern 16 d.rwindTemp), (0, 16, d.rwind)]), (Reg.LDR_L_OC_COUNT, d.ocCount),
     (Reg.LDR_DIE, fieldsNat [(16, 16, b.rail), (0, 16, pattern 16 b.temp)]),
     (Reg.LDR_DIE_STATUS, fieldsNat [(16, 4, dies (fun x => x.armed)), (12, 4, dies (fun x => x.tempShut)), (8, 4, dies (fun x => x.tempWarn)),
       (4, 4, dies (fun x => x.ovTrip)), (0, 4, dies (fun x => x.uvHold))]),
     (Reg.LDR_PWR_NOW, fieldsNat [(24, 8, s.pwrScale / 10000), (0, 16, s.pwrNow)])]

/-- MPG registers (chapter 07): set-points in the units of R9, rounded toward zero (R185). -/
def State.readMpg (base i : Nat) (s : State) : Nat :=
  let m := s.moves.nth i
  pickReg base
    [(Reg.MPG_A_CMP_STATUS, fieldsNat [(16, 16, m.cmp.count), flag 2 m.cmp.behind, flag 1 m.cmp.fired, flag 0 m.cmp.armed]),
     (Reg.MPG_A_CMP_DTC_LO, part32 0 m.cmp.dtc), (Reg.MPG_A_CMP_DTC_HI, part32 1 m.cmp.dtc),
     (Reg.MPG_A_STATUS, fieldsNat [(28, 4, m.kind.code), (26, 2, m.set), (20, 4, m.phase.code), flag 7 m.gearSkip,
       flag 6 (m.geared && decide (m.d0 ≠ 0) && decide (m.e0 ≠ 0)), flag 5 m.geared, flag 4 m.limitHit, flag 3 m.limitClamped, flag 2 m.kept,
       flag 0 (decide (m.held ≠ []))]),
     (Reg.MPG_A_TARGET, pattern 32 m.target), (Reg.MPG_A_REMAIN, m.remain), (Reg.MPG_A_PSET, pattern 32 m.pos),
     (Reg.MPG_A_VSET, pattern 32 m.speed), (Reg.MPG_A_ASET, pattern 32 (divZ m.aSet q16)),
     (Reg.MPG_MOVING, maskOf 24 (fun a => (s.moves.nth a).phase.moving)), (Reg.MPG_HELD, maskOf 24 (fun a => decide ((s.moves.nth a).held ≠ [])))]

/-- STP registers (chapter 08). -/
def State.readStp (base i : Nat) (s : State) : Nat :=
  let d := s.steps.nth i
  pickReg base
    [(Reg.STP_S_STATUS, fieldsNat [(12, 4, (s.stepRow i).1), flag 11 (decide (d.homing = .backoff) || decide (d.homing = .approach) || decide (d.homing = .final)),
       flag 10 d.homed, flag 9 d.slip, flag 8 d.stall, flag 7 d.ocLatched, flag 6 d.loadValid, flag 5 d.vclamp,
       flag 4 (decide (d.iRun = s.stepCeiling i)), flag 3 d.reduced, (0, 3, (s.stepRow i).2)]),
     (Reg.STP_S_LOAD, fieldsNat [(16, 16, d.load), (0, 16, d.iRun)]), (Reg.STP_S_IPH, halves d.iB d.iA),
     (Reg.STP_S_VPH, halves (divZ d.vB 10) (divZ d.vA 10)), (Reg.STP_S_TRIM, pattern 16 (d.trim / 256)),
     (Reg.STP_S_HOME_TRIP, pattern 32 d.tripPos), (Reg.STP_S_HOME_STAT, fieldsNat [(16, 16, d.ignored), (0, 8, d.homeCnt)]),
     (Reg.STP_S_COUNT, fieldsNat [(16, 16, d.stalls), (0, 16, d.ocCount)])]

/-- FBK registers (chapter 09). -/
def State.readFbk (base i : Nat) (s : State) : Nat :=
  let b := (s.leaves.nth i).fbk
  let e := s.encs.nth i
  pickReg base
    [(Reg.FBK_FAULT, fieldsNat [(16, 8, maskOf 8 (fun k => decide ((s.encs.nth k).cause ≠ 0))),
       (0, 16, maskOf 16 (fun l => decide ((s.leaves.nth l).fbk.cause ≠ 0)))]),
     (Reg.FBK_L_STATUS, fieldsNat [(12, 4, b.cause), flag 11 (noEncoder s.regs i), flag 10 (encoderSource s.regs i), flag 9 b.hallMm, flag 8 b.seqErr,
       flag 7 b.invalid, flag 6 b.zero, flag 5 b.dirChg, flag 4 (decide (0 < b.lastSign)), (0, 3, b.code)]),
     (Reg.FBK_L_POS, pattern 32 b.posReg), (Reg.FBK_L_SPEED, pattern 32 b.speed), (Reg.FBK_L_HALLCNT, pattern 32 b.hallCnt),
     (Reg.FBK_L_ERRCNT, fieldsNat [(16, 16, b.dirChanges), (0, 16, b.seqErrors)]),
     (Reg.FBK_E_STATUS, fieldsNat [(12, 4, e.cause), flag 7 e.indexMm, flag 6 e.phaseErr, flag 5 e.idxSeen, flag 4 (decide (0 < e.lastSign)),
       (0, 3, e.lines.filt)]),
     (Reg.FBK_E_COUNT, pattern 32 e.cnt), (Reg.FBK_E_IDX_POS, pattern 32 e.idxPos),
     (Reg.FBK_E_IDX_SPAN, fieldsNat [(24, 8, pattern 8 (clampI (-128) 127 e.hallEdges)), (0, 24, pattern 24 e.span)]),
     (Reg.FBK_E_ERRCNT, fieldsNat [(16, 16, e.phaseErrors), (0, 16, e.mismatches)])]

/-- PAT registers (chapter 10): trends without their fraction. Instance i of a family of seven is quantity 5 + i % 7 of portal i / 7. -/
def State.readPat (base i : Nat) (s : State) : Nat :=
  let p := s.pat.st.portals.nth i
  let l := s.pat.st.leaves.nth i
  let q := 5 + i % 7
  let whole := fun (t : Trend) => (clampI 0 65535 (near8 t.v)).toNat
  let marks := fun (armQ : ArmQ → Bool) (quant : Quant → Bool) =>
    maskOf 23 (fun k =>
      if k < 4 then armQ (s.armQ k (2 * i)) else if k = 4 then quant (s.quant 4 (2 * i))
      else if 8 ≤ k ∧ k < 12 then armQ (s.armQ (k - 8) (2 * i + 1)) else if k = 12 then quant (s.quant 4 (2 * i + 1))
      else decide (16 ≤ k) && quant (s.quant (k - 11) i))
  pickReg base
    [(Reg.PAT_P_PENDING, marks (fun x => x.pending) (fun x => x.pending)), (Reg.PAT_P_FROZEN, marks (fun x => x.frozen) (fun x => x.frozen)),
     (Reg.PAT_P_SAMPLES, fieldsNat [(16, 16, p.excluded), (0, 16, p.sampled)]), (Reg.PAT_P_STEPI, whole (p.trends.nth 2)),
     (Reg.PAT_P_VAL, fieldsNat [(16, 16, (s.quant q (i / 7)).prop), (0, 16, s.inUse q (i / 7))]),
     (Reg.PAT_P_DAT, fieldsNat [(16, 16, whole (s.quantTrend q (i / 7))), (0, 16, ((s.quant q (i / 7)).datum).getD (s.commissioned q (i / 7)))]),
     (Reg.PAT_P_PSEQ, p.pseq % 256), (Reg.PAT_P_ALARM, p.alarm % 256),
     (Reg.PAT_L_ENERGY, fieldsNat [(16, 16, whole (l.trends.nth 1)), (0, 16, whole (l.trends.nth 0))]),
     (Reg.PAT_L_FRIC, fieldsNat [(16, 16, whole (l.trends.nth 3)), (0, 16, whole (l.trends.nth 2))]),
     (Reg.PAT_L_RES, fieldsNat [(16, 16, whole (l.trends.nth 5)), (0, 16, whole (l.trends.nth 4))]),
     (Reg.PAT_L_CUSH, fieldsNat [(16, 16, l.cush.prop), (0, 16, s.inUse 4 i)]),
     (Reg.PAT_L_CUSH_DAT, fieldsNat [(16, 16, whole (l.trends.nth 7)), (0, 16, (l.cush.datum).getD (s.commissioned 4 i))]),
     (Reg.PAT_L_REJ, fieldsNat [(16, 16, l.rejConsec), (0, 16, l.rejTotal)]), (Reg.PAT_L_ALARM, l.alarm % 256)]

/-- LSW registers (chapter 11): as the last link 4 frame reported them (R287). -/
def State.readLsw (base i : Nat) (s : State) : Nat :=
  let v := s.lsw.view.nth i
  let opened := maskOf 48 (fun k => (s.lsw.view.nth k).openLoad)
  pickReg base
    [(Reg.LSW_STATUS, fieldsNat [(16, 16, pattern 16 s.lsw.swTemp), flag 2 s.lsw.armed, flag 1 (s.links.autonomous.testBit 4),
       flag 0 (s.links.l.nth 4).fault]),
     (Reg.LSW_STATE, fieldsNat ((List.range 8).map (fun k => (4 * k, 4, (s.lsw.view.nth (8 * i + k)).st.code)))),
     (Reg.LSW_CMD_LO, part32 0 s.lsw.cmd), (Reg.LSW_CMD_HI, part32 1 s.lsw.cmd), (Reg.LSW_OPEN_LO, part32 0 opened), (Reg.LSW_OPEN_HI, part32 1 opened),
     (Reg.LSW_DIM_STATUS, s.lsw.dim % 256), (Reg.LSW_G_STATUS, fieldsNat [(16, 16, s.lsw.railMin.nth i), (0, 16, s.lsw.rail.nth i)]),
     (Reg.LSW_G_FLAGS, fieldsNat [flag 2 (s.lsw.snsFault.testBit i), flag 1 (s.lsw.dip.testBit i), flag 0 (s.lsw.uv.testBit i)]),
     (Reg.LSW_C_STATUS, fieldsNat [(28, 4, v.cause), (24, 4, v.tries), (16, 8, v.inrUse), flag 7 (s.seqOwns i), flag 6 v.cmd, flag 5 v.cond,
       flag 4 v.openLoad, (0, 4, v.st.code)]),
     (Reg.LSW_C_CURRENT, halves v.peak v.mean), (Reg.LSW_C_TEMP, fieldsNat [(16, 16, v.pauseMs), (0, 16, pattern 16 (sat16 v.temp))]),
     (Reg.LSW_C_COUNT, fieldsNat [(16, 16, v.thTrips), (0, 16, v.ocTrips)]), (Reg.LSW_C_TURN_ONS, v.turnOns)]

/-- UNK_CAUSE of a field input (R298): the lowest-coded cause that stands; 0 none. -/
def State.unkCause (i : Nat) (s : State) : Nat :=
  if (s.links.l.nth 5).fault || !s.fio.seen5 then 1 else if !s.fio.dieUnk.testBit i then 0 else if s.fio.supply ≠ 0 then 2 else 3

/-- FIO registers (chapter 12). -/
def State.readFio (base i : Nat) (s : State) : Nat :=
  let f := s.fio
  let x := f.ins.nth i
  let o := f.outs.nth i
  pickReg base
    [(Reg.FIO_SUPPLY, fieldsNat [(16, 16, f.fsV), flag 2 ((s.links.l.nth 5).up && !(s.links.l.nth 5).fault), flag 1 (decide (f.supply = 2)),
       flag 0 (decide (f.supply ≠ 0))]),
     (Reg.FIO_IN_STATE_LO, part32 0 f.act), (Reg.FIO_IN_STATE_HI, part32 1 f.act), (Reg.FIO_IN_UNK_LO, part32 0 s.unkInputs),
     (Reg.FIO_IN_UNK_HI, part32 1 s.unkInputs), (Reg.FIO_IN_WB_LO, part32 0 f.wb), (Reg.FIO_IN_WB_HI, part32 1 f.wb),
     (Reg.FIO_OUT_STATE, fieldsNat [(16, 16, f.outHigh), (0, 16, f.outCmd)]),
     (Reg.FIO_OUT_FLAGS, fieldsNat [(16, 16, maskOf 16 (fun j => (f.outs.nth j).forced)), (0, 16, maskOf 16 (fun j => (f.outs.nth j).low))]),
     (Reg.FIO_TL_STATUS, fieldsNat [(16, 16, f.tlV.nth i), (8, 8, f.tlC.nth i), flag 2 (f.tlIndet.testBit i), flag 1 (s.unkTrain.testBit i),
       flag 0 (f.tlAct.testBit i)]),
     (Reg.FIO_F_STATUS, fieldsNat [(16, 8, x.c), flag 7 (f.chg.testBit i), flag 6 (f.wb.testBit i), (4, 2, s.unkCause i),
       flag 1 (s.unkInputs.testBit i), flag 0 (f.act.testBit i)]),
     (Reg.FIO_F_CURRENT, x.mean), (Reg.FIO_F_COUNT, fieldsNat [(16, 16, x.wbEvents), (0, 16, x.changes)]),
     (Reg.FIO_O_STATUS, fieldsNat [(16, 16, o.volt), flag 4 o.thermal, flag 3 o.low, flag 2 o.forced, flag 1 (f.outHigh.testBit i),
       flag 0 (f.outCmd.testBit i)]),
     (Reg.FIO_O_COUNT, fieldsNat [(16, 16, o.forcedEvents), (0, 16, o.lowEvents)])]

/-- CAN registers (chapter 13). A frame on its way in is not held by the model: ACTIVITY shows the one on its way out. -/
def State.readCan (base i : Nat) (s : State) : Nat :=
  let c := s.cans.nth i
  let g := s.cans.nth (i / 4)
  let k := s.cans.nth (i / 128)
  let o := i % 128
  pickReg base
    [(Reg.CAN_C_MODE, 4 * (c.mode % 4)),
     (Reg.CAN_C_STATUS, fieldsNat [(16, 8, c.recover), (8, 7, c.tdcv), (5, 3, c.lec), flag 4 c.tx.isSome, flag 3 c.alone,
       flag 2 (decide (96 ≤ c.tec) || decide (96 ≤ c.recv)),
       (0, 2, if c.busOff then 2 else if c.mode = 0 then 3 else if 128 ≤ c.tec ∨ 128 ≤ c.recv then 1 else 0)]),
     (Reg.CAN_C_ERRCNT, fieldsNat [(16, 9, c.tec), (0, 8, c.recv)]), (Reg.CAN_C_COUNT, fieldsNat [(16, 16, c.busOffs), (0, 16, c.px)]),
     (Reg.CAN_C_RXCNT, fieldsNat [(16, 16, c.unmatched), (0, 16, c.received)]), (Reg.CAN_C_TXCNT, fieldsNat [(16, 16, c.failed), (0, 16, c.sent)]),
     (Reg.CAN_C_NT, fieldsNat [(16, 16, c.missed), (0, 16, c.refs)]), (Reg.CAN_C_NEW, part32 (i % 4) g.new), (Reg.CAN_C_LOST, part32 (i % 4) g.lost),
     (Reg.CAN_C_TXREQ, part32 (i % 4) g.txreq), (Reg.CAN_C_TXFAIL, part32 (i % 4) g.txfail),
     (Reg.CAN_O_STATUS, fieldsNat [(16, 16, (lookupKey o k.lostCnt).getD 0), (8, 4, min ((lookupKey o k.retries).getD 0) 15),
       flag 5 (masterObj s.regs (i / 128) o), flag 4 (k.poisoned.testBit o), flag 3 (k.txfail.testBit o), flag 2 (k.txreq.testBit o),
       flag 1 (k.lost.testBit o), flag 0 (k.new.testBit o)])]

/-- HIF registers (chapter 14). -/
def State.readHif (base i : Nat) (s : State) : Nat :=
  let h := s.hif
  let p := h.ports.nth i
  let x := h.ringOf (i / 64) (i % 64)
  let held := fun (port : Nat) => (h.tracker.filter (fun t => decide (t.job.cmd.port = port))).length
  pickReg base
    [(Reg.HIF_TRACK, fieldsNat [(16, 8, (h.tracker.filter (fun t => decide (ringClass s.regs t.job.cmd.port t.job.cmd.ring = 0))).length),
       (8, 8, held 1), (0, 8, held 0)]),
     (Reg.HIF_TRACK_HWM, h.hwm % 2 ^ 9),
     (Reg.HIF_GUAR, fieldsNat [flag 4 (h.g6.nth 1).suspended, flag 3 (h.g6.nth 0).suspended, flag 2 (h.g5.nth 1).suspended,
       flag 1 (h.g5.nth 0).suspended, flag 0 h.g3.suspended]),
     (Reg.HIF_PAGE_OWN, fieldsNat ((List.range 16).map (fun k => (2 * k, 2, h.owner (16 * i + k))))), (Reg.HIF_PAGE_BUSY, part32 i h.busy),
     (Reg.HIF_P_STATUS, fieldsNat [(24, 8, held i), (17, 7, h.pageReads i + h.fetchReads i), flag 16 p.extTag,
       flag 7 (decide (s.regs.HIF_CFG_SAFETY_PORT = i)), flag 6 p.bme, (4, 2, p.width), (2, 2, p.speed), flag 0 p.linkUp]),
     (Reg.HIF_P_STAT0, fieldsNat [(16, 16, p.jetsIgnored), (0, 16, p.pageViol)]), (Reg.HIF_P_STAT1, fieldsNat [(16, 16, p.lost), (0, 16, p.unrouted)]),
     (Reg.HIF_P_STAT2, fieldsNat [(16, 16, p.lateFetch), (0, 16, p.deferred)]), (Reg.HIF_P_EVSEQ, p.seq),
     (Reg.HIF_R_STATUS, fieldsNat [(16, 8, h.inFlight (i / 64) (i % 64)), flag 8 (x.phase && decide (x.st ≠ .disabled)), (4, 4, x.errCause), (0, 2, x.st.code)]),
     (Reg.HIF_R_IDX, fieldsNat [(16, 16, x.host), (0, 16, x.dev)]),
     (Reg.HIF_R_CQ_IDX, if ringIsEvent s.regs (i / 64) (i % 64) then 0 else fieldsNat [(16, 16, x.cqHost), (0, 16, x.cqDev)]),
     (Reg.HIF_R_COUNT, x.written)]

/-- Code of a memory's activity (MEM_STATUS). -/
def MemActivity.code : MemActivity → Nat
  | .none => 0 | .hostPass => 1 | .patrol => 2 | .injection => 3

/-- MEM registers (chapter 15). -/
def State.readMem (base i : Nat) (s : State) : Nat :=
  let u := if i = 0 then s.mem0 else s.mem1
  let v := u.sl
  pickReg base
    [(Reg.MEM_STATUS, fieldsNat [(8, 2, s.mem1.activity.code), (4, 2, s.mem0.activity.code), flag 1 s.mem0.store.filled,
       flag 0 (s.boot.straps.testBit 0)]),
     (Reg.MEM_FILL_TIME, s.boot.fillClocks), (Reg.MEM_M_WEIR_NOW, fieldsNat [(16, 16, u.overflows), (0, 16, u.weirLevel)]),
     (Reg.MEM_M_CE_COUNT, u.ceCount), (Reg.MEM_M_UE_COUNT, fieldsNat [(16, 16, u.consumed), (0, 16, u.ueCount)]), (Reg.MEM_M_CE_ADDR, u.ceAddr),
     (Reg.MEM_M_UE_ADDR, u.ueAddr), (Reg.MEM_M_SL_STATUS, fieldsNat [(6, 2, v.source), (4, 2, v.outcome), flag 0 v.running]),
     (Reg.MEM_M_SL_WORDS, v.words), (Reg.MEM_M_SL_CE, v.ce), (Reg.MEM_M_SL_UNWRITTEN, v.unwritten), (Reg.MEM_M_SL_POS, v.pos),
     (Reg.MEM_M_SL_UE, fieldsNat [(16, 16, min v.poisoned 65535), (0, 16, min v.ue 65535)]), (Reg.MEM_M_SL_FIRST_UE, v.firstUe),
     (Reg.MEM_M_SL_LAST_UE, v.lastUe), (Reg.MEM_M_INJ_STATUS, fieldsNat [flag 1 u.injFired, flag 0 (decide (u.activity = .injection))])]

/-- REC registers (chapter 16), read by a port. An upper half shows what the read of its lower half copied (R53). -/
def State.readRec (base i port : Nat) (s : State) : Nat :=
  let r := s.recd
  let u := r.units.nth i
  let hi := fun (k : Nat) => (r.snaps.nth port).nth k
  pickReg base
    [(Reg.REC_STATUS, fieldsNat [flag 16 r.headSkip, (8, 8, r.staged.length), flag 1 (decide (507904 < r.commit)), flag 0 r.headValid]),
     (Reg.REC_NEXT_LO, r.next), (Reg.REC_NEXT_HI, hi 0), (Reg.REC_COMMIT_LO, r.commit), (Reg.REC_COMMIT_HI, hi 1), (Reg.REC_OLDEST_LO, if r.headValid then r.oldest else 0),
     (Reg.REC_OLDEST_HI, hi 2), (Reg.REC_COUNT, fieldsNat [(16, 16, r.damaged), (0, 16, r.cuts)]), (Reg.REC_P_LAG, s.recLag i),
     (Reg.REC_P_SKIPPED, r.skipped.nth i),
     (Reg.REC_U_STATUS, fieldsNat [(24, 8, u.count), (14, 10, u.page), (9, 5, u.target), flag 8 u.portal, (6, 2, u.outcome), (3, 1, u.port),
       (0, 2, if u.st = 1 ∧ u.trig ≠ 0 then 2 else u.st)]),
     (Reg.REC_U_INDEX, fieldsNat [(16, 16, u.valid), (0, 16, u.trigIdx)]), (Reg.REC_U_TRIG_DTC_LO, part32 0 u.trigDtc),
     (Reg.REC_U_TRIG_DTC_HI, part32 1 u.trigDtc)]

/-- CFG registers (chapter 17). -/
def State.readCfg (base i : Nat) (s : State) : Nat :=
  let c := s.cfg
  let b := c.banks.nth i
  pickReg base
    [(Reg.CFG_STATUS, fieldsNat [flag 25 (c.groupOpen.nth 1), flag 24 (c.groupOpen.nth 0), flag 23 c.install.isSome, flag 22 c.request.isSome,
       (16, 5, (c.request.map (fun q => q.relief)).getD 0x1F), (8, 5, c.relief), (2, 1, c.bank), flag 1 c.noImage, flag 0 c.committed]),
     (Reg.CFG_ID, c.id), (Reg.CFG_GEN, c.gen),
     (Reg.CFG_REJECT, fieldsNat [(28, 4, c.rejCause), (27, 1, c.rejPort), flag 24 c.reject, (0, 20, c.rejOff)]), (Reg.CFG_REJECT_COUNT, c.rejCount),
     (Reg.CFG_GROUP_FILL, fieldsNat [(16, 9, (c.groups.nth 1).length), (0, 9, (c.groups.nth 0).length)]),
     (Reg.CFG_BANKb_STATE, fieldsNat [(4, 4, b.cause), flag 1 b.valid, flag 0 b.committed]), (Reg.CFG_BANKb_GEN, b.gen), (Reg.CFG_BANKb_ID, b.id),
     (Reg.CFG_LOAD_TIME, c.loadUs)]

/-- What the device's own fields of a register show; zero where it has none. -/
def State.readOwn (r : RegRow) (i port clk : Nat) (s : State) : Nat :=
  let b := r.base
  if b < 0x10000 then s.readGen b i
  else if b < 0x20000 then s.readTck b i port clk
  else if b < 0x30000 then s.readSeq b i
  else if b < 0x40000 then s.readIlk b
  else if b < 0x50000 then s.readObs b i
  else if b < 0x60000 then s.readLdr b i
  else if b < 0x70000 then s.readMpg b i
  else if b < 0x80000 then s.readStp b i
  else if b < 0x90000 then s.readFbk b i
  else if b < 0xA0000 then s.readPat b i
  else if b < 0xB0000 then s.readLsw b i
  else if b < 0xC0000 then s.readFio b i
  else if b < 0xD0000 then s.readCan b i
  else if b < 0xE0000 then s.readHif b i
  else if b < 0xF0000 then s.readMem b i
  else if b < 0xF8000 then s.readRec b i port
  else s.readCfg b i

/-- The reset value of a GEN or CFG register as a read before the commit returns it (R438): the identity and the sampled straps are
reset values of their own (R4). -/
def State.readBefore (r : RegRow) (i : Nat) (s : State) : Nat := if r.base ≤ 0x20 then s.readGen r.base i else r.reset i

/-- The word that a read of a port at an offset returns in a clock of the tick (R10, R11); be: byte enables of the access. A read that is
not of a whole aligned register is 0. Before the configuration commit the GEN and CFG blocks read as after reset and every other offset as
zero (R438). An upper half that was copied shows the copy. -/
def State.readReg (port off be clk : Nat) (s : State) : Word :=
  if be ≠ 15 then 0 else
  match findReg off with
  | none => 0
  | some (r, i) =>
    if !s.up then (if off < 0x10000 ∨ 0xF8000 ≤ off then BitVec.ofNat 32 (s.readBefore r i) else 0)
    else if r.base = Reg.REC_P_FROM_HI.base then BitVec.ofNat 32 ((s.recd.snaps.nth port).nth (3 + i))
    else (s.regs.word r i &&& BitVec.ofNat 32 (r.rw ||| r.rwl)) ||| BitVec.ofNat 32 (s.readOwn r i port clk)

end Sys2Proof.Machine
end

