-- ==== Sys2Proof/Tests/Slice0.lean ====
section
/-! SUPPORT. The model's own tests: terms that well-formedness refuses, small states that meet the hypotheses of the statements (one
theorem per statement, one conjunct per clause, at the ends of the operands' ranges), a few single steps. -/

set_option Elab.async false

namespace Sys2Proof.Tests

open Sys2Proof.Machine

/-! Ill-formed commands. -/

/-- A host command of port A, ring 63. -/
def cmdA (level index : Nat) (param : Word) : Cmd := ⟨0, 63, level, index, param, 0, 0, 0⟩

/-- A command of a ring that is not there. -/
def cmdBad : Cmd := ⟨0, 64, 4, 0, 0, 0, 0, 0⟩

/-- What the world shows in a quiet tick. -/
def quiet : TickIn :=
  ⟨List.replicate 11 0, true, true, List.replicate 4 ⟨0, 0, List.replicate 16 0, 0, 0, 0⟩, [], [], 0, 0, 0, 0, 0, []⟩

theorem test_wf_tick :
    (Instr.tick quiet).wf = true ∧ (Instr.tick { quiet with slotClocks := [] }).wf = false ∧
    (Instr.tick { quiet with dies := [] }).wf = false ∧
    (Instr.tick { quiet with dies := List.replicate 4 ⟨0, 0, [], 0, 0, 0⟩ }).wf = false ∧
    (Instr.tick { quiet with hall := List.replicate 17 [] }).wf = false ∧
    (Instr.tick { quiet with enc := List.replicate 9 [] }).wf = false ∧
    (Instr.tickOverrun 0 0 0 0 quiet).wf = false ∧ (Instr.tickOverrun 12 0 0 0 quiet).wf = false ∧
    (Instr.tickOverrun 11 0 0 0 { quiet with dies := [] }).wf = false := by decide

theorem test_wf_supplies :
    (Instr.vdrvLow 4 0).wf = false ∧ (Instr.vdrvRecovered 4 0).wf = false ∧ (Instr.portReset 2 .flr).wf = false ∧
    (Instr.portUp 2 0 0).wf = false ∧ (Instr.pcieConfigRequest 2 .other).wf = false := by decide

theorem test_wf_bridge :
    (Instr.carrierPeriodStart 4 0 true).wf = false ∧ (Instr.carrierPeriodStart 3 2 true).wf = false ∧ (Instr.bridgeSafeState 4).wf = false ∧
    (Instr.leafComparatorTrip 16 0).wf = false ∧ (Instr.leafComparatorTrip 15 3).wf = false ∧ (Instr.stepComparatorTrip 8 0).wf = false ∧
    (Instr.stepComparatorTrip 7 2).wf = false ∧ (Instr.edgeClassChange 16 ⟨0, 1000⟩).wf = false ∧ (Instr.edgeClassChange 15 ⟨0, 1000⟩).wf = true := by
  decide

theorem test_wf_switch :
    (Instr.lswEvaluation [] (List.replicate 48 0) (List.replicate 6 0)).wf = false ∧
    (Instr.lswEvaluation (List.replicate 48 0) [] (List.replicate 6 0)).wf = false ∧
    (Instr.lswEvaluation (List.replicate 48 0) (List.replicate 48 0) []).wf = false ∧ (Instr.lswComparatorTrip 48 0).wf = false ∧
    (Instr.inrushWindowEnd 48).wf = false ∧ (Instr.pauseEnd 48).wf = false ∧ (Instr.settleExpired 48).wf = false ∧
    (Instr.groupUnderVoltage 6 0).wf = false ∧ (Instr.groupUvRecovered 6 0).wf = false ∧ (Instr.uvStaggeredRestart 48).wf = false ∧
    (Instr.openLoadQualified 48 true).wf = false ∧ (Instr.dimEdge 8 true).wf = false ∧ (Instr.railDip 6 0 0).wf = false ∧
    (Instr.senseUpdate 6).wf = false := by decide

theorem test_wf_field :
    (Instr.fieldSample [] (List.replicate 64 0) 0 (List.replicate 16 0)).wf = false ∧
    (Instr.fieldSample (List.replicate 64 0) [] 0 (List.replicate 16 0)).wf = false ∧
    (Instr.fieldSample (List.replicate 64 0) (List.replicate 64 0) 0 []).wf = false ∧ (Instr.wireBreak 64 true 0).wf = false ∧
    (Instr.fieldOutputThermal 16 true).wf = false ∧ (Instr.trainlineSample []).wf = false ∧ (Instr.tlIndeterminate 6).wf = false := by decide

theorem test_wf_portals :
    (Instr.tUnlockExpired 8).wf = false ∧ (Instr.tOpenExpired 8).wf = false ∧ (Instr.tCloseExpired 8).wf = false ∧
    (Instr.tLockExpired 8).wf = false ∧ (Instr.tDwellExpired 8).wf = false ∧ (Instr.tWarnExpired 8).wf = false ∧
    (Instr.tRecloseExpired 8).wf = false ∧ (Instr.tObsClearExpired 8).wf = false ∧ (Instr.tStepExpired 8).wf = false ∧
    (Instr.signaturePulse 8).wf = false ∧ (Instr.sigPulseJudged 8 0).wf = false ∧ (Instr.pendingOpenTaken 8).wf = false ∧
    (Instr.pendDeadline 8).wf = false ∧ (Instr.departMsExpired 4).wf = false ∧ (Instr.cycleCut 8).wf = false := by decide

theorem test_wf_leaves :
    (Instr.obsTrip 16 1).wf = false ∧ (Instr.obsReactionDone 16).wf = false ∧ (Instr.ldrUvHold 4).wf = false ∧
    (Instr.ldrUvResume 4).wf = false ∧ (Instr.ldrRailOv 4).wf = false ∧ (Instr.ldrOvRecovered 4).wf = false ∧
    (Instr.ldrOcLatch 16 0).wf = false ∧ (Instr.ldrOcLatch 15 3).wf = false ∧ (Instr.injectionRequest 16).wf = false ∧
    (Instr.ldrRwindDone 16 true).wf = false ∧ (Instr.stpStall 8 true).wf = false ∧ (Instr.standstillReduction 8).wf = false ∧
    (Instr.stpOcLatch 8 0).wf = false ∧ (Instr.stpOcLatch 7 2).wf = false ∧ (Instr.homingTrip 8).wf = false ∧
    (Instr.fbkHallFault 16 1).wf = false ∧ (Instr.fbkHallFault 15 0).wf = false ∧ (Instr.fbkHallFault 15 4).wf = false ∧
    (Instr.fbkEncoderFault 8 4).wf = false ∧ (Instr.fbkEncoderFault 7 3).wf = false ∧ (Instr.fbkEncoderFault 7 6).wf = false ∧ (Instr.errorWindowClose true 8).wf = false ∧
    (Instr.errorWindowClose false 16).wf = false ∧ (Instr.errorWindowClose false 15).wf = true ∧ (Instr.fbkZeroSpeed 16).wf = false := by
  decide

theorem test_wf_can :
    (Instr.canFrameStart 4 0).wf = false ∧ (Instr.canFrameReceived 4 ⟨false, 0, false, false, false, false, 0, []⟩ 0).wf = false ∧
    (Instr.canTxDone 4 0).wf = false ∧ (Instr.canFailedAttempt 4 0 false false).wf = false ∧ (Instr.canReceiveError 4 0 false).wf = false ∧
    (Instr.canBusoffRecovered 4).wf = false ∧ (Instr.canProtocolException 4).wf = false ∧ (Instr.canModeWrite 2 0 0).wf = false ∧
    (Instr.canModeWrite 1 4 0).wf = false ∧ (Instr.canMode 4).wf = false ∧ (Instr.canObjEnWrite 2 0 0 0).wf = false ∧
    (Instr.canObjEnWrite 1 4 0 0).wf = false ∧ (Instr.canObjEnWrite 1 3 4 0).wf = false := by decide

theorem test_wf_host :
    (Instr.jetTail 2 0 0 0).wf = false ∧ (Instr.jetTail 1 64 0 0).wf = false ∧ (Instr.jetCq 2 0 0 0).wf = false ∧
    (Instr.jetCq 1 64 0 0).wf = false ∧ (Instr.descriptorFetch 2 0).wf = false ∧ (Instr.descriptorFetch 1 64).wf = false ∧
    (Instr.fetchCompletion 2 0 [] false 0).wf = false ∧ (Instr.fetchCompletion 1 64 [] false 0).wf = false ∧
    (Instr.fetchCompletion 1 63 [[]] false 0).wf = false ∧ (Instr.msixModerationTimeout 2 0).wf = false ∧
    (Instr.msixModerationTimeout 1 64).wf = false ∧ (Instr.guaranteeRestored 7 0).wf = false ∧ (Instr.guaranteeRestored 6 2).wf = false ∧
    (Instr.bar2Write 2 0 []).wf = false ∧ (Instr.bar2Read 2 0 1).wf = false ∧ (Instr.completionTimeout 2 true 0).wf = false ∧
    (Instr.completionTimeout 1 true 1024).wf = false ∧ (Instr.completionTimeout 1 false 64).wf = false ∧
    (Instr.pageInReadCompletion 2 0 0 [] false).wf = false ∧ (Instr.pageInReadCompletion 1 1024 0 [] false).wf = false ∧
    (Instr.msixTableWrite 2 0 true).wf = false ∧ (Instr.msixTableWrite 1 32 true).wf = false := by decide

theorem test_wf_registers :
    (Instr.dtcLoRead 2 0).wf = false ∧ (Instr.recSeqLoRead 2 0).wf = false ∧ (Instr.recSeqLoRead 1 5).wf = false ∧
    (Instr.registerWrite 2 0 0 15 0).wf = false ∧ (Instr.genReset 2 0).wf = false ∧ (Instr.ldrClrOc 16).wf = false ∧
    (Instr.cmpPosWrite 2 0 0 0).wf = false ∧ (Instr.cmpPosWrite 1 24 0 0).wf = false ∧ (Instr.disarm 24 0).wf = false ∧
    (Instr.stpClrOc 8).wf = false ∧ (Instr.clrHall 16).wf = false ∧ (Instr.clrEnc 8).wf = false ∧ (Instr.clrStat 2).wf = false ∧
    (Instr.enable 2 0).wf = false ∧ (Instr.enable 1 64).wf = false ∧ (Instr.disable 2 0).wf = false ∧ (Instr.disable 1 64).wf = false ∧
    (Instr.cfgGroupOpen 2).wf = false ∧ (Instr.cfgGroupCommit 2 0).wf = false := by decide

theorem test_wf_engines :
    (Instr.pageTransferDone 2 0).wf = false ∧ (Instr.pageTransferDone 1 1024).wf = false ∧ (Instr.sluiceDone 2).wf = false ∧
    (Instr.patrolDue 2).wf = false ∧ (Instr.weirLeak 2).wf = false ∧ (Instr.drainDone 2).wf = false ∧ (Instr.captureSample 4).wf = false := by
  decide

theorem test_wf_commands :
    [Instr.seqOpen, .seqClose, .seqReopen, .seqHold, .crewClose, .isolate, .deisolate, .clearFault, .resetManual, .armLoad, .armRead,
      .tblLoad, .tblRead, .accept, .refuse, .thaw, .propRead, .lswSwitch, .lswRestart, .setOut, .txSend, .rxRead, .txAbort, .nop,
      .pageTake, .pageGive, .pagePass, .pageIn, .pageOut, .sluice, .inject, .stop, .drain, .capArm, .capTrigger, .capStop, .reliefSet,
      .imgWrite, .imgCommit, .imgRead].all (fun f => !(f cmdBad).wf && !(f { cmdBad with port := 2, ring := 0 }).wf && (f (cmdA 4 0 0)).wf) =
      true := by decide

/-! States. -/

/-- A machine that runs, its configuration committed, port A enabled with its link up. -/
def base : State :=
  { State.reset with
    boot := { State.reset.boot with phase := .running, straps := 32 }
    cfg := { State.reset.cfg with committed := true }
    hif := { State.reset.hif with ports := State.reset.hif.ports.upd 0 (fun p => { p with linkUp := true }) } }

/-- The last portal of the machine changed. -/
def portal7 (f : SeqPortal → SeqPortal) : State := { base with seq := { base.seq with portals := base.seq.portals.upd 7 f } }

/-- The last portal in a state. -/
def in7 (st : PState) : State := portal7 (fun x => { x with st := st })

/-- The last leaf changed. -/
def leaf15 (f : Leaf → Leaf) : State := { base with leaves := base.leaves.upd 15 f }

/-- The last step changed. -/
def step7 (f : StepDrive → StepDrive) : State := { base with steps := base.steps.upd 7 f }

/-- The last die changed. -/
def die3 (f : BridgeDie → BridgeDie) : State := { base with dies := base.dies.upd 3 f }

/-- The switch die changed. -/
def switch (f : SwitchDie → SwitchDie) : State := { base with sw := f base.sw }

/-- The last channel changed. -/
def chan47 (f : Chan → Chan) : State := switch (fun d => { d with chans := d.chans.upd 47 f })

/-- The field die changed. -/
def fieldDie (f : FieldDie → FieldDie) : State := { base with field := f base.field }

/-- The interlock changed. -/
def ilkIs (f : Ilk → Ilk) : State := { base with ilk := f base.ilk }

/-- The last controller changed. -/
def can3 (f : CanCtl → CanCtl) : State := { base with cans := base.cans.upd 3 f }

/-- The host interface changed. -/
def hifIs (f : Hif → Hif) : State := { base with hif := f base.hif }

/-- Ring 63 of port A changed. -/
def ring63 (f : Ring → Ring) : State := hifIs (Hif.port 0 (Port.ring 63 f))

/-- Some registers written. -/
def withRegs (l : List (RegRow × Nat × Word)) (s : State) : State :=
  { s with regs := l.foldl (fun f x => f.setWord x.1 x.2.1 x.2.2) s.regs }

/-- Trainlines known, ZS and the releases active. -/
def permits (s : State) : State :=
  { s with fio := { s.fio with seen4 := true, tlAct := 7, tlIndet := 0, tlUnk := 0, seen5 := true, dieUnk := 0 } }

/-! Witnesses of the statements' hypotheses. -/

theorem witness_StepRunsFrontCommand : base.pending = [] := by decide

theorem witness_CarrierPeriod : 3 < 4 ∧ 1 < 2 ∧ base.sendsWords = true := by decide

theorem witness_BridgeDieEvents :
    (3 < 4 ∧ 2 ≤ ((die3 (fun d => { d with missed := 2 })).dies.nth 3).missed) ∧ (15 < 16 ∧ 2 < 3) ∧ (7 < 8 ∧ 1 < 2) ∧
    (15 < 16 ∧ 999 < 1000 ∧ 1000 ≤ 1000 ∧ (base.dies.nth (15 / 4)).edge.nth (15 % 4) = edgeClass 6500 ∧
      (base.dies.nth (15 / 4)).edge.nth (15 % 4) ≠ edgeClass 1999) := by decide

theorem witness_RailDecisions :
    3 < 4 ∧ (base.coreRuns = true ∧ (base.dies.nth 3).uvHold = false ∧ (base.dies.nth 3).ovTrip = false) ∧
    (die3 (fun d => { d with uvHold := true })).coreRuns = true ∧ ((die3 (fun d => { d with uvHold := true })).dies.nth 3).uvHold = true := by
  decide

theorem witness_OverCurrentLatch :
    (15 < 16 ∧ 2 < 3 ∧ base.coreRuns = true ∧ (base.leaves.nth 15).drive.ocLatched = false) ∧
    (7 < 8 ∧ 1 < 2 ∧ (base.steps.nth 7).ocLatched = false) ∧ (base.up = true ∧ (base.seq.portals.nth 7).st.clearsOc = true) ∧
    (in7 .opening).up = true ∧ ((in7 .opening).seq.portals.nth 7).st.clearsOc = false := by decide

/-- Step 7 in the approach of a HOME move, with or without a home input. -/
def homing7 (input : Word) : State :=
  withRegs [(Reg.STP_S_CFG, 7, input)]
    { step7 (fun d => { d with homing := .approach }) with moves := base.moves.upd 23 (fun m => { m with kind := .home, phase := .idle }) }

theorem witness_StepDriveEvents :
    7 < 8 ∧ base.started = true ∧ ((base.moves.nth (16 + 7)).kind ≠ .home ∨ (base.steps.nth 7).homing ≠ .approach) ∧
    ((homing7 0).started = true ∧ (homing7 0).regs.STP_S_CFG_HOME_IN 7 < 64 ∧ ((homing7 0).steps.nth 7).homing = .approach) ∧
    (((homing7 0xFFFFFFFF).moves.nth (16 + 7)).kind = .home ∧ ((homing7 0xFFFFFFFF).steps.nth 7).homing = .approach ∧
      64 ≤ (homing7 0xFFFFFFFF).regs.STP_S_CFG_HOME_IN 7) ∧
    (base.moves.nth (16 + 7)).phase.moving = false := by decide

/-- Leaf 15 and encoder port 7 with a fault cause. -/
def caused (l e : Nat) : State :=
  { leaf15 (fun x => { x with fbk := { x.fbk with cause := l } }) with encs := base.encs.upd 7 (fun x => { x with cause := e }) }

theorem witness_FeedbackEvents :
    (15 < 16 ∧ 1 ≤ 1 ∧ 1 ≤ 3 ∧ 3 ≤ 3 ∧ base.started = true ∧ (base.leaves.nth 15).fbk.cause = 0) ∧
    ((caused 2 5).started = true ∧ ((caused 2 5).leaves.nth 15).fbk.cause ≠ 0 ∧ ((caused 2 5).encs.nth 7).cause ≠ 0) ∧
    (7 < 8 ∧ 4 ≤ 4 ∧ 4 ≤ 5 ∧ 5 ≤ 5 ∧ (base.encs.nth 7).cause = 0) ∧ (0 < 1 ∧ 3 < 4) ∧ 3 < 4 ∧ 5 < 6 := by decide

theorem witness_SwitchDieLinkLoss :
    (base.boot.phase ≠ .deviceReset ∧ base.sw.bad = 0) ∧
    ((switch (fun d => { d with bad := 2 })).boot.phase ≠ .deviceReset ∧ 2 ≤ (switch (fun d => { d with bad := 2 })).sw.bad) ∧
    1 ≤ (switch (fun d => { d with bad := 1 })).sw.bad := by decide

/-- A frame of link 4 that the core die has sent. -/
def framed4 (f : SwitchDie → SwitchDie) : State :=
  { switch f with links := { base.links with now4 := { base.links.now4 with sent := true } } }

theorem witness_SwitchDieTakesFrame :
    ((framed4 (fun d => { d with auto := true })).coreRuns = true ∧ (framed4 (fun d => { d with auto := true })).links.now4.sent = true ∧
      (framed4 (fun d => { d with auto := true })).sw.auto = true ∧ (framed4 (fun d => { d with auto := true })).links.now4.resync = false) ∧
    (framed4 (fun d => { d with auto := false, armed := true })).coreRuns = true ∧
    (framed4 (fun d => { d with auto := false, armed := true })).links.now4.sent = true ∧
    (framed4 (fun d => { d with auto := false, armed := true })).sw.auto = false ∧
    (framed4 (fun d => { d with auto := false, armed := true })).sw.armed = true ∧ 47 < 48 := by decide

theorem witness_ChannelBFollowsLink6 :
    (fieldDie (fun f => { f with up := true })).boot.phase ≠ .deviceReset ∧ (fieldDie (fun f => { f with up := true })).field.up = true := by
  decide

/-- Channel 47 conducts. -/
def conducts : State := chan47 (fun c => { c with cond := true, st := .on })

/-- A channel tripped. -/
def tripped : State :=
  switch (fun d => { d with chans := d.chans.upd 47 (fun c => { c with st := .on, trip := true }) })

theorem witness_ChannelTrips :
    (47 < 48 ∧ conducts.boot.phase ≠ .deviceReset ∧ (conducts.sw.chans.nth 47).cond = true ∧
      ((conducts.sw.chans.nth 47).level (chSet conducts.sw.settings 47) : Int) ≤ 1000000) ∧
    (tripped.boot.phase ≠ .deviceReset ∧ (tripped.sw.chans.nth 47).st.isOn = true ∧ (tripped.sw.chans.nth 47).trip = true) ∧
    ((chan47 (fun c => { c with st := .on, trip := false })).sw.chans.nth 47).st.isOn = true ∧ 1750 ≤ (List.replicate 48 (1750 : Int)).nth 47 := by
  decide

theorem witness_ChannelTimers :
    (47 < 48 ∧ (chan47 (fun c => { c with st := .inrush })).boot.phase ≠ .deviceReset ∧
      ((chan47 (fun c => { c with st := .inrush })).sw.chans.nth 47).st = .inrush) ∧
    (((chan47 (fun c => { c with st := .pause, cmd := true, temp := 1549 })).sw.chans.nth 47).st = .pause ∧
      ((chan47 (fun c => { c with st := .pause, cmd := true, temp := 1549 })).sw.chans.nth 47).cmd = true ∧
      ((chan47 (fun c => { c with st := .pause, cmd := true, temp := 1549 })).sw.chans.nth 47).temp < 1550 ∧
      ((chan47 (fun c => { c with st := .pause, cmd := true, temp := 1549 })).sw.groups.nth (47 / 8)).uv = false) ∧
    ((chan47 (fun c => { c with st := .on })).sw.chans.nth 47).st = .on ∧
    (((chan47 (fun c => { c with st := .uvOff, pause := 0, temp := 1549 })).sw.chans.nth 47).st = .uvOff ∧
      ((chan47 (fun c => { c with st := .uvOff, pause := 0, temp := 1549 })).sw.groups.nth (47 / 8)).uv = false ∧
      ((chan47 (fun c => { c with st := .uvOff, pause := 0, temp := 1549 })).sw.chans.nth 47).pause = 0 ∧
      ((chan47 (fun c => { c with st := .uvOff, pause := 0, temp := 1549 })).sw.chans.nth 47).temp < 1550) := by decide

/-- Open-load diagnosis on channel 47, which is on. -/
def diagnoses : State :=
  switch (fun d => { d with chans := d.chans.upd 47 (fun c => { c with st := .on, openLoad := false }),
                            settings := d.settings.setWord Reg.LSW_C_CFG 47 0xFFFFFFFF })

theorem witness_ChannelTimers_openLoad :
    diagnoses.boot.phase ≠ .deviceReset ∧ (diagnoses.sw.chans.nth 47).st = .on ∧ (chSet diagnoses.sw.settings 47).olEn = true ∧
    (diagnoses.sw.chans.nth 47).openLoad ≠ true := by decide

theorem witness_GroupUnderVoltage :
    (5 < 6 ∧ (chan47 (fun c => { c with st := .on })).boot.phase ≠ .deviceReset ∧
      ((chan47 (fun c => { c with st := .on })).sw.groups.nth 5).uv = false ∧
      ((chan47 (fun c => { c with st := .on, trip := true })).sw.chans.nth (8 * 5 + 7)).trip = true ∧
      1750 ≤ ((chan47 (fun c => { c with st := .on, temp := 1750 })).sw.chans.nth (8 * 5 + 7)).temp ∧
      ((chan47 (fun c => { c with st := .on, temp := 1749 })).sw.chans.nth (8 * 5 + 7)).st.isOn = true ∧
      ((chan47 (fun c => { c with st := .on, temp := 1749 })).sw.chans.nth (8 * 5 + 7)).trip = false ∧
      ((chan47 (fun c => { c with st := .on, temp := 1749 })).sw.chans.nth (8 * 5 + 7)).temp < 1750) ∧
    (((switch (fun d => { d with groups := d.groups.upd 5 (fun g => { g with uv := true })
                                 chans := d.chans.upd 47 (fun c => { c with st := .uvOff }) })).sw.groups.nth 5).uv = true ∧
      ((switch (fun d => { d with groups := d.groups.upd 5 (fun g => { g with uv := true })
                                  chans := d.chans.upd 47 (fun c => { c with st := .uvOff }) })).sw.chans.nth (8 * 5 + 7)).st = .uvOff) ∧
    (base.sw.groups.nth 5).bestUs < 50 := by decide

theorem witness_DimAndSense :
    base.boot.phase ≠ .deviceReset ∧ 7 < 8 ∧ base.sw.settings.LSW_DIM_CFG_DIM_REARM = 0 ∧ (chSet base.sw.settings 47).dimSel ≠ 7 ∧ 5 < 6 ∧
    base.sw.settings.LSW_G_SENSE_MODE 5 = 0 ∧
    (switch (fun d => { d with settings := d.settings.setWord Reg.LSW_G_SENSE 5 0x71 })).sw.settings.LSW_G_SENSE_MODE 5 = 1 ∧
    (switch (fun d => { d with settings := d.settings.setWord Reg.LSW_G_SENSE 5 0x71 })).sw.settings.LSW_G_SENSE_SEL 5 = 7 ∧
    ((chan47 (fun c => { c with st := .latched })).sw.chans.nth (8 * 5 + 7)).snsFault = true := by decide

/-- Channel B at a pulse's moment. -/
def pulses : State := switch (fun d => { d with tickNo := 300, closed := true, chB := { d.chB with cond := true } })

/-- Channel A's decision stands against channel B's. -/
def disagreesB : State := switch (fun d => { d with passA := true, decA := true })

theorem witness_TrainlinesAndChannelB :
    base.boot.phase ≠ .deviceReset ∧
    (5 < 6 ∧ ((switch (fun d => { d with tl := d.tl.upd 5 (fun x => { x with band := 1 }) })).sw.tl.nth 5).band ≠ 0) ∧
    (pulses.sw.tickNo % 400 = 300 ∧ pulses.sw.closed = true ∧ pulses.sw.chB.cond = true) ∧
    (disagreesB.sw.passA = true ∧ disagreesB.sw.decA = true ∧ disagreesB.sw.chB.decB = false ∧ disagreesB.sw.fault6 = false ∧
      disagreesB.sw.chB.latch = false) := by decide

/-- The field die runs with its outputs live, a frame of link 5 sent. -/
def framed5 (f : FieldDie → FieldDie) : State :=
  { fieldDie (fun d => f { d with up := true, armed := true, outsOff := false, supply := 0 }) with
    links := { base.links with now5 := { base.links.now5 with sent := true } } }

theorem witness_FieldDieFrames :
    ((framed5 id).boot.phase ≠ .deviceReset ∧ (framed5 id).field.up = true ∧ (framed5 id).coreRuns = true ∧ (framed5 id).links.now5.sent = true ∧
      15 < 16) ∧
    ((framed5 (fun d => { d with outsOff := true, good := 6 })).field.outsOff = true ∧
      (framed5 (fun d => { d with outsOff := true, good := 6 })).field.good < 7) ∧
    3 ≤ (framed5 (fun d => { d with bad := 3 })).field.bad ∧ 4 ≤ (framed5 (fun d => { d with bad := 4 })).field.bad ∧
    (fieldDie (fun d => { d with up := false })).field.up = false := by decide

/-- The wire-break check on field input 63. -/
def checksWire : State := framed5 (fun d => { d with settings := d.settings.setWord Reg.FIO_F_CFG 63 0xFFFFFFFF })

theorem witness_FieldSupply :
    ((framed5 id).boot.phase ≠ .deviceReset ∧ (framed5 id).field.up = true ∧ (framed5 id).field.supply ≠ 2 ∧ (framed5 id).field.supply ≠ 1) ∧
    (framed5 (fun d => { d with supply := 1 })).field.supply = 1 ∧
    (63 < 64 ∧ checksWire.field.up = true ∧ checksWire.field.supply = 0 ∧ checksWire.field.settings.FIO_F_CFG_WB_EN 63 ≠ 0 ∧
      (checksWire.field.ins.nth 63).wb ≠ true) ∧ 15 < 16 := by decide

theorem witness_FieldSampleFilters :
    ((framed5 id).boot.phase ≠ .deviceReset ∧ (framed5 id).field.up = true ∧ 63 < 64 ∧ (framed5 id).field.settings.FIO_F_CFG_FILT 63 ≠ 0 ∧
      (framed5 (fun d => { d with settings := d.settings.setWord Reg.FIO_F_CFG 63 0 })).field.settings.FIO_F_CFG_FILT 63 = 0) ∧
    ((framed5 id).field.settings.FIO_F_CFG_TYPE 63 ≠ 0 ∧ 1100 ≤ (List.replicate 64 1100).nth 63 ∧ (List.replicate 64 500).nth 63 ≤ 500 ∧
      500 < (List.replicate 64 501).nth 63 ∧ (List.replicate 64 1099).nth 63 < 1100) ∧
    (framed5 (fun d => { d with settings := d.settings.setWord Reg.FIO_F_CFG 63 0 })).field.settings.FIO_F_CFG_TYPE 63 = 0 := by decide

/-- The interlock closed, in a test pulse; the two channels as given. -/
def ilkAt (a b : Bool) : State := ilkIs (fun k => { k with st := .closed, pulseA := true, decA := a, decB := b, fbTicks := 1, safeSent := false })

/-- The interlock closed while field input 63 is its contact feedback. -/
def watched : State :=
  withRegs [(Reg.ILK_FB, 0, 63)] { ilkAt true true with fio := { base.fio with seen5 := true, dieUnk := 0, act := 0 } }

theorem witness_InterlockRows :
    ((ilkAt true true).started = true ∧ (ilkAt true true).ilk.pulseA = true ∧ (ilkAt true true).ilk.st = .closed) ∧
    ((ilkAt true false).started = true ∧ (ilkAt true false).ilk.decA = true ∧ (ilkAt true false).ilk.decB = false ∧
      ((ilkAt true false).links.l.nth 4).fault = false ∧ ((ilkAt true false).links.l.nth 6).fault = false ∧
      (ilkAt true false).ilk.st = .closed) ∧
    ((ilkAt false true).started = true ∧ (ilkAt false true).ilk.decA = false ∧ (ilkAt false true).ilk.decB = true ∧
      ((ilkAt false true).links.l.nth 4).fault = false ∧ ((ilkAt false true).links.l.nth 6).fault = false ∧
      (ilkAt false true).ilk.safeSent = false) ∧
    (watched.started = true ∧ watched.ilk.fbTicks ≠ 0 ∧ (watched.ilkIn default).feedback.isSome = true ∧ watched.ilk.st = .closed) ∧
    base.boot.phase ≠ .deviceReset ∧ (ilkIs (fun k => { k with st := .opened })).ilk.st = .opened := by decide

/-- The machine in a phase of start-up. -/
def phaseIs (p : Phase) : State := { base with boot := { base.boot with phase := p } }

/-- The time changed. -/
def timeIs (f : Time → Time) : State := { base with time := f base.time }

theorem witness_TickRuns :
    ({ base with boot := { base.boot with resetAsked := true } } : State).boot.resetAsked = true ∧
    (phaseIs (.linkUp 15)).boot.resetAsked = false ∧ (phaseIs (.linkUp 15)).boot.phase = .linkUp 15 ∧
    (phaseIs (.linkUp 14)).boot.phase = .linkUp 14 ∧ (phaseIs .first).boot.resetAsked = false ∧ (phaseIs .first).boot.phase = .first ∧
    base.boot.resetAsked = false ∧ base.boot.phase = .running ∧ (phaseIs .testMode).boot.phase = .testMode ∧
    (phaseIs .coreReset).boot.phase = .coreReset ∧ State.reset.boot.resetAsked = false ∧ State.reset.boot.phase = .deviceReset := by decide

theorem witness_TickOverrunHolds :
    11 < 12 ∧ 1 ≤ 1 ∧ 1 ≤ 11 ∧ 11 ≤ 11 ∧ quiet.more = [] ∧ base.boot.resetAsked = false ∧ base.boot.phase = .running ∧ base.time.overrun = false ∧
    (phaseIs .first).boot.phase = .first ∧
    (timeIs (fun t => { t with overrun := true })).boot.resetAsked = false ∧
    (timeIs (fun t => { t with overrun := true })).boot.phase = .running ∧
    (timeIs (fun t => { t with overrun := true })).time.overrun = true ∧
    (timeIs (fun t => { t with overrun := true })).time.clrAsked = false := by decide

/-- A hold whose release is asked, n ticks after the last overrun. -/
def holds (n : Nat) : State := timeIs (fun t => { t with overrun := true, ovrCount := 1, sinceOvr := n, clrAsked := true })

theorem witness_SafeHoldRelease :
    base.up = true ∧ ((holds 16).time.clrAsked = true ∧ (holds 16).time.ovrCount ≠ 0 ∧ (holds 16).time.sinceOvr ≤ 16) ∧
    ((holds 17).time.clrAsked = true ∧ (holds 17).time.overrun = true ∧ 16 < (holds 17).time.sinceOvr) ∧
    (holds 17).boot.resetAsked = false ∧ (holds 17).boot.phase = .running := by decide

theorem witness_DeviceResets : 999 < 1000 ∧ 1000 ≤ 1000 := by decide

theorem witness_CoreResets : State.reset.coreRuns = false ∧ base.coreRuns = true := by decide

theorem witness_ResetReleased :
    (base.boot.phase ≠ .deviceReset ∧ base.boot.phase ≠ .coreReset) ∧
    (State.reset.boot.phase = .deviceReset ∧ (256).testBit 8 = true) ∧
    ((phaseIs .coreReset).boot.phase = .coreReset ∧ (160).testBit 8 = false ∧ (160).testBit 7 = true) ∧
    ({ State.reset with boot := { State.reset.boot with storm := true } } : State).boot.storm = true := by decide

theorem witness_GateSupply : 3 < 4 ∧ base.coreRuns = true := by decide

/-- The other port: strap 6 enables port B. -/
def bothPorts : State :=
  { base with
    boot := { base.boot with straps := 96 }
    hif := { base.hif with ports := (base.hif.ports.upd 0 (fun p => { p with linkUp := true })).upd 1 (fun p => { p with linkUp := true }) } }

theorem witness_PortResetAndUp :
    0 < 2 ∧ 1 < 2 ∧ bothPorts.coreRuns = true ∧ portEnabled bothPorts.boot.straps 0 = true ∧ portEnabled bothPorts.boot.straps 1 = true := by decide

theorem witness_ConfigRequests :
    (bothPorts.portLive 0 = true ∧ bothPorts.portLive 1 = true ∧ bothPorts.coreRuns = true ∧ (bothPorts.hif.ports.nth 1).upOwed = false) ∧
    ({ bothPorts with boot := { bothPorts.boot with phase := .coreReset } } : State).portLive 1 = true ∧
    ({ bothPorts with boot := { bothPorts.boot with phase := .coreReset } } : State).coreRuns = false ∧ (512 = 128 ∨ 512 = 256 ∨ 512 = 512) := by
  decide

theorem witness_DtcRead : 1 < 2 ∧ bothPorts.up = true ∧ bothPorts.portLive 1 = true := by decide

theorem witness_RegisterWrites :
    (0 < 2 ∧ base.up = true ∧ base.portLive 0 = true ∧ base.cfg.saved = []) ∧ (7 ≠ 15 ∧ 0x21021 % 4 ≠ 0 ∧ 0x100000 ≤ 0x100000) ∧
    portReg (1 - 0) 0xD5000 = true ∧ (7 < 8 ∧ base.cfg.groupOpen.nth 0 = false) ∧ base.cfg.reject = false ∧
    ({ base with cfg := { base.cfg with reject := true } } : State).cfg.reject = true ∧
    (base.seq.portals.nth 7).st = .isolated ∧ ((in7 .held).seq.portals.nth 7).st ≠ .isolated ∧
    15 < 16 ∧ (base.leaves.nth 15).drive.mode ≠ 3 ∧ (base.leaves.nth 15).drive.mode ≠ 4 := by decide

theorem witness_RegisterRows :
    (bothPorts.up = true ∧ bothPorts.portLive 0 = true ∧ bothPorts.portLive 1 = true ∧ bothPorts.cfg.saved = []) ∧
    bothPorts.regs.HIF_CFG_SAFETY_PORT = 0 ∧ bothPorts.regs.HIF_CFG_SAFETY_PORT ≠ 1 ∧ (0x48580000 : Word).getLsbD 0 = false ∧ 23 < 24 ∧
    bothPorts.cfg.groupOpen.nth 1 = false ∧
    (3 < 4 ∧ ((can3 (fun c => { c with mode := 1 })).cans.nth 3).busOff = false ∧ ((can3 (fun c => { c with mode := 1 })).cans.nth 3).mode ≠ 0) ∧
    (127 < 128 ∧ 127 / 32 = 3 ∧
      objEnabled (withRegs [(Reg.CAN_C_OBJ_EN, 15, 0x80000000), (Reg.CAN_O_CFG, 511, 0x00000001)] base).regs 3 127 = true ∧
      objTx (withRegs [(Reg.CAN_C_OBJ_EN, 15, 0x80000000), (Reg.CAN_O_CFG, 511, 0x00000001)] base).regs 3 127 = true) := by decide

theorem witness_ControlClears : base.up = true ∧ 1 < 2 := by decide

theorem witness_ControlRequests : base.up = true ∧ 23 < 24 ∧ 0 < 2 ∧ base.portLive 0 = true := by decide

theorem witness_FeedbackClears :
    (base.up = true ∧ 15 < 16 ∧ ((in7 .opening).seq.portals.nth 7).st.clearsFbk = false) ∧
    ((base.seq.portals.nth 7).st.clearsFbk = true ∧ (base.leaves.nth 15).fbk.invalid = false ∧
      (base.leaves.nth 15).fbk.causeAt ≠ base.time.tick + 1) ∧
    (7 < 8 ∧ (withRegs [(Reg.FBK_E_CFG, 7, 0x0000000F)] (in7 .opening)).regs.FBK_E_CFG_LEAF 7 = 15 ∧
      ((withRegs [(Reg.FBK_E_CFG, 7, 0x0000000F)] (in7 .opening)).seq.portals.nth (15 / 2)).st.clearsFbk = false) ∧
    ((withRegs [(Reg.FBK_E_CFG, 7, 0x0000000F)] base).regs.FBK_E_CFG_LEAF 7 < 16 ∧ (base.encs.nth 7).causeAt ≠ base.time.tick + 1) := by
  decide

/-- Lock inputs 62 and 63 of portal 7 read as the two bits of v. -/
def locks (v : Nat) (s : State) : State :=
  withRegs [(Reg.SEQ_P_INMAP, 7, 0xFFFF3F3E)] { s with fio := { s.fio with seen5 := true, dieUnk := 0, act := v * 2 ^ 62 } }

theorem witness_PortalTimers :
    (7 < 8 ∧ base.started = true ∧ ((in7 .unlocking).seq.portals.nth 7).st = .unlocking) ∧
    ((in7 .opening).seq.portals.nth 7).st = .opening ∧ ((in7 .reopening).seq.portals.nth 7).st = .reopening ∧
    (((locks 1 (in7 .closing)).seq.portals.nth 7).st = .closing ∧ (locks 1 (in7 .closing)).atClosed 7 = true ∧
      ((locks 1 (in7 .closing)).seq.portals.nth 7).locked = false ∧
      (locks 1 (in7 .closing)).lockRead ((locks 1 (in7 .closing)).regs.SEQ_P_INMAP_LOCK_A 7) = .locked ∧
      (locks 1 (in7 .closing)).lockRead ((locks 1 (in7 .closing)).regs.SEQ_P_INMAP_LOCK_B 7) = .unlocked) ∧
    ((locks 0 (in7 .closing)).lockRead ((locks 0 (in7 .closing)).regs.SEQ_P_INMAP_LOCK_A 7) =
      (locks 0 (in7 .closing)).lockRead ((locks 0 (in7 .closing)).regs.SEQ_P_INMAP_LOCK_B 7) ∧ (locks 0 (in7 .closing)).atClosed 7 = true ∧
      ((locks 0 (in7 .closing)).seq.portals.nth 7).locked = false) ∧
    (((in7 .opened).seq.portals.nth 7).st = .opened ∧ ((in7 .opened).seq.portals.nth 7).warning = false) ∧
    (((portal7 (fun x => { x with st := .opened, warning := true })).seq.portals.nth 7).st = .opened ∧
      ((portal7 (fun x => { x with st := .opened, warning := true })).seq.portals.nth 7).warning = true) ∧
    (((in7 .obstructed).seq.portals.nth 7).st = .obstructed ∧ ((in7 .obstructed).seq.portals.nth 7).dir = 0 ∧ (in7 .obstructed).reacting 7 = false ∧
      (in7 .obstructed).obsClear 7 = true ∧
      ((in7 .obstructed).seq.portals.nth 7).attempt < (in7 .obstructed).regs.SEQ_P_CFG_RECLOSE_MAX 7) ∧
    ((portal7 (fun x => { x with step := .deploying })).seq.portals.nth 7).step = .deploying ∧
    ((portal7 (fun x => { x with step := .stowing })).seq.portals.nth 7).step = .stowing := by decide

/-- Portal 7 obstructed, an edge of its leaf 14 pressed. -/
def pressed : State :=
  withRegs [(Reg.OBS_L_EDGE, 14, 0xFFFFFFFF)]
    { in7 .obstructed with leaves := base.leaves.upd 14 (fun x => { x with obs := { x.obs with edge := 1 } }) }

theorem witness_PortalTimers_notClear :
    pressed.started = true ∧ (pressed.seq.portals.nth 7).st = .obstructed ∧ pressed.reacting 7 = false ∧ pressed.obsClear 7 = false := by
  decide

/-- Portal 7 closed and locked, both lock inputs read so. -/
def lockedIn : State := portal7 (fun x => { x with st := .closedLocked, lockA := true, lockB := true })

theorem witness_SignaturePulses :
    (7 < 8 ∧ ({ lockedIn with time := { base.time with armed := true } } : State).started = true ∧
      (lockedIn.seq.portals.nth 7).st = .closedLocked ∧ (lockedIn.seq.portals.nth 7).lockA = true ∧
      (lockedIn.seq.portals.nth 7).lockB = true ∧ (lockedIn.seq.portals.nth 7).sigOk = false ∧
      ({ lockedIn with time := { base.time with armed := true } } : State).atClosed 7 = true ∧
      (lockedIn.seq.portals.nth 7).pulse = 0 ∧ (lockedIn.seq.portals.nth 7).sigWait = 0) ∧
    (((portal7 (fun x => { x with pulse := 1 })).seq.portals.nth 7).pulse ≠ 0 ∧
      ((portal7 (fun x => { x with pulse := 1 })).regs.SEQ_P_LOCKSIG_SIG_MIN 7 : Int) ≤
        ((portal7 (fun x => { x with pulse := 1 })).regs.SEQ_P_LOCKSIG_SIG_MAX 7 : Int) ∧
      ((portal7 (fun x => { x with pulse := 1 })).regs.SEQ_P_LOCKSIG_SIG_MAX 7 : Int) < 65536) := by decide

/-- An OPEN that waits on portals 6 and 7. -/
def waits : Pend := ⟨⟨0, 0, cmdA 3 0 0⟩, 192, 0, 0, 0, 0, 1, false, false⟩

/-- Portal 6 held, portal 7 closed and locked, an OPEN waits on both, and the release is there. -/
def waiting : State :=
  permits { base with seq := { base.seq with
    pends := [waits]
    portals := (base.seq.portals.upd 6 (fun x => { x with st := .held, before := .held })).upd 7 (fun x =>
      { x with st := .closedLocked, before := .closedLocked }) } }

/-- The same while a departure close runs in portal 7's bank. -/
def departing : State :=
  { waiting with seq := { waiting.seq with banks := waiting.seq.banks.upd (bankOf waiting.regs 7) (fun b => { b with depart := true }) } }

theorem witness_PendingOpens :
    (7 < 8 ∧ waiting.started = true ∧ waits.psd = false ∧ waits.mask < 256 ∧
      waiting.seq.pends.filter (fun d => d.mask.testBit 7) = [waits]) ∧
    (waits.permitted (waiting.seqCtx false) = true ∧ (⟨waiting.seq, [], []⟩ : SeqOut).pendLost (waiting.seqCtx false) waits = false) ∧
    (waits.mask.testBit 6 = true ∧ (waiting.seq.portals.nth 6).st = .held ∧ waits.mask.testBit 7 = true ∧
      (waiting.seq.portals.nth 7).st = .closedLocked ∧ waits.mask.testBit 0 = false) ∧
    (∀ k, k < 8 → waits.mask.testBit k = true → (waiting.seq.banks.nth (bankOf waiting.regs k)).depart = false) ∧
    (waits.permitted (departing.seqCtx false) = true ∧ (⟨departing.seq, [], []⟩ : SeqOut).pendLost (departing.seqCtx false) waits = false ∧
      waits.safety = false ∧ (departing.seq.banks.nth (bankOf departing.regs 7)).depart = true) ∧
    3 < 4 ∧ (({ base with seq := { base.seq with banks := base.seq.banks.upd 3 (fun b => { b with depart := true }) } } : State).seq.banks.nth 3).depart =
      true ∧ (base.seq.banks.nth 3).suspended = false := by decide

/-- The hypotheses that the commands on one portal share, on portal 7. -/
def Ready (s : State) : Prop :=
  s.up = true ∧ s.seq.pends = [] ∧ (s.seq.portals.nth 7).moved = 0 ∧ (s.seq.banks.nth (bankOf s.regs 7)).depart = false ∧
  groupAuth s.regs 0 (bankOf s.regs 7) 0 = true ∧ groupAuth s.regs 0 (bankOf s.regs 7) 1 = true ∧ groupAuth s.regs 0 (bankOf s.regs 7) 2 = true

theorem witness_SeqStrokes :
    ((cmdA 2 7 0).port < 2 ∧ (cmdA 2 7 0).ring < 64 ∧ 7 < 8 ∧ (cmdA 2 7 0).level = 2 ∧ (cmdA 2 7 0).index = 7 ∧ (cmdA 2 7 0).param = 0) ∧
    (Ready (permits (in7 .closedLocked)) ∧ (permits (in7 .closedLocked)).permitOf (bankOf base.regs 7) = .yes ∧
      ((permits (in7 .closedLocked)).seqCtx false).emClose = false ∧ ((permits (in7 .closedLocked)).seq.portals.nth 7).st = .closedLocked) ∧
    (Ready (permits (in7 .closing)) ∧ (permits (in7 .closing)).permitOf (bankOf base.regs 7) = .yes ∧
      ((permits (in7 .closing)).seqCtx false).emClose = false ∧ ((permits (in7 .closing)).seq.portals.nth 7).st = .closing) ∧
    (Ready (in7 .opened) ∧ ((in7 .opened).seq.portals.nth 7).st = .opened ∧ ((in7 .opened).seq.portals.nth 7).warning = false) ∧
    Ready (in7 .closedLocked) ∧ Ready (in7 .held) ∧ ((in7 .held).seq.portals.nth 7).st = .held := by
  unfold Ready; decide

theorem witness_SeqService :
    (Ready (in7 .closedLocked) ∧ ((in7 .closedLocked).seq.portals.nth 7).st = .closedLocked) ∧
    (Ready (withRegs [(Reg.SEQ_BANK_MAP, 0, 0x00FF0000)] (in7 .isolated)) ∧
      ((withRegs [(Reg.SEQ_BANK_MAP, 0, 0x00FF0000)] (in7 .isolated)).seq.portals.nth 7).st = .isolated ∧
      ((withRegs [(Reg.SEQ_BANK_MAP, 0, 0x00FF0000)] (in7 .isolated)).seqCtx false).isol 7 = false ∧
      portalOn (withRegs [(Reg.SEQ_BANK_MAP, 0, 0x00FF0000)] (in7 .isolated)).regs 7 = true) ∧
    (Ready (in7 .fault) ∧ ((in7 .fault).seq.portals.nth 7).st = .fault ∧
      ((in7 .fault).seq.portals.nth 7).disagrees ((in7 .fault).seqCtx false) 7 = false ∧ ((in7 .fault).seqCtx false).fbFault 7 = false ∧
      (in7 .fault).portalSafe 7 = false) ∧
    (Ready (in7 .manual) ∧ ((in7 .manual).seq.portals.nth 7).st = .manual ∧ ((in7 .manual).seqCtx false).emRel 7 = false ∧
      ((in7 .manual).seq.portals.nth 7).disagrees ((in7 .manual).seqCtx false) 7 = false ∧ ((in7 .manual).seqCtx false).fbFault 7 = false ∧
      (in7 .manual).portalSafe 7 = false) := by
  unfold Ready; decide

theorem witness_SeqService_refused :
    (withRegs [(Reg.SEQ_AUTH, 0, 0)] (in7 .held)).up = true ∧ (withRegs [(Reg.SEQ_AUTH, 0, 0)] (in7 .held)).seq.pends = [] ∧
    (∀ g, g < 3 → groupAuth (withRegs [(Reg.SEQ_AUTH, 0, 0)] (in7 .held)).regs 0
      (bankOf (withRegs [(Reg.SEQ_AUTH, 0, 0)] (in7 .held)).regs 7) g = false) ∧
    ((withRegs [(Reg.SEQ_AUTH, 0, 0)] (in7 .held)).seq.portals.nth 7).st ≠ .isolated := by decide

/-- Leaf 15 with its detector running. -/
def strokes : State :=
  withRegs [(Reg.MPG_A_GEAR_CFG, 7, 0xFFFFFFFF)]
    (leaf15 (fun x => { x with obs := { x.obs with stroke := true, dir := 1, react := .none }, drive := { x.drive with inj := none } }))

/-- Leaf 15 brakes, its die armed and neither safe nor overridden. -/
def idles : State :=
  { die3 (fun d => { d with armed := true, safe := false }) with
    leaves := base.leaves.upd 15 (fun x => { x with drive := { x.drive with rank := 9 } }) }

theorem witness_LeafEvents :
    (15 < 16 ∧ strokes.started = true ∧ 127 % 128 ≠ 0 ∧ (strokes.leaves.nth 15).obs.stroke = true ∧ (strokes.leaves.nth 15).obs.react = .none ∧
      (strokes.dies.nth 3).uvHold = false ∧ slaveMoves strokes.regs 7 = true ∧ (strokes.leaves.nth 15).obs.dir = 1 ∧ 14 / 2 = 15 / 2 ∧
      (strokes.leaves.nth 14).obs.judged = false) ∧
    (({ strokes with leaves := strokes.leaves.upd 14 (fun x => { x with obs := { x.obs with stroke := true } }) } : State).leaves.nth 14).obs.judged =
      true ∧
    ((leaf15 (fun x => { x with obs := { x.obs with stroke := true, dir := 0 } })).leaves.nth 15).obs.dir = 0 ∧
    ((leaf15 (fun x => { x with obs := { x.obs with react := .stop } })).leaves.nth 15).obs.react ≠ .none ∧
    (({ strokes with seq := (in7 .closedLocked).seq } : State).started = true ∧ ((in7 .closedLocked).seq.portals.nth 7).st = .closedLocked ∧
      (strokes.moves.nth 15).phase.moving = false ∧ (strokes.leaves.nth 15).drive.inj = none) ∧
    8 < (idles.leafRow 15).1 ∧
    ((leaf15 (fun x => { x with drive := { x.drive with inj := some ⟨0, 0, 0, 0⟩ } })).leaves.nth 15).drive.inj ≠ none := by decide

/-- A proposal pends for quantity 11 of portal 7, and for quantity 3 of leaf 15; quantity 11 is frozen. -/
def proposed : State :=
  (base.setQuant 11 7 { base.quant 11 7 with pending := true, pseq := 255, frozen := true }).setArmQ 3 15 { base.armQ 3 15 with pending := true }

theorem witness_PatinaCommands :
    (({ base with cfg := { base.cfg with noImage := false } } : State).started = true ∧
      ({ base with cfg := { base.cfg with noImage := false } } : State).patKeeps = true ∧ base.mem1.activity ≠ .injection ∧
      base.badSection base.cfg.bank = [] ∧
      ({ base with cfg := { base.cfg with noImage := true } } : State).patKeeps = false) ∧
    ((cmdA 2 7 0xFF00000B).param = BitVec.ofNat 32 (11 + 2 ^ 24 * 255) ∧ proposed.up = true ∧
      serviceAuth proposed.regs 0 (bankOf proposed.regs 7) = true ∧ (proposed.quant 11 7).pending = true ∧ (proposed.quant 11 7).pseq = 255 ∧
      (proposed.quant 11 7).frozen = true ∧ (base.quant 11 7).pending = false) ∧
    ((cmdA 1 15 0x003FF003).param = BitVec.ofNat 32 (3 + 4096 * 1023) ∧ serviceAuth proposed.regs 0 (bankOf proposed.regs (15 / 2)) = true ∧
      (proposed.armQ 3 15).pending = true ∧ proposed.hif.owner 1023 = 0 ∧ proposed.hif.busy.testBit 1023 = false) := by decide

/-- Page 1023 holds a table. -/
def tabled : State :=
  { base with mem0 := { base.mem0 with store := { base.mem0.store with
      cells := (List.range 128).map (fun i => (512 * 1023 + i, .encode 0x0000400000004000)) } } }

theorem witness_BlobCommands :
    ((cmdA 1 15 0x003FF001).param = BitVec.ofNat 32 (1 + 4096 * 1023) ∧ serviceAuth base.regs 0 (bankOf base.regs (15 / 2)) = true ∧
      base.hif.owner 1023 = 0 ∧ base.hif.busy.testBit 1023 = false ∧ base.runsIn 15 1 = false) ∧
    (hifIs (fun h => { h with busy := 2 ^ 1023 })).hif.busy.testBit 1023 = true ∧ strokes.runsIn 15 1 = true ∧
    ((cmdA 1 23 0x003FF000).index = 16 + 7 ∧ (cmdA 1 23 0x003FF000).param = BitVec.ofNat 32 (4096 * 1023) ∧
      (hifIs (Hif.setOwner 1023 1)).hif.owner 1023 ≠ 0 ∧ ((step7 (fun d => { d with mode := 3 })).steps.nth 7).mode = 3 ∧
      (tabled.steps.nth 7).mode ≠ 3 ∧ entryOk (bitsOf (0x0000400000004000 : DWord).toNat 31 0) = true ∧
      entryOk (bitsOf (0x0000400000004000 : DWord).toNat 63 32) = true) ∧
    ∀ i, i < 128 → tabled.mem0.store.word (512 * 1023 + i) = .encode 0x0000400000004000 := by decide +kernel

/-- The core's view of channel 47. -/
def viewed (st : ChState) (auto : Nat) : State :=
  { base with lsw := { base.lsw with view := base.lsw.view.upd 47 (fun v => { v with st := st }) }
              links := { base.links with autonomous := auto } }

theorem witness_RemoteCommands :
    (47 < 48 ∧ (cmdA 0 47 1).param = BitVec.ofNat 32 (b2n true) ∧ ((viewed .off 0).links.l.nth 4).fault = false ∧
      (viewed .off 0).links.autonomous.testBit 4 = false ∧
      groupAuth (viewed .off 0).regs 0 (bankOf (viewed .off 0).regs ((viewed .off 0).regs.LSW_C_CFG_PORTAL 47)) 1 = true ∧
      (viewed .off 0).seqOwns 47 = false ∧ ((viewed .off 0).lsw.view.nth 47).st ≠ .latched) ∧
    (viewed .off 16).links.autonomous.testBit 4 = true ∧ (withRegs [(Reg.SEQ_P_CHMAP, 7, 0xFFFFFF2F)] base).seqOwns 47 = true ∧
    (groupAuth (viewed .latched 0).regs 0 (bankOf (viewed .latched 0).regs ((viewed .latched 0).regs.LSW_C_CFG_PORTAL 47)) 2 = true ∧
      ((viewed .latched 0).lsw.view.nth 47).st = .latched) ∧
    (15 < 16 ∧ (base.links.l.nth 5).fault = false ∧ (fieldDie (fun d => { d with outsOff := true })).field.outsOff = true ∧
      (fieldDie (fun d => { d with outsOff := false })).field.outsOff = false ∧
      groupAuth base.regs 0 (bankOf base.regs (base.regs.FIO_O_CFG_PORTAL 15)) 1 = true) := by decide

/-- Controller 3 on the bus, its object 127 set up to send or to receive, every word of its slots written. -/
def canObj (send : Bool) (f : CanCtl → CanCtl) : State :=
  withRegs [(Reg.CAN_C_OBJ_EN, 15, 0x80000000), (Reg.CAN_O_CFG, 511, if send then 1 else 0)]
    { can3 (fun c => f { c with mode := 1, busOff := false, tx := none, recv := 127, txreq := 2 ^ 127 }) with
      mem0 := { base.mem0 with store := { base.mem0.store with filled := true } } }

/-- A data frame of no bytes. -/
def frame0 : CanFrame := ⟨false, 0, false, false, false, false, 0, []⟩

/-- Network time in slave mode, and in master mode from controller 3. -/
def slaveTime (f : Time → Time) : State := withRegs [(Reg.TCK_NT_CFG, 0, 0x6400000D)] (timeIs f)
def masterTime : State := withRegs [(Reg.TCK_NT_CFG, 0, 0x6400000E)] (can3 (fun c => { c with mode := 1 }))

theorem witness_CanTraffic :
    (3 < 4 ∧ (canObj true id).coreRuns = true ∧ ((canObj true id).cans.nth 3).mode = 1 ∧ ((canObj true id).cans.nth 3).busOff = false ∧
      ((canObj true id).cans.nth 3).tx = none ∧ ((canObj true id).cans.nth 3).winner (canObj true id).regs 3 = some 127 ∧
      masterObj (canObj true id).regs 3 127 = false ∧ ∀ i, i < 16 → (canObj true id).mem0.store.word (canWord 3 127 + i) = .encode 0) ∧
    (((canObj false id).cans.nth 3).onBus = true ∧ (canObj false id).regs.TCK_NT_CFG_MODE = 0 ∧ frame0.fdf = false ∧ ((canObj false id).cans.nth 3).recv ≤ 127 ∧
      frame0.rtr = false ∧ rxObject (canObj false id).regs 3 frame0 = some 127 ∧ rxObject (canObj true id).regs 3 frame0 = none) ∧
    (((canObj true (fun c => { c with tx := some ⟨127, 0, frame0, false⟩ })).cans.nth 3).tx = some ⟨127, 0, frame0, false⟩ ∧ 127 < 128) ∧
    (((canObj true (fun c => { c with tx := some ⟨127, 0, frame0, true⟩ })).cans.nth 3).tx = some ⟨127, 0, frame0, true⟩) ∧
    ({ frame0 with fdf := true } : CanFrame).fdf = true ∧ (canObj false id).regs.CAN_C_CFG_FD_EN 3 = 1 ∧
    (withRegs [(Reg.CAN_C_CFG, 3, 0)] (canObj false id)).regs.CAN_C_CFG_FD_EN 3 = 0 ∧
    (masterTime.regs.TCK_NT_CFG_MODE = 2 ∧ masterTime.regs.TCK_NT_CFG_SRC ≠ 0) := by decide

theorem witness_CanErrors :
    (3 < 4 ∧ (canObj true id).coreRuns = true ∧ ((canObj true (fun c => { c with tx := some ⟨127, 0, frame0, false⟩ })).cans.nth 3).tx =
      some ⟨127, 0, frame0, false⟩) ∧
    (((canObj true id).cans.nth 3).onBus = true ∧ ((canObj true id).cans.nth 3).mode ≠ 2 ∧
      ((canObj true (fun c => { c with mode := 2 })).cans.nth 3).onBus = true ∧ ((canObj true (fun c => { c with mode := 2 })).cans.nth 3).mode = 2) ∧
    ((can3 (fun c => { c with busOff := true })).cans.nth 3).busOff = true ∧
    (((can3 (fun c => { c with asked := true })).cans.nth 3).asked = true ∧ (base.cans.nth 3).tx = none ∧ (base.cans.nth 3).busOff = false ∧
      base.regs.CAN_C_MODE_MODE 3 = 0) := by decide

theorem witness_CanCommands :
    (3 < 4 ∧ 127 < 128 ∧ 1023 < 1024 ∧ (canObj true id).up = true ∧ canAuth (canObj true id).regs 3 0 = true ∧
      masterObj (canObj true id).regs 3 127 = false) ∧
    ((cmdA 4 0 0x01C0007F).param = BitVec.ofNat 32 (127 + 2 ^ 22 * 3 + 2 ^ 24) ∧ objTx (canObj true id).regs 3 127 = true) ∧
    ((cmdA 4 0 0x01FFF07F).param = BitVec.ofNat 32 (127 + 4096 * 1023 + 2 ^ 22 * 3 + 2 ^ 24) ∧ (canObj true id).hif.owner 1023 = 0 ∧
      (canObj true id).hif.busy.testBit 1023 = false ∧ objEnabled (canObj true id).regs 3 127 = true) := by decide

/-- A frame with the reset identifier of the reference message. -/
def refFrame : CanFrame :=
  ⟨decide ((slaveTime id).regs.TCK_NT_REF_ID_IDE = 1), (slaveTime id).regs.TCK_NT_REF_ID_ID, false, false, false, false, 4, [1, 2, 3, 4]⟩

theorem witness_NetworkTime :
    ((slaveTime id).coreRuns = true ∧ (slaveTime id).regs.TCK_NT_CFG_MODE = 1 ∧ isReference (slaveTime id).regs refFrame = true ∧
      (slaveTime id).time.lastRefDtc = 0) ∧
    (slaveTime (fun t => { t with lastRefDtc := 1 })).time.lastRefDtc ≠ 0 ∧ (slaveTime (fun t => { t with ntValid := true })).time.ntValid = true ∧
    base.regs.TCK_NT_CFG_MODE = 0 ∧ (isReference masterTime.regs refFrame = true ∧ masterTime.coreRuns = true) ∧ isReference base.regs frame0 = false ∧
    (masterTime.regs.TCK_NT_CFG_MODE = 2 ∧ (masterTime.cans.nth masterTime.regs.TCK_NT_CFG_SRC).mode = 1) := by
  decide

/-- Ring 63 in a state, its port a bus master. -/
def ringIs (f : Ring → Ring) : State := hifIs (fun h => (h.port 0 (Port.ring 63 f)).port 0 (fun p => { p with bme := true }))

theorem witness_RingsAndJets :
    (0 < 2 ∧ 63 < 64 ∧ base.up = true ∧ (base.hif.ringOf 0 63).st = .disabled ∧ ((ringIs (fun x => { x with st := .running })).hif.ringOf 0 63).st = .running) ∧
    ((ringIs (fun x => { x with st := .running })).portLive 0 = true ∧ ringIsEvent base.regs 0 63 = false ∧
      (63 : Word).toNat < ringSize base.regs 0 63 ∧ ringSize base.regs 0 63 ≤ (64 : Word).toNat ∧
      passes (ringSize base.regs 0 63) ((ringIs (fun x => { x with st := .running, cqDev := 5 })).hif.ringOf 0 63).cqHost (5 : Word).toNat
        ((ringIs (fun x => { x with st := .running, cqDev := 5 })).hif.ringOf 0 63).cqDev = false) ∧
    ((ringIs (fun x => { x with st := .running, host := 1 })).hif.turn base.regs 0 = some 63) ∧
    (8 ≤ 8 ∧ ((ringIs (fun x => { x with st := .running, asked := 1 })).hif.ringOf 0 63).asked ≠ 0) := by decide

/-- A command in the tracker. -/
def tracked : Tracked := ⟨⟨255, 0, cmdA 4 0 0⟩, 0, 0, false, false, false, false, false⟩

/-- A PAGE_IN of page 1023 under way. -/
def pageRun (moved : Nat) : PageRun := ⟨⟨0, 0, cmdA 4 0 0⟩, true, 1023, 1, moved, 0, false, 0⟩

/-- Vector 31 of port A pends and is masked or not; the port is a bus master or not. -/
def vector31 (masked : Nat) (bme : Bool) : State :=
  hifIs (Hif.port 0 (fun p => { p with masked := masked, msixPend := 2 ^ 31, bme := bme }))

theorem witness_HostTimeouts :
    ((hifIs (fun h => { h with tracker := [tracked] })).up = true ∧ (hifIs (fun h => { h with tracker := [tracked] })).hif.tracker = [tracked] ∧
      tracked.judged = false ∧ tracked.job.id = 255 ∧ base.seq.pends = [] ∧ base.hif.pages = [] ∧ base.recd.drains = Vector.replicate 2 none ∧
      base.mem0.sl.running = false ∧ base.mem1.sl.running = false ∧ base.cfg.request = none ∧ base.cfg.install = none) ∧
    ((ringIs (fun x => { x with st := .running, asked := 1 })).hif.ringOf 0 63).asked ≠ 0 ∧
    ((hifIs (fun h => { h with pages := [pageRun 0] })).hif.pages = [pageRun 0] ∧ (pageRun 0).job.cmd.port = 0 ∧ (pageRun 0).first = 1023 ∧
      (pageRun 0).isIn = true ∧ (pageRun 0).doneAt = 0) ∧
    (((ringIs (fun x => { x with st := .running, sinceMsg := 1 })).hif.ringOf 0 63).sinceMsg ≠ 0 ∧
      ((ringIs (fun x => { x with st := .running, sinceMsg := 1 })).hif.ringOf 0 63).st ≠ .disabled ∧
      (withRegs [(Reg.HIF_R_MOD, 63, 0x00010000)] base).regs.HIF_R_MOD_MOD_US (64 * 0 + 63) ≠ 0) ∧
    (((vector31 0 true).hif.ports.nth 0).masked.testBit (base.regs.HIF_R_CFG_VECTOR 63) = false ∧ ((vector31 0 true).hif.ports.nth 0).bme = true ∧
      ((vector31 (2 ^ 32 - 1) true).hif.ports.nth 0).masked.testBit (base.regs.HIF_R_CFG_VECTOR 63) = true ∧
      ((vector31 0 false).hif.ports.nth 0).bme = false ∧ 31 < 32 ∧ (vector31 0 true).portLive 0 = true ∧ (vector31 0 false).portLive 0 = true ∧
      ((vector31 0 true).hif.ports.nth 0).msixPend.testBit 31 = true ∧ ((vector31 0 false).hif.ports.nth 0).msixPend.testBit 31 = true) ∧
    (1 < 2 ∧ (hifIs (fun h => { h with g5 := h.g5.put 1 ⟨true, 0, 0⟩ })).started = true ∧
      ((hifIs (fun h => { h with g5 := h.g5.put 1 ⟨true, 0, 0⟩ })).hif.g5.nth 1).suspended = true) := by decide

theorem witness_CisternAccess :
    (0 < 2 ∧ base.up = true ∧ base.portLive 0 = true ∧ ([1] : List Byte) ≠ [] ∧ 0x3FFFFF % 4096 + ([1] : List Byte).length ≤ 4096 ∧
      0x3FFFFF < 0x400000 ∧ base.hif.owner (0x3FFFFF / 4096) ≠ hostOf 0) ∧
    ((hifIs (Hif.setOwner 1023 1)).hif.owner (0x3FFFF8 / 4096) = hostOf 0 ∧ (hifIs (Hif.setOwner 1023 1)).hif.busy.testBit (0x3FFFF8 / 4096) = false ∧
      0x3FFFF8 % 8 = 0 ∧ (List.replicate 8 (1 : Byte)).length = 8 ∧ base.mem0.activity ≠ .injection) ∧
    (8 ≠ 0 ∧ 0x3FFFF8 + 8 ≤ 0x400000 ∧ (canObj true id).mem0.store.word (0x3FFFF8 / 8) = .encode 0) := by decide +kernel

theorem witness_PageCommands :
    ((cmdA 4 0 0).param = 0 ∧ (cmdA 4 0 1).param ≠ 0 ∧ base.up = true) ∧
    ((cmdA 4 0 0xFF301000).param = BitVec.ofNat 32 (4096 * 769 + 2 ^ 24 * 255) ∧ 769 + 255 ≤ 1024 ∧ base.hif.allOwned 769 255 0 = true ∧
      base.hif.anyBusy 769 255 = false ∧ (hifIs (fun h => { h with busy := 2 ^ 1023 })).hif.anyBusy 769 255 = true) ∧
    ((hifIs (Hif.setOwner 1023 1)).hif.allOwned 1023 1 (hostOf 0) = true ∧ (hifIs (Hif.setOwner 1023 1)).hif.anyBusy 1023 1 = false ∧
      (bothPorts.hif.ports.nth (1 - 0)).linkUp = true ∧ (bothPorts.hif.ports.nth (1 - 0)).inReset = false ∧ (cmdA 4 0 0).addr % 4096 = 0) ∧
    ((hifIs (fun h => { h with pages := [pageRun 0] })).hif.pages = [pageRun 0] ∧ (pageRun 0).isIn = true ∧ (pageRun 0).doneAt = 0 ∧
      (pageRun 0).first ≤ 1023 ∧ 1023 < (pageRun 0).first + (pageRun 0).count ∧ 4095 + ([1] : List Byte).length ≤ 4096) ∧
    ((pageRun 1).first = 1023 ∧ (pageRun 1).count ≤ (pageRun 1).moved) := by decide +kernel

theorem witness_FullWordWrite : (List.replicate 8 (1 : Byte)).length = 8 ∧ base.mem0.activity ≠ .injection := by decide

/-- Memory 1 held by an injection, or by a patrol. -/
def mem1Is (a : MemActivity) : State := { base with mem1 := { base.mem1 with activity := a, sl := { base.mem1.sl with running := true } } }

theorem witness_MemoryEngines :
    (1 < 2 ∧ (cmdA 4 0 1).param = BitVec.ofNat 32 1 ∧ memAuth base.regs 0 = true ∧ base.mem1.activity = .none ∧
      base.regs.MEM_M_RANGE_LO_ADDR 1 ≤ base.regs.MEM_M_RANGE_HI_ADDR 1 ∧ base.regs.MEM_M_RANGE_HI_ADDR 1 < 8 * memWords 1) ∧
    (flipMask (withRegs [(Reg.MEM_M_FLIP0, 1, 1)] base).regs 1 ≠ 0 ∧
      (withRegs [(Reg.MEM_M_FLIP0, 1, 1)] base).regs.MEM_M_INJ_ADDR_ADDR 1 < 8 * memWords 1) ∧
    (mem1Is .patrol).mem1.activity ≠ .none ∧ (mem1Is .injection).mem1.activity = .injection ∧
    ((mem1Is .hostPass).coreRuns = true ∧ (mem1Is .hostPass).mem1.sl.running = true ∧ base.regs.MEM_M_PATROL_PERIOD 1 ≠ 0) := by decide +kernel

/-- The record writer changed. -/
def recIs (f : Rec → Rec) : State := { base with recd := f base.recd }

theorem witness_RecordStore :
    (7 < 8 ∧ (recIs (fun r => { r with cycles := r.cycles.put 7 (some default) })).started = true ∧
      (recIs (fun r => { r with cycles := r.cycles.put 7 (some default) })).recd.cycles.nth 7 = some default) ∧
    ((recIs (fun r => { r with staged := [1] })).recd.staged = [1] ∧ ((canObj true id).mem0.store.word 0).cls = .clean) ∧ 4 < 5 ∧
    ((cmdA 4 0 0x013FF000).param = BitVec.ofNat 32 (4096 * 1023 + 2 ^ 24 * 1) ∧ recAuth base.regs 0 = true ∧ base.hif.pagesFree 1023 1 = 0 ∧
      (recIs (fun r => { r with headValid := false })).recd.headValid = false ∧
      (recIs (fun r => { r with headValid := true })).recd.headValid = true ∧ base.recd.drains.nth 0 = none) ∧
    (recIs (fun r => { r with drains := r.drains.put 0 (some ⟨⟨0, 0, cmdA 4 0 0⟩, 1023, 1, 0, 0, 0, 0, false, false, 0⟩) })).recd.drains.nth 0 =
      some ⟨⟨0, 0, cmdA 4 0 0⟩, 1023, 1, 0, 0, 0, 0, false, false, 0⟩ := by decide +kernel

/-- Capture unit 3 in a state. -/
def unitIs (st trig : Nat) : State := recIs (fun r => { r with units := r.units.upd 3 (fun u => { u with st := st, trig := trig }) })

theorem witness_Captures :
    ((cmdA 1 15 0x013FF003).param = BitVec.ofNat 32 (3 + 4096 * 1023 + 2 ^ 24 * 1) ∧
      serviceAuth base.regs 0 (bankOf base.regs (15 / 2)) = true ∧ base.hif.pagesFree 1023 1 = 0 ∧ ((unitIs 0 0).recd.units.nth 3).st = 0 ∧
      ((unitIs 3 0).recd.units.nth 3).st = 3 ∧ (withRegs [(Reg.REC_U_PRE, 3, 255)] (unitIs 0 0)).regs.REC_U_PRE_PRE 3 < 256 * 1 ∧ ((unitIs 1 0).recd.units.nth 3).st = 1 ∧
      ((unitIs 2 1).recd.units.nth 3).st = 2) ∧
    ((cmdA 4 0 3).param = BitVec.ofNat 32 3 ∧ ((unitIs 1 0).recd.units.nth 3).port = 0 ∧ ((unitIs 1 0).recd.units.nth 3).trig = 0) ∧
    (unitIs 1 0).started = true ∧ ((unitIs 1 0).recd.units.nth 3).portal = false := by decide +kernel

/-- The configuration loader changed. -/
def cfgIs (f : Cfg → Cfg) : State := { base with cfg := f base.cfg }

/-- A relief request on relief 15. -/
def asks : ReliefReq := ⟨15, ⟨0, 0, cmdA 4 0 15⟩, 0, 1, false, false, 0, false⟩

/-- Installation work. -/
def installs (code : Nat) : Install := ⟨⟨0, 0, cmdA 4 0 0⟩, code, 1, 1023, 1, 159, 0, false⟩

theorem witness_ReliefAndImages :
    (15 < 16 ∧ (cmdA 4 0 15).param = BitVec.ofNat 32 15 ∧ cfgAuth base.regs 0 false = true ∧
      15 < (cfgIs (fun c => { c with reliefs := List.replicate 16 [] })).cfg.reliefs.length ∧ (cfgIs (fun c => { c with request := some asks })).cfg.request ≠ none ∧
      base.cfg.request = none ∧ base.cfg.relief ≠ 15 ∧ (cfgIs (fun c => { c with relief := 15 })).cfg.relief = 15) ∧
    ((cfgIs (fun c => { c with request := some asks })).started = true ∧ (cfgIs (fun c => { c with request := some asks })).cfg.request = some asks ∧
      asks.applied = false ∧ asks.poison = false ∧ asks.go = false ∧
      (cfgIs (fun c => { c with request := some asks })).reliefFree asks.relief = true ∧
      ((cfgIs (fun c => { c with request := some asks })).reliefPoison asks.relief).2 = false) ∧
    (cfgAuth base.regs 0 true = true ∧ base.cfg.install = none ∧ (cmdA 4 0 0).param = 0 ∧
      (cmdA 4 0 0x013FF9F0).param = BitVec.ofNat 32 (16 * 159 + 4096 * 1023 + 2 ^ 24 * 1) ∧
      (cmdA 4 0 0x013FF9F1).param = BitVec.ofNat 32 (1 + 16 * 159 + 4096 * 1023 + 2 ^ 24 * 1) ∧
      159 + 1 ≤ 160 ∧ 1023 + 1 ≤ 1024 ∧ base.hif.anyBusy 1023 1 = false ∧ (hifIs (Hif.setOwner 1023 1)).hif.allOwned 1023 1 (hostOf 0) = true ∧
      base.hif.allOwned 1023 1 0 = true) ∧
    ((cfgIs (fun c => { c with install := some (installs 2) })).cfg.install = some (installs 2) ∧ (installs 2).code = 2 ∧ (installs 3).code = 3 ∧
      (installs 3).bank < 2 ∧ base.boot.straps.testBit 7 = false) := by decide +kernel

theorem witness_ReliefAndImages_notFree :
    ({ cfgIs (fun c => { c with reliefs := List.replicate 16 [⟨0x21014, 0, 31, 0⟩] }) with seq := (in7 .opened).seq } : State).reliefFree 15 =
      true ∧
    ({ cfgIs (fun c => { c with reliefs := List.replicate 16 [⟨0x21714, 0, 31, 0⟩] }) with seq := (in7 .opened).seq } : State).reliefFree 15 =
      false := by decide

theorem witness_StepsKeepMemoriesCanonical : base.memCanonical ∧ step base = .next base := ⟨⟨by decide, by decide⟩, rfl⟩

theorem witness_StepsTakeOneCommand : step base = .next base := rfl

theorem witness_WellFormedCommandsRun : (Instr.clrStat 1).wf = true ∧ exec (.clrStat 2) base = .fault .noSuchObject := ⟨by decide, rfl⟩

/-! Single steps. Expected results from the rules cited. -/

/-- What of a state an outcome shows. -/
def shows (f : State → Bool) : Host.Outcome State Fault Refusal → Bool
  | .next s => f s
  | .fault _ => false
  | .refused _ => false

/-- The command table gives no row any bits, so no word spells a command. -/
theorem test_no_words : decodeTableWord 32 0xFFFFFFFF = none ∧ State.reset.withFetchWord 32 0xFFFFFFFF = State.reset := ⟨rfl, rfl⟩

theorem test_queue_order :
    shows (fun s => s.time.clrAsked && s.pending == [.save]) (step { base with pending := [.clrOverrun, .save] }) = true := by decide +kernel

/-- R53: DTC is 10 000 clocks per tick; the upper half of 10 000 · 500 000 + 9999 is 1. -/
theorem test_dtc_halves :
    shows (fun s => s.time.snapHi.nth 0 == 1 && s.out.head? == some (.regData 0 (BitVec.ofNat 32 (5000009999 - 4294967296))))
      (exec (.dtcLoRead 0 9999) (timeIs (fun t => { t with tick := 500000 }))) = true := by decide +kernel

/-- R24: the second carrier period in a row without a valid word makes a die safe, the first does not. -/
theorem test_carrier_misses :
    shows (fun s => (s.dies.nth 3).safe) (exec (.carrierPeriodStart 3 1 false) (die3 (fun d => { d with missed := 1, safe := false }))) = true ∧
    shows (fun s => !(s.dies.nth 3).safe) (exec (.carrierPeriodStart 3 1 false) (die3 (fun d => { d with missed := 0, safe := false }))) = true := by
  decide +kernel

/-- PAGE_TAKE of the last page by port A leaves its neighbour free (chapter 14). -/
theorem test_page_owner :
    shows (fun s => s.hif.owner 1023 == 1 && s.hif.owner 1022 == 0) (exec (.pageTake (cmdA 4 0 0x013FF000)) base) = true := by decide +kernel

/-- An OPEN of a closed and locked portal with the release there starts unlocking under T_UNLOCK (the transition table of chapter 3). -/
theorem test_open :
    shows (fun s => (s.seq.portals.nth 7).st == .unlocking && (s.seq.portals.nth 7).timer == 1 && (s.seq.portals.nth 6).st == .isolated)
      (exec (.seqOpen (cmdA 2 7 0)) (permits (in7 .closedLocked))) = true := by decide +kernel

/-- R50: a release asked in the sixteenth tick after an overrun does not release, one in the seventeenth does. -/
theorem test_hold_release : (holds 16).takeClear.time.overrun = true ∧ (holds 17).takeClear.time.overrun = false := by decide +kernel

/-- The registers' bits as chapters 3, 13 and 17 lay them out: state CLOSING is 5; port 0 of the boundary registers; R438 before the commit. -/
theorem test_reads :
    (in7 .closing).readReg 0 0x21740 15 0 = 5 ∧ ((in7 .closing).readReg 0 0x20020 15 0) = 0x50000000 ∧
    (can3 (fun c => { c with mode := 1, tec := 256, recv := 127 })).readReg 0 0xCC018 15 0 = 0x0100007F ∧
    State.reset.readReg 0 0x0 15 0 = 0x24800101 ∧ State.reset.readReg 0 0x20008 15 0 = 0 ∧ base.readReg 0 0x20008 15 0 = 0xFFF ∧
    base.readReg 0 0x20009 15 0 = 0 ∧ base.readReg 0 0x20008 3 0 = 0 := by decide +kernel

end Sys2Proof.Tests
end

section
/-! Which commands run (O60): each command's operands are checked once, by one of the guards of Rows. -/

namespace Sys2Proof

theorem Cmd.wf_iff (c : Cmd) : c.wf = true ↔ c.port < 2 ∧ c.ring < 64 := by
  simp [Cmd.wf]

namespace Machine

/-- An outcome that goes on, or else stops with the one fault of the machine, and the latter only where the premise fails. -/
def RunsWhen (p : Prop) (o : Host.Outcome State Fault Refusal) : Prop :=
  (∃ t, o = .next t) ∨ (¬p ∧ o = .fault .noSuchObject)

theorem RunsWhen.next_of {p : Prop} {o : Host.Outcome State Fault Refusal} (h : RunsWhen p o) (hp : p) : ∃ t, o = .next t :=
  h.resolve_right fun k => k.1 hp

theorem RunsWhen.next_or_fault {p : Prop} {o : Host.Outcome State Fault Refusal} (h : RunsWhen p o) :
    (∃ t, o = .next t) ∨ o = .fault .noSuchObject := h.imp_right And.right

theorem runsWhen_next (p : Prop) (t : State) : RunsWhen p (.next t) := .inl ⟨t, rfl⟩

/-- A guard that the premise implies, before an outcome that keeps to the same premise. -/
theorem runsWhen_ite {p q : Prop} [Decidable q] (h : p → q) {o : Host.Outcome State Fault Refusal} (ho : RunsWhen p o) :
    RunsWhen p (if q then o else .fault .noSuchObject) := by
  split
  · exact ho
  · next hq => exact .inr ⟨fun hp => hq (h hp), rfl⟩

theorem runsWhen_onObject {p : Prop} {n i : Nat} (h : p → i < n) (t : State) : RunsWhen p (onObject n i t) :=
  runsWhen_ite h (runsWhen_next p t)

theorem runsWhen_onObjects {p : Prop} {n i m j : Nat} (h : p → i < n ∧ j < m) (t : State) : RunsWhen p (onObjects n i m j t) :=
  runsWhen_ite h (runsWhen_next p t)

theorem runsWhen_onFault {p : Prop} {n i lo hi cause : Nat} (h : p → i < n ∧ lo ≤ cause ∧ cause ≤ hi) (t : State) :
    RunsWhen p (onFault n i lo hi cause t) :=
  runsWhen_ite h (runsWhen_next p t)

theorem runsWhen_execTickOverrun {p : Prop} {slot : Nat} (h : p → 1 ≤ slot ∧ slot ≤ 11) (progress axis clk : Nat) (a : TickIn)
    (s : State) : RunsWhen p (execTickOverrun slot progress axis clk a s) :=
  runsWhen_ite h (runsWhen_next p _)

theorem runsWhen_execCanObjEnWrite {p : Prop} {port ctl m : Nat} (h : p → port < 2 ∧ ctl < 4 ∧ m < 4) (value : Word) (s : State) :
    RunsWhen p (execCanObjEnWrite port ctl m value s) :=
  runsWhen_ite (fun hp => (h hp).1) (runsWhen_onObjects (fun hp => (h hp).2) _)

/-- Every command of the table goes on where its operands name objects of the chip, and stops elsewhere with noSuchObject at most. -/
theorem exec_runsWhen_wf (c : Instr) (s : State) : RunsWhen (c.wf = true) (exec c s) := by
  cases c with
  | tick | powerOn | rstNLow | vcoreBrownOut | vioBrownOut | clockLoss | coreWatchdog | coreReset | resetRelease | switchLink4Frame
  | switchAutonomous | switchSupervisorReset | link6Frame | link6FrameMissed | lswEvaluation | channelBTestPulse | switchDieLatch
  | fieldLink5Frame | fieldOutputsOff | fieldDieSupervisorReset | fieldSample | fieldSupplyState | fsRecExpired | trainlineSample
  | ilkTestPulse | ilkDiscrepancy | ilkDiscSafe | ilkFeedbackTimeout | chargePumpRunDown | patStateSave | ntReferenceReceived
  | ntMasterPeriod | ntTimeout | commandTimeout | resyncSwitch | clrLinkCnt | tckClrHwm | clrOverrun | clrCycles | clrLatch | clrTrips
  | stpClrCount | fbkClrCnt | clrAlarm | save | lswClrCount | fioClrCnt | hifClrHwm | memClrCount | recClrCount | recordCommit
  | reliefApply | reliefTimeout | imgWriteDone | imgCommitDone =>
    exact runsWhen_next _ _
  | vdrvLow | vdrvRecovered | portReset | portUp | pcieConfigRequest | bridgeSafeState | edgeClassChange | lswComparatorTrip
  | inrushWindowEnd | pauseEnd | settleExpired | groupUnderVoltage | groupUvRecovered | uvStaggeredRestart | openLoadQualified | dimEdge
  | railDip | senseUpdate | wireBreak | fieldOutputThermal | tlIndeterminate | tUnlockExpired | tOpenExpired | tCloseExpired
  | tLockExpired | tDwellExpired | tWarnExpired | tRecloseExpired | tObsClearExpired | tStepExpired | signaturePulse | sigPulseJudged
  | pendingOpenTaken | pendDeadline | departMsExpired | obsTrip | obsReactionDone | ldrUvHold | ldrUvResume | ldrRailOv
  | ldrOvRecovered | injectionRequest | ldrRwindDone | stpStall | standstillReduction | homingTrip | errorWindowClose | fbkZeroSpeed
  | canFrameStart | canFrameReceived | canTxDone | canFailedAttempt | canReceiveError | canBusoffRecovered | canProtocolException
  | canMode | bar2Write | bar2Read | dtcLoRead | registerWrite | genReset | ldrClrOc | disarm | stpClrOc | clrHall | clrEnc | clrStat
  | cfgGroupOpen | cfgGroupCommit | sluiceDone | patrolDue | weirLeak | drainDone | captureSample | cycleCut =>
    exact runsWhen_onObject of_decide_eq_true _
  | carrierPeriodStart | leafComparatorTrip | stepComparatorTrip | ldrOcLatch | stpOcLatch | canModeWrite | jetTail | jetCq
  | descriptorFetch | msixModerationTimeout | guaranteeRestored | recSeqLoRead | cmpPosWrite | enable | disable | pageTransferDone
  | completionTimeout | pageInReadCompletion | msixTableWrite =>
    exact runsWhen_onObjects (fun h => by simpa [Instr.wf] using h) _
  | fetchCompletion =>
    exact runsWhen_onObjects (fun h => by simp only [Instr.wf, Bool.and_eq_true, decide_eq_true_eq] at h; exact h.1) _
  | fbkHallFault | fbkEncoderFault =>
    exact runsWhen_onFault (fun h => by simpa [Instr.wf, and_assoc] using h) _
  | seqOpen | seqClose | seqReopen | seqHold | crewClose | isolate | deisolate | clearFault | resetManual | armLoad | armRead | tblLoad
  | tblRead | accept | refuse | thaw | propRead | lswSwitch | lswRestart | setOut | txSend | rxRead | txAbort | nop | pageTake | pageGive
  | pagePass | pageIn | pageOut | sluice | inject | stop | drain | capArm | capTrigger | capStop | reliefSet | imgWrite | imgCommit
  | imgRead =>
    exact runsWhen_onObjects (Cmd.wf_iff _).mp _
  | tickOverrun =>
    exact runsWhen_execTickOverrun (fun h => by simp only [Instr.wf, Bool.and_eq_true, decide_eq_true_eq] at h; exact h.1) _ _ _ _ _
  | canObjEnWrite =>
    exact runsWhen_execCanObjEnWrite (fun h => by simpa only [Instr.wf, Bool.and_eq_true, decide_eq_true_eq, and_assoc] using h) _ _

/-- Settles O60: both halves are read off what every command does by its operands. -/
theorem wellFormedCommandsRun : Obligations.WellFormedCommandsRun := by
  unfold Obligations.WellFormedCommandsRun
  exact ⟨fun c s h => (exec_runsWhen_wf c s).next_of h, fun c s => (exec_runsWhen_wf c s).next_or_fault⟩

end Machine
end Sys2Proof
end

section
/-! Register writes (O30): which writes reach a register, and what the RW fields of a whole-word register do with the word. -/

namespace Sys2Proof.Machine

/-- The key that was set is found, whatever the order of the other keys. -/
theorem lookupKey_insertKey_same {α : Type} (k : Nat) (v : α) (l : List (Nat × α)) :
    lookupKey k (insertKey k v l) = some v := by
  induction l with
  | nil => simp [insertKey, lookupKey]
  | cons c l ih =>
    obtain ⟨j, w⟩ := c
    unfold insertKey
    split
    · next h => simp [lookupKey, Nat.ne_of_lt h, ih]
    · split <;> simp [lookupKey]

/-- A register reads as the word it was set to, where this is not its reset word. -/
theorem RegFile.word_setWord_same (f : RegFile) (r : RegRow) (i : Nat) (w : Word) (h : w ≠ r.resetWord i) :
    (f.setWord r i w).word r i = w := by
  simp [RegFile.setWord, RegFile.word, h, lookupKey_insertKey_same]

@[simp] theorem mergeWord_none (old new : Word) : mergeWord old new 0 = old := by
  simpa [mergeWord] using BitVec.and_allOnes (x := old)

@[simp] theorem mergeWord_all (old new : Word) : mergeWord old new 0xFFFFFFFF = new := by
  simpa [mergeWord] using BitVec.and_allOnes (x := new)

/-- Without a relief in force no bit of a register is held (R422). -/
theorem Cfg.heldMask_of_saved_nil (c : Cfg) (off : Nat) (h : c.saved = []) : c.heldMask off = 0 := by
  simp [Cfg.heldMask, h]

/-- Below the port's own part of the host interface no register belongs to one port. -/
theorem portReg_of_lt (port off : Nat) (h : off < 0xD1000) : portReg port off = false := by
  simp only [portReg, Bool.and_eq_false_iff, decide_eq_false_iff_not]
  omega

theorem exec_registerWrite (port off : Nat) (w : Word) (be clk : Nat) (s : State) (h : port < 2) :
    exec (.registerWrite port off w be clk) s = .next (s.regWrite port off w be clk).flush :=
  onObject_of_lt _ _ _ h

/-- A write that is not of four aligned bytes, beyond the setup space or of the other port's registers does nothing (R10, R336). -/
theorem State.regWrite_ignored (port off : Nat) (w : Word) (be clk : Nat) (s : State)
    (h : be ≠ 15 ∨ off % 4 ≠ 0 ∨ 0x100000 ≤ off ∨ portReg (1 - port) off = true) : s.regWrite port off w be clk = s :=
  if_pos (.inr (.inr h))

/-- A write that finds a register below the host interface, one without WO or W1C fields, comes down to its RW and RWL fields. -/
theorem State.regWrite_fields {s : State} {port off i : Nat} {r : RegRow} (w : Word) (clk : Nat) (hup : s.up = true)
    (hlive : s.portLive port = true) (hal : off % 4 = 0) (hlt : off < 0xD1000) (hfind : findReg off = some (r, i))
    (hacts : s.wordActs r i port clk w = s) (hclears : s.wordClears r i w = s) :
    s.regWrite port off w 15 clk = s.wordFields r i port clk w := by
  have hreach : ¬(!s.up ∨ !s.portLive port ∨ 15 ≠ 15 ∨ off % 4 ≠ 0 ∨ 0x100000 ≤ off ∨ portReg (1 - port) off) := by
    rintro (h | h | h | h | h | h)
    · simp [hup] at h
    · simp [hlive] at h
    · exact h rfl
    · exact h hal
    · omega
    · exact Bool.false_ne_true ((portReg_of_lt _ _ hlt).symm.trans h)
  rw [State.regWrite, if_neg hreach, hfind]
  simp only [hacts, hclears]

/-- A register that takes a written word as a whole: 32 RW bits, and not in the CAN or HIF blocks, where bits can belong to the time
master or be fixed by the safety port. -/
structure RegRow.Whole (r : RegRow) : Prop where
  rw : r.rw = 0xFFFFFFFF
  rwl : r.rwl = 0
  low : r.base < 0xC0000

/-- Below the CAN block no bit belongs to the time master (R330). -/
theorem masterBits_of_lt (f : RegFile) (r : RegRow) (i : Nat) (h : r.base < 0xC0000) : masterBits f r i = 0 := by
  have h1 : r.base ≠ Reg.CAN_O_ID.base := fun e => absurd (e ▸ h) (by decide)
  have h2 : r.base ≠ Reg.CAN_O_CFG.base := fun e => absurd (e ▸ h) (by decide)
  have h3 : r.base ≠ Reg.CAN_C_OBJ_EN.base := fun e => absurd (e ▸ h) (by decide)
  simp [masterBits, h1, h2, h3]

/-- A locked register (RWL) refuses with cause 2 (R417). -/
theorem State.wordFields_locked (s : State) (r : RegRow) (i port clk : Nat) (w : Word) (hlow : r.base < 0xC0000) (hl : r.rwl ≠ 0)
    (hm : r.rw ||| r.rwl ≠ 0) : s.wordFields r i port clk w = s.rejectWrite port (r.addr i) 2 := by
  have hmask : andNot (r.rw ||| r.rwl) (masterBits s.regs r i) ≠ 0 := by
    simpa [andNot, masterBits_of_lt _ _ _ hlow] using hm
  simp only [State.wordFields, if_neg hmask, if_pos hl]

/-- The register file a write is judged against: with the port's pending writes for a T-class register (R417). -/
def State.judgedRegs (s : State) (port : Nat) (r : RegRow) : RegFile := if r.cls = .tick then s.pendingRegs port else s.regs

/-- A whole-word register, out of any relief: refused while its block runs, then by its value, else taken or shadowed as written. -/
theorem State.wordFields_whole (s : State) {r : RegRow} (hr : r.Whole) (i port clk : Nat) (w : Word) (hs : s.cfg.saved = []) :
    s.wordFields r i port clk w =
      if r.cls = .idle ∧ s.blockRuns r i then s.rejectWrite port (r.addr i) 1
      else if !valueOk (s.judgedRegs port r) ((s.judgedRegs port r).setWord r i w) r i w ||
          !s.stateOk ((s.judgedRegs port r).setWord r i w) r i then s.rejectWrite port (r.addr i) 3
      else (if r.cls = .tick then s.shadowWord port (r.addr i) clk w else some (s.takeWord r i w)).getD
        (s.rejectWrite port (r.addr i) 5) := by
  obtain ⟨hrw, hrwl, hlow⟩ := hr
  have hbase : r.base ≠ Reg.HIF_R_CFG.base := fun e => absurd (e ▸ hlow) (by decide)
  have hmask : andNot (0xFFFFFFFF ||| 0) 0 = 0xFFFFFFFF := by decide
  simp only [State.wordFields, hrw, hrwl, masterBits_of_lt _ _ _ hlow, hmask, mergeWord_all, mergeWord_none,
    Cfg.heldMask_of_saved_nil _ _ hs, hbase, false_and, ne_eq, not_true, ↓reduceIte, State.judgedRegs,
    if_neg (show (0xFFFFFFFF : Nat) ≠ 0 by decide)]
  cases (if r.cls = RegClass.tick then s.shadowWord port (r.addr i) clk w else some (s.takeWord r i w)) <;> rfl

section
variable {s : State} {r : RegRow} (hr : r.Whole) {i : Nat} (port clk : Nat) {w : Word} (hs : s.cfg.saved = [])
include hr hs

theorem State.wordFields_of_runs (hcls : r.cls = .idle) (hrun : s.blockRuns r i = true) :
    s.wordFields r i port clk w = s.rejectWrite port (r.addr i) 1 := by
  rw [State.wordFields_whole s hr i port clk w hs, if_pos ⟨hcls, hrun⟩]

theorem State.wordFields_of_bad_value (hrun : ¬(r.cls = .idle ∧ s.blockRuns r i = true))
    (hbad : ∀ g, valueOk g (g.setWord r i w) r i w = false) : s.wordFields r i port clk w = s.rejectWrite port (r.addr i) 3 := by
  rw [State.wordFields_whole s hr i port clk w hs, if_neg hrun, if_pos (by simp [hbad])]

theorem State.wordFields_of_ok (hrun : ¬(r.cls = .idle ∧ s.blockRuns r i = true)) (hok : ∀ g f, valueOk g f r i w = true)
    (hst : ∀ f, s.stateOk f r i = true) : s.wordFields r i port clk w =
      (if r.cls = .tick then s.shadowWord port (r.addr i) clk w else some (s.takeWord r i w)).getD
        (s.rejectWrite port (r.addr i) 5) := by
  rw [State.wordFields_whole s hr i port clk w hs, if_neg hrun, if_neg (by simp [hok, hst])]

end

/-! The four registers of O30: where each lies, and that it has no WO or W1C fields. -/

theorem findReg_SEQ_P_TIMER0 (p : Nat) (h : p < 8) : findReg (0x21020 + 0x100 * p) = some (Reg.SEQ_P_TIMER0, p) := by
  iterate 8 (obtain _ | p := p; · rfl)
  omega

theorem findReg_SEQ_P_TOL (p : Nat) (h : p < 8) : findReg (0x21014 + 0x100 * p) = some (Reg.SEQ_P_TOL, p) := by
  iterate 8 (obtain _ | p := p; · rfl)
  omega

theorem findReg_LDR_L_UMREV (l : Nat) (h : l < 16) : findReg (0x50004 + 0x400 * l) = some (Reg.LDR_L_UMREV, l) := by
  iterate 16 (obtain _ | l := l; · rfl)
  omega

/-- The offset of member i of a family of registers with one stride. -/
theorem RegRow.addr_of_inner_one (r : RegRow) (i : Nat) (h : r.inner = 1) : r.addr i = r.base + r.stride * i := by
  simp [RegRow.addr, h, Nat.mod_one]

theorem addr_SEQ_P_TIMER0 (p : Nat) : Reg.SEQ_P_TIMER0.addr p = 0x21020 + 0x100 * p := RegRow.addr_of_inner_one _ _ rfl
theorem addr_SEQ_P_TOL (p : Nat) : Reg.SEQ_P_TOL.addr p = 0x21014 + 0x100 * p := RegRow.addr_of_inner_one _ _ rfl
theorem addr_LDR_L_UMREV (l : Nat) : Reg.LDR_L_UMREV.addr l = 0x50004 + 0x400 * l := RegRow.addr_of_inner_one _ _ rfl

theorem whole_SEQ_P_TIMER0 : Reg.SEQ_P_TIMER0.Whole := ⟨rfl, rfl, by decide⟩
theorem whole_SEQ_P_TOL : Reg.SEQ_P_TOL.Whole := ⟨rfl, rfl, by decide⟩
theorem whole_LDR_L_UMREV : Reg.LDR_L_UMREV.Whole := ⟨rfl, rfl, by decide⟩

section
variable {s : State} {port : Nat} (w : Word) (clk : Nat) (hup : s.up = true) (hlive : s.portLive port = true)
include hup hlive

theorem State.regWrite_SEQ_P_TIMER0 {p : Nat} (hp : p < 8) :
    s.regWrite port (0x21020 + 0x100 * p) w 15 clk = s.wordFields Reg.SEQ_P_TIMER0 p port clk w :=
  State.regWrite_fields w clk hup hlive (by omega) (by omega) (findReg_SEQ_P_TIMER0 p hp) rfl rfl

theorem State.regWrite_SEQ_P_TOL {p : Nat} (hp : p < 8) :
    s.regWrite port (0x21014 + 0x100 * p) w 15 clk = s.wordFields Reg.SEQ_P_TOL p port clk w :=
  State.regWrite_fields w clk hup hlive (by omega) (by omega) (findReg_SEQ_P_TOL p hp) rfl rfl

theorem State.regWrite_ILK_FB : s.regWrite port 0x30008 w 15 clk = s.wordFields Reg.ILK_FB 0 port clk w :=
  State.regWrite_fields w clk hup hlive (by omega) (by omega) rfl rfl rfl

theorem State.regWrite_LDR_L_UMREV {l : Nat} (hl : l < 16) :
    s.regWrite port (0x50004 + 0x400 * l) w 15 clk = s.wordFields Reg.LDR_L_UMREV l port clk w :=
  State.regWrite_fields w clk hup hlive (by omega) (by omega) (findReg_LDR_L_UMREV l hl) rfl rfl

end

/-- Outside an open group a T-class word waits for the boundary of its clock (R41, R42). -/
theorem State.shadowWord_of_no_group (port off clk : Nat) (w : Word) (s : State) (h : s.cfg.groupOpen.nth port = false) :
    s.shadowWord port off clk w = some { s with cfg := { s.cfg with shadows := s.cfg.shadows ++ [⟨port, off, w, s.dueAt clk⟩] } } := by
  simp [State.shadowWord, h]

/-- A register below the interlock's is no setting of a remote die (R27). -/
theorem State.noteRemote_of_lt (off : Nat) (w : Word) (s : State) (h : off < 0x30000) : s.noteRemote off w = s := by
  have h10 : off / 65536 ≠ 10 := by omega
  have h3 : ¬0x30004 ≤ off := by omega
  have hB : ¬0xB0040 ≤ off := by omega
  have h5 : off ≠ 0xB0008 := by omega
  have hB1 : ¬0xB1000 ≤ off := by omega
  simp [State.noteRemote, h10, h3, hB, h5, hB1]

theorem State.takeWord_SEQ_P_TOL (p : Nat) (w : Word) (s : State) (hp : p < 8) :
    s.takeWord Reg.SEQ_P_TOL p w = { s with regs := s.regs.setWord Reg.SEQ_P_TOL p w } := by
  have haddr : Reg.SEQ_P_TOL.addr p < 0x30000 := by rw [addr_SEQ_P_TOL]; omega
  exact State.noteRemote_of_lt _ _ _ haddr

/-- A leaf whose drive is in neither DRIVE nor INJECT does not run, whatever its die holds. -/
theorem State.leafRuns_of_mode (l : Nat) (s : State) (h3 : (s.leaves.nth l).drive.mode ≠ 3) (h4 : (s.leaves.nth l).drive.mode ≠ 4) :
    s.leafRuns l = false := by
  have hmode : (s.leafRow l).2 = 0 ∨ (s.leafRow l).2 = 2 ∨ (s.leafRow l).2 = (s.leaves.nth l).drive.mode := by
    simp only [State.leafRow]
    repeat' split
    all_goals simp
  simp only [State.leafRuns, Bool.or_eq_false_iff, decide_eq_false_iff_not]
  omega

/-- R417 cause 3 at LDR_L_UMREV: 0 µm per revolution is out of range. -/
theorem valueOk_LDR_L_UMREV_zero (g f : RegFile) (l : Nat) : valueOk g (f.setWord Reg.LDR_L_UMREV l 0) Reg.LDR_L_UMREV l 0 = false := by
  have hw : (f.setWord Reg.LDR_L_UMREV l 0).word Reg.LDR_L_UMREV l = 0 :=
    RegFile.word_setWord_same _ _ _ _ (show 0 ≠ BitVec.ofNat 32 0xC350 by decide)
  have hz : (f.setWord Reg.LDR_L_UMREV l 0).LDR_L_UMREV_UMREV l = 0 := by
    rw [RegFile.LDR_L_UMREV_UMREV, RegFile.fld, hw]; rfl
  show decide ((f.setWord Reg.LDR_L_UMREV l 0).LDR_L_UMREV_UMREV l ≠ 0) = false
  rw [hz]; rfl

section
variable {s : State} (port clk : Nat) (w : Word) (hs : s.cfg.saved = [])
include hs

/-- A class T word out of any group: nothing is in force at once (R41). -/
theorem State.wordFields_SEQ_P_TIMER0 (p : Nat) (hgroup : s.cfg.groupOpen.nth port = false) :
    s.wordFields Reg.SEQ_P_TIMER0 p port clk w = { s with cfg := { s.cfg with
      shadows := s.cfg.shadows ++ [⟨port, 0x21020 + 0x100 * p, w, s.dueAt clk⟩] } } := by
  rw [State.wordFields_of_ok whole_SEQ_P_TIMER0 port clk hs (fun h => absurd h.1 (by decide)) (fun _ _ => rfl) (fun _ => rfl),
    if_pos (show Reg.SEQ_P_TIMER0.cls = .tick from rfl), State.shadowWord_of_no_group _ _ _ _ _ hgroup, addr_SEQ_P_TIMER0]
  rfl

/-- A class I word of an isolated portal is in force at once (R13). -/
theorem State.wordFields_SEQ_P_TOL_isolated (p : Nat) (hp : p < 8) (hst : (s.seq.portals.nth p).st = .isolated) :
    s.wordFields Reg.SEQ_P_TOL p port clk w = { s with regs := s.regs.setWord Reg.SEQ_P_TOL p w } := by
  have hrun : s.blockRuns Reg.SEQ_P_TOL p = false := by
    show decide ((s.seq.portals.nth p).st ≠ .isolated) = false
    simp [hst]
  rw [State.wordFields_of_ok whole_SEQ_P_TOL port clk hs (by simp [hrun]) (fun _ _ => rfl) (fun _ => rfl), if_neg (by decide),
    State.takeWord_SEQ_P_TOL p w s hp]
  rfl

/-- A class I word of any other portal is refused (R417, cause 1). -/
theorem State.wordFields_SEQ_P_TOL_runs (p : Nat) (hst : (s.seq.portals.nth p).st ≠ .isolated) :
    s.wordFields Reg.SEQ_P_TOL p port clk w = s.rejectWrite port (0x21014 + 0x100 * p) 1 := by
  have hrun : s.blockRuns Reg.SEQ_P_TOL p = true := by
    show decide ((s.seq.portals.nth p).st ≠ .isolated) = true
    simp [hst]
  rw [State.wordFields_of_runs whole_SEQ_P_TOL port clk hs rfl hrun, addr_SEQ_P_TOL]

/-- A value outside its range is refused where the leaf stands still (R417, cause 3). -/
theorem State.wordFields_LDR_L_UMREV_zero (l : Nat) (h3 : (s.leaves.nth l).drive.mode ≠ 3) (h4 : (s.leaves.nth l).drive.mode ≠ 4) :
    s.wordFields Reg.LDR_L_UMREV l port clk 0 = s.rejectWrite port (0x50004 + 0x400 * l) 3 := by
  have hrun : s.blockRuns Reg.LDR_L_UMREV l = false := s.leafRuns_of_mode l h3 h4
  rw [State.wordFields_of_bad_value whole_LDR_L_UMREV port clk hs (by simp [hrun])
    (fun g => valueOk_LDR_L_UMREV_zero g g l), addr_LDR_L_UMREV]

end

/-- A safety register refuses (R417, cause 2). -/
theorem State.wordFields_ILK_FB (s : State) (port clk : Nat) (w : Word) :
    s.wordFields Reg.ILK_FB 0 port clk w = s.rejectWrite port 0x30008 2 :=
  State.wordFields_locked s Reg.ILK_FB 0 port clk w (by decide) (by decide) (by decide)

/-- A refusal sets the reject flag, keeps the first cause, port and offset, counts and raises its event (R417). -/
theorem State.rejectWrite_eq (s : State) (port off cause : Nat) : ∃ c : Cfg, s.rejectWrite port off cause =
      ({ s with cfg := c } : State).says [(0x1001, p1 port ++ p4 (off : Nat) ++ p1 cause)] ∧
    c = { s.cfg with reject := true, rejCause := c.rejCause, rejPort := c.rejPort, rejOff := c.rejOff,
                     rejCount := satInc 16 s.cfg.rejCount } ∧
    (s.cfg.reject = false → c.rejCause = cause ∧ c.rejPort = port ∧ c.rejOff = off) ∧
    (s.cfg.reject = true → c.rejCause = s.cfg.rejCause ∧ c.rejPort = s.cfg.rejPort ∧ c.rejOff = s.cfg.rejOff) := by
  refine ⟨_, rfl, rfl, fun h => ?_, fun h => ?_⟩ <;> simp [h]

/-- Settles O30: a write that reaches no register does nothing, and the others come down to the RW fields of their register. -/
theorem registerWrites : Obligations.RegisterWrites := by
  intro s port value clk hport hup hlive hsaved
  refine ⟨fun off be h => ?_, fun p hp hgroup => ?_, s.rejectWrite_eq port, fun p hp hst => ?_, fun p hp hst => ?_, ?_,
    fun l hl h3 h4 => ?_⟩ <;> rw [exec_registerWrite _ _ _ _ _ _ hport]
  case refine_1 => rw [State.regWrite_ignored port off value be clk s h]
  case refine_2 =>
    rw [State.regWrite_SEQ_P_TIMER0 value clk hup hlive hp, State.wordFields_SEQ_P_TIMER0 port clk value hsaved p hgroup, State.dueAt]
  case refine_3 =>
    rw [State.regWrite_SEQ_P_TOL value clk hup hlive hp, State.wordFields_SEQ_P_TOL_isolated port clk value hsaved p hp hst]
  case refine_4 =>
    rw [State.regWrite_SEQ_P_TOL value clk hup hlive hp, State.wordFields_SEQ_P_TOL_runs port clk value hsaved p hst]
  case refine_5 => rw [State.regWrite_ILK_FB value clk hup hlive, State.wordFields_ILK_FB]
  case refine_6 =>
    rw [State.regWrite_LDR_L_UMREV 0 clk hup hlive hl, State.wordFields_LDR_L_UMREV_zero port clk hsaved l h3 h4]

end Sys2Proof.Machine
end

section
/-! What the stages of a tick leave alone (R29): the commands that wait, the phase of start-up and the tick engine's own fields. -/

namespace Sys2Proof.Machine

/-- The part of a state that no stage of a tick changes: what changes it is the boundary, a declared overrun and the end of the tick. -/
@[ext] structure Engine where
  pending : List Instr
  phase : Phase
  tick : Nat
  armed : Bool
  overrun : Bool
  ovrCount : Nat
  lastSlot : Nat
  sinceOvr : Nat
  holdStart : Nat
  clrAsked : Bool

def State.engine (s : State) : Engine :=
  ⟨s.pending, s.boot.phase, s.time.tick, s.time.armed, s.time.overrun, s.time.ovrCount, s.time.lastSlot, s.time.sinceOvr,
   s.time.holdStart, s.time.clrAsked⟩

@[simp] theorem State.engine_pending (s : State) : s.engine.pending = s.pending := rfl
@[simp] theorem State.engine_phase (s : State) : s.engine.phase = s.boot.phase := rfl
@[simp] theorem State.engine_tick (s : State) : s.engine.tick = s.time.tick := rfl
@[simp] theorem State.engine_armed (s : State) : s.engine.armed = s.time.armed := rfl
@[simp] theorem State.engine_overrun (s : State) : s.engine.overrun = s.time.overrun := rfl
@[simp] theorem State.engine_ovrCount (s : State) : s.engine.ovrCount = s.time.ovrCount := rfl
@[simp] theorem State.engine_lastSlot (s : State) : s.engine.lastSlot = s.time.lastSlot := rfl
@[simp] theorem State.engine_sinceOvr (s : State) : s.engine.sinceOvr = s.time.sinceOvr := rfl
@[simp] theorem State.engine_holdStart (s : State) : s.engine.holdStart = s.time.holdStart := rfl
@[simp] theorem State.engine_clrAsked (s : State) : s.engine.clrAsked = s.time.clrAsked := rfl

/-- The engine of a state written out, and back below: so simp sees through a change of other fields. Proved by (rfl), to be rewritten
with: as a definitional step it would let the kernel compare the other fields. -/
@[simp] theorem State.engine_mk (pending freeCount out regs boot time cfg links seq ilk sw field lsw fio leaves encs steps moves dies
    pwrScale pwrNow pwrQuiet pat cans hif mem0 mem1 recd) :
    (⟨pending, freeCount, out, regs, boot, time, cfg, links, seq, ilk, sw, field, lsw, fio, leaves, encs, steps, moves, dies,
      pwrScale, pwrNow, pwrQuiet, pat, cans, hif, mem0, mem1, recd⟩ : State).engine =
    ⟨pending, boot.phase, time.tick, time.armed, time.overrun, time.ovrCount, time.lastSlot, time.sinceOvr, time.holdStart,
     time.clrAsked⟩ := (rfl)

@[simp] theorem State.engine_eta (s : State) :
    (⟨s.pending, s.boot.phase, s.time.tick, s.time.armed, s.time.overrun, s.time.ovrCount, s.time.lastSlot, s.time.sinceOvr,
      s.time.holdStart, s.time.clrAsked⟩ : Engine) = s.engine := (rfl)

@[simp] theorem State.ite_engine (c : Prop) [Decidable c] (s t : State) :
    (if c then s else t).engine = if c then s.engine else t.engine := apply_ite State.engine c s t

@[simp] theorem State.ite_fst_engine {α : Type} (c : Prop) [Decidable c] (a b : State × α) :
    (if c then a else b).1.engine = if c then a.1.engine else b.1.engine := apply_ite (fun x : State × α => x.1.engine) c a b

@[simp] theorem State.foldl_engine {ι : Type} (f : State → ι → State) (h : ∀ s i, (f s i).engine = s.engine) (l : List ι)
    (s : State) : (l.foldl f s).engine = s.engine :=
  (foldl_keeps (fun s t => s.engine = t.engine) (fun _ => rfl) Eq.trans f (fun s i => (h s i).symm) l s).symm

/-- The same for a fold that carries something beside the state. -/
@[simp] theorem State.foldl_fst_engine {α ι : Type} (f : State × α → ι → State × α) (h : ∀ a i, (f a i).1.engine = a.1.engine)
    (l : List ι) (a : State × α) : (l.foldl f a).1.engine = a.1.engine :=
  (foldl_keeps (fun a b => a.1.engine = b.1.engine) (fun _ => rfl) Eq.trans f (fun a i => (h a i).symm) l a).symm

/-- Posting changes no field of the engine. -/
theorem State.Posted.engine {u t : State} (h : u.Posted t) : t.engine = u.engine := by
  rw [State.engine, State.engine, h.pending, h.boot, h.time]

/-! Posting, placing and the guarantees -/

@[simp] theorem State.post_engine (e : Post) (s : State) : (s.post e).engine = s.engine := (State.post_posted e s).engine
@[simp] theorem State.posts_engine (l : List Post) (s : State) : (s.posts l).engine = s.engine := (State.posts_posted l s).engine
@[simp] theorem State.says_engine (l : List (Nat × List Byte)) (s : State) : (s.says l).engine = s.engine := (State.says_posted l s).engine
@[simp] theorem State.finish_engine (f : Finish) (s : State) : (s.finish f).engine = s.engine := (State.finish_posted f s).engine
@[simp] theorem State.finishes_engine (l : List Finish) (s : State) : (s.finishes l).engine = s.engine := (State.finishes_posted l s).engine
@[simp] theorem State.place_engine (s : State) : s.place.engine = s.engine := (State.place_posted s).engine
@[simp] theorem State.memPost_engine (s : State) : s.memPost.engine = s.engine := (State.memPost_posted s).engine
@[simp] theorem State.moderate_engine (port r : Nat) (s : State) : (s.moderate port r).engine = s.engine := by simp [State.moderate]
@[simp] theorem State.moderateAll_engine (s : State) : s.moderateAll.engine = s.engine := by simp [State.moderateAll]
@[simp] theorem State.guarantees_engine (s : State) : s.guarantees.engine = s.engine := by simp [State.guarantees]

/-! The host interface -/

@[simp] theorem State.pageEnd_engine (r : PageRun) (status : Nat) (s : State) :
    (s.pageEnd r status).engine = s.engine := by simp [State.pageEnd]

@[simp] theorem State.pageFinish_engine (r : PageRun) (s : State) : (s.pageFinish r).engine = s.engine := by simp [State.pageFinish]
@[simp] theorem State.pageOutOne_engine (r : PageRun) (s : State) : (s.pageOutOne r).1.engine = s.engine := by simp [State.pageOutOne]
@[simp] theorem State.pageOutRun_engine (s : State) (r : PageRun) (n : Nat) : (s.pageOutRun r n).1.engine = s.engine := by
  induction n generalizing s r with
  | zero => rfl
  | succ n ih => unfold State.pageOutRun; split <;> simp [ih]

@[simp] theorem State.pageTick_engine (s : State) (r : PageRun) : (s.pageTick r).engine = s.engine := by simp [State.pageTick]
@[simp] theorem State.hifCmd_engine (job : Job) (code : Nat) (s : State) : (s.hifCmd job code).engine = s.engine := by simp [State.hifCmd]
@[simp] theorem State.violations_engine (s : State) : s.violations.engine = s.engine := by simp [State.violations]

/-! Network time and the CAN controllers -/

@[simp] theorem State.can_engine (ctl : Nat) (f : CanCtl → CanCtl) (s : State) : (s.can ctl f).engine = s.engine := rfl
@[simp] theorem State.masterPeriod_engine (s : State) : s.masterPeriod.engine = s.engine := by simp [State.masterPeriod]
@[simp] theorem State.ntLost_engine (s : State) : s.ntLost.engine = s.engine := by
  simp only [State.ntLost, Time.ntTimeout]
  split <;> simp

@[simp] theorem State.ntTick_engine (s : State) : s.ntTick.engine = s.engine := by simp [State.ntTick]
@[simp] theorem State.canRecover_engine (s : State) : s.canRecover.engine = s.engine := by simp [State.canRecover]
@[simp] theorem State.canPosts_engine (s : State) : s.canPosts.engine = s.engine := by simp [State.canPosts]
@[simp] theorem State.txLoad_engine (ctl o slotWord : Nat) (s : State) : (s.txLoad ctl o slotWord).1.engine = s.engine := rfl
@[simp] theorem State.rxCopy_engine (ctl o slotWord : Nat) (s : State) : (s.rxCopy ctl o slotWord).1.engine = s.engine := rfl
@[simp] theorem State.canCmd_engine (job : Job) (code : Nat) (s : State) : (s.canCmd job code).engine = s.engine := by simp [State.canCmd]

/-! Patina -/

@[simp] theorem State.leaf_engine (l : Nat) (f : Leaf → Leaf) (s : State) : (s.leaf l f).engine = s.engine := rfl
@[simp] theorem State.patMod_engine (f : Pat → Pat) (s : State) : (s.patMod f).engine = s.engine := rfl
@[simp] theorem State.armStore_engine (l dir b w : Nat) (s : State) : (s.armStore l dir b w).engine = s.engine := by
  unfold State.armStore
  dsimp only
  repeat' split
  all_goals simp

@[simp] theorem State.armWrite_engine (l dir b w : Nat) (s : State) : (s.armWrite l dir b w).engine = s.engine := by simp [State.armWrite]
@[simp] theorem State.armRelease_engine (l : Nat) (s : State) : (s.armRelease l).engine = s.engine := by simp [State.armRelease]
@[simp] theorem State.patLeaf_engine (l : Nat) (f : PatLeaf → PatLeaf) (s : State) : (s.patLeaf l f).engine = s.engine := rfl
@[simp] theorem State.patPortal_engine (p : Nat) (f : PatPortal → PatPortal) (s : State) : (s.patPortal p f).engine = s.engine := rfl
@[simp] theorem State.putBin_engine (l dir b : Nat) (x : PatBin) (s : State) : (s.putBin l dir b x).engine = s.engine := rfl
@[simp] theorem State.leafSample_engine (l k : Nat) (x : Int) (s : State) :
    (s.leafSample l k x).engine = s.engine := by simp [State.leafSample]

@[simp] theorem State.portalSample_engine (p k : Nat) (x : Int) (s : State) :
    (s.portalSample p k x).engine = s.engine := by simp [State.portalSample]

@[simp] theorem State.portalSample?_engine (p k : Nat) (x : Option Int) (s : State) : (s.portalSample? p k x).engine = s.engine := by
  unfold State.portalSample?
  split <;> simp

@[simp] theorem State.strokeSamples_engine (l : Nat) (s : State) (k : Stroke) : (s.strokeSamples l k).engine = s.engine := by
  unfold State.strokeSamples
  repeat' split
  all_goals simp

@[simp] theorem State.setQuant_engine (q obj : Nat) (x : Quant) (s : State) :
    (s.setQuant q obj x).engine = s.engine := by simp [State.setQuant]

@[simp] theorem State.withdraw_engine (q obj : Nat) (s : State) : (s.withdraw q obj).engine = s.engine := by simp [State.withdraw]
@[simp] theorem State.replan_engine (q obj : Nat) (s : State) : (s.replan q obj).engine = s.engine := by simp [State.replan]
@[simp] theorem State.setArmQ_engine (q l : Nat) (x : ArmQ) (s : State) : (s.setArmQ q l x).engine = s.engine := rfl
@[simp] theorem State.armWithdraw_engine (q l : Nat) (s : State) : (s.armWithdraw q l).engine = s.engine := by simp [State.armWithdraw]
@[simp] theorem State.armStep_engine (q l : Nat) (a : State × Option (Nat × Int × Int)) (b : Nat) :
    (State.armStep q l a b).1.engine = a.1.engine := by
  unfold State.armStep
  dsimp only
  repeat' split
  all_goals simp

@[simp] theorem State.armReplan_engine (q l : Nat) (s : State) : (s.armReplan q l).engine = s.engine := by
  unfold State.armReplan
  dsimp only
  split
  · refine (State.foldl_engine _ (fun s b => ?_) _ _).trans (by simp)
    split <;> simp
  · repeat' split
    all_goals simp

@[simp] theorem State.putSection_engine (bank : Nat) (x : Section) (s : State) :
    (s.putSection bank x).engine = s.engine := by simp [State.putSection]

@[simp] theorem State.patSave_engine (s : State) : s.patSave.engine = s.engine := by simp [State.patSave]
@[simp] theorem State.setFrozen_engine (q obj : Nat) (v : Bool) (s : State) :
    (s.setFrozen q obj v).engine = s.engine := by simp [State.setFrozen]

@[simp] theorem State.quantPoison_engine (obj : Nat) (s : State) (q : Nat) :
    (s.quantPoison obj q).engine = s.engine := by simp [State.quantPoison]

@[simp] theorem State.quantClean_engine (q obj : Nat) (s : State) : (s.quantClean q obj).engine = s.engine := rfl
@[simp] theorem State.injSamples_engine (l : Nat) (s : State) : (s.injSamples l).engine = s.engine := by simp [State.injSamples]
@[simp] theorem State.cycleEnd_engine (p : Nat) (s : State) : (s.cycleEnd p).engine = s.engine := by simp [State.cycleEnd]
@[simp] theorem State.leafGather_engine (l : Nat) (s : State) : (s.leafGather l).engine = s.engine := by simp [State.leafGather]
@[simp] theorem State.portalGather_engine (p : Nat) (closed : Bool) (s : State) :
    (s.portalGather p closed).engine = s.engine := by simp [State.portalGather]

@[simp] theorem State.inject_engine (l : Nat) (s : State) : (s.inject l).engine = s.engine := by simp [State.inject]
@[simp] theorem State.injectTick_engine (p : Nat) (s : State) : (s.injectTick p).engine = s.engine := by simp [State.injectTick]
@[simp] theorem State.injected_engine (l : Nat) (ok : Bool) (s : State) : (s.injected l ok).engine = s.engine := by simp [State.injected]
@[simp] theorem State.patAccept_engine (q obj : Nat) (s : State) : (s.patAccept q obj).engine = s.engine := by
  unfold State.patAccept
  split
  · refine (State.foldl_engine _ (fun s b => ?_) _ _).trans (by simp)
    split <;> simp
  · simp

@[simp] theorem State.patRefuse_engine (q obj : Nat) (s : State) : (s.patRefuse q obj).engine = s.engine := by simp [State.patRefuse]
@[simp] theorem State.patThaw_engine (q obj : Nat) (s : State) : (s.patThaw q obj).engine = s.engine := by
  unfold State.patThaw
  dsimp only
  split
  · refine (State.foldl_engine _ (fun s b => ?_) _ _).trans (by simp)
    split <;> simp
  · simp

@[simp] theorem State.propRead_engine (q l page port : Nat) (s : State) : (s.propRead q l page port).1.engine = s.engine := rfl
@[simp] theorem State.patCmd_engine (job : Job) (code : Nat) (s : State) : (s.patCmd job code).engine = s.engine := by simp [State.patCmd]

/-! The cycle record -/

@[simp] theorem State.recMod_engine (f : Rec → Rec) (s : State) : (s.recMod f).engine = s.engine := rfl
@[simp] theorem State.readSources_engine (p : Nat) (s : State) : (s.readSources p).1.engine = s.engine := by simp [State.readSources]
@[simp] theorem State.freshSources_engine (p : Nat) (l : List (Nat × Nat)) (s : State) : (s.freshSources p l).engine = s.engine := rfl
@[simp] theorem State.formRecord_engine (p : Nat) (cut : Bool) (s : State) (c : Cycle) :
    (s.formRecord p cut c).engine = s.engine := (State.says_engine _ _).trans (by simp)

@[simp] theorem State.setCycle_engine (p : Nat) (c : Option Cycle) (s : State) : (s.setCycle p c).engine = s.engine := rfl
@[simp] theorem State.cutCycle_engine (p : Nat) (s : State) : (s.cutCycle p).engine = s.engine := by
  unfold State.cutCycle
  split <;> simp

@[simp] theorem State.cycleStage_engine (closed : Nat → Bool) (trips : List Nat) (ce ue : Nat) (s : State) (p : Nat) :
    (s.cycleStage closed trips ce ue p).engine = s.engine := by
  unfold State.cycleStage
  dsimp only
  repeat' split
  all_goals simp

@[simp] theorem State.commitOne_engine (s : State) (seq : Nat) : (s.commitOne seq).engine = s.engine := by simp [State.commitOne]
@[simp] theorem State.commitStaged_engine (s : State) : s.commitStaged.engine = s.engine := by simp [State.commitStaged]
@[simp] theorem State.setRecFrom_engine (port n : Nat) (s : State) : (s.setRecFrom port n).engine = s.engine := rfl
@[simp] theorem State.lagStage_engine (s : State) : s.lagStage.engine = s.engine := by simp [State.lagStage]
@[simp] theorem State.drainCopy_engine (ws : List (DWord × Bool)) (d : Drain) (s : State) : (s.drainCopy ws d).1.engine = s.engine := rfl
@[simp] theorem State.drainOne_engine (d : Drain) (s : State) : (s.drainOne d).1.engine = s.engine := by simp [State.drainOne]
@[simp] theorem State.drainRun_engine (s : State) (d : Drain) (n : Nat) : (s.drainRun d n).1.engine = s.engine := by
  induction n generalizing s d with
  | zero => rfl
  | succ n ih => unfold State.drainRun; split <;> simp [ih]

@[simp] theorem State.drainEnd_engine (d : Drain) (status : Nat) (s : State) :
    (s.drainEnd d status).engine = s.engine := by simp [State.drainEnd]

@[simp] theorem State.drainFinish_engine (d : Drain) (s : State) : (s.drainFinish d).engine = s.engine := by simp [State.drainFinish]
@[simp] theorem State.drainTick_engine (s : State) (port : Nat) : (s.drainTick port).engine = s.engine := by
  unfold State.drainTick
  split <;> simp

@[simp] theorem State.drainCmd_engine (job : Job) (s : State) : (s.drainCmd job).engine = s.engine := by simp [State.drainCmd]
@[simp] theorem State.setUnit_engine (k : Nat) (u : Capture) (s : State) : (s.setUnit k u).engine = s.engine := rfl
@[simp] theorem State.captureEnd_engine (k outcome valid : Nat) (s : State) :
    (s.captureEnd k outcome valid).engine = s.engine := by simp [State.captureEnd]

@[simp] theorem State.capTake_engine (k : Nat) (s : State) : (s.capTake k).engine = s.engine := by simp [State.capTake]
@[simp] theorem State.capTick_engine (s : State) (k : Nat) : (s.capTick k).engine = s.engine := by simp [State.capTick]
@[simp] theorem State.capCmd_engine (job : Job) (code : Nat) (s : State) : (s.capCmd job code).engine = s.engine := by simp [State.capCmd]
@[simp] theorem State.recCmd_engine (job : Job) (code : Nat) (s : State) : (s.recCmd job code).engine = s.engine := by simp [State.recCmd]
@[simp] theorem State.recStage_engine (closed : Nat → Bool) (trips : List Nat) (s : State) :
    (s.recStage closed trips).engine = s.engine := by simp [State.recStage]

/-! The bridge dies -/

@[simp] theorem State.die_engine (b : Nat) (f : BridgeDie → BridgeDie) (s : State) : (s.die b f).engine = s.engine := rfl
@[simp] theorem State.move_engine (a : Nat) (f : Move → Move) (s : State) : (s.move a f).engine = s.engine := rfl
@[simp] theorem State.stepD_engine (p : Nat) (f : StepDrive → StepDrive) (s : State) : (s.stepD p f).engine = s.engine := rfl
@[simp] theorem State.driveEv_engine (l : Nat) (f : LeafDrive → LeafDrive × List Ev) (s : State) :
    (s.driveEv l f).engine = s.engine := by simp [State.driveEv]

@[simp] theorem State.stepEv_engine (p : Nat) (f : StepDrive → StepDrive × List Ev) (s : State) :
    (s.stepEv p f).engine = s.engine := by simp [State.stepEv]

@[simp] theorem State.dieEv_engine (b : Nat) (f : BridgeDie → BridgeDie × List Ev) (s : State) :
    (s.dieEv b f).engine = s.engine := by simp [State.dieEv]

@[simp] theorem State.takeEdge_engine (s : State) (l : Nat) : (s.takeEdge l).engine = s.engine := by simp [State.takeEdge]
@[simp] theorem State.learnSafe_engine (b : Nat) (safe : Bool) (s : State) :
    (s.learnSafe b safe).engine = s.engine := by simp [State.learnSafe]

@[simp] theorem State.dieIntake_engine (s : State) (b : Nat) (x : DieIn) : (s.dieIntake b x).engine = s.engine := by simp [State.dieIntake]

/-! Stages 3 and 4: force and obstacles -/

@[simp] theorem State.forceLeaf_engine (s : State) (l : Nat) : (s.forceLeaf l).engine = s.engine := by simp [State.forceLeaf]
@[simp] theorem State.readArm_engine (l dir b : Nat) (s : State) : (s.readArm l dir b).1.engine = s.engine := by simp [State.readArm]
@[simp] theorem State.readArms_engine (l : Nat) (s : State) : (s.readArms l).1.engine = s.engine := by simp [State.readArms]
@[simp] theorem State.dropCleanWords_engine (s : State) : s.dropCleanWords.engine = s.engine := rfl
@[simp] theorem State.judgeLeaf_engine (l : Nat) (s : State) : (s.judgeLeaf l).1.engine = s.engine := by simp [State.judgeLeaf]
@[simp] theorem State.limitReaction_engine (l : Nat) (s : State) : (s.limitReaction l).engine = s.engine := by simp [State.limitReaction]
@[simp] theorem State.tripLeaf_engine (l own cause dir : Nat) (s : State) :
    (s.tripLeaf l own cause dir).engine = s.engine := by simp [State.tripLeaf]

@[simp] theorem State.tripPortal_engine (p own0 own1 dir : Nat) (s : State) :
    (s.tripPortal p own0 own1 dir).engine = s.engine := by simp [State.tripPortal]

@[simp] theorem State.releaseOrder_engine (s : State) (l : Nat) : (s.releaseOrder l).engine = s.engine := by simp [State.releaseOrder]
@[simp] theorem State.obsPortal_engine (n : Nat) (s : State) (p : Nat) : (s.obsPortal n p).engine = s.engine := by simp [State.obsPortal]
@[simp] theorem State.curtainsLost_engine (s : State) : s.curtainsLost.engine = s.engine := by simp [State.curtainsLost]
@[simp] theorem State.obsStage_engine (n : Nat) (s : State) : (s.obsStage n).engine = s.engine := by simp [State.obsStage]
@[simp] theorem State.forceStage_engine (n : Nat) (s : State) : (s.forceStage n).engine = s.engine := by simp [State.forceStage]

/-! Stage 7: motion -/

@[simp] theorem State.moveEv_engine (a : Nat) (f : Move → Move) (s : State) : (s.moveEv a f).engine = s.engine := by simp [State.moveEv]
@[simp] theorem State.clampMark_engine (a : Nat) (t : Int) (lim : Option Int) (s : State) : (s.clampMark a t lim).engine = s.engine := by
  unfold State.clampMark
  split <;> simp

@[simp] theorem State.orderMove_engine (a : Nat) (o : Order) (p0 : Int) (s : State) : (s.orderMove a o p0).engine = s.engine := by
  unfold State.orderMove
  split <;> simp

@[simp] theorem State.clampAfter_engine (a : Nat) (s : State) : (s.clampAfter a).engine = s.engine := by
  unfold State.clampAfter
  dsimp only
  repeat' split
  all_goals simp

@[simp] theorem State.leafReact_engine (l : Nat) (s : State) : (s.leafReact l).engine = s.engine := by simp [State.leafReact]
@[simp] theorem State.referenceLeaf_engine (l : Nat) (s : State) : (s.referenceLeaf l).engine = s.engine := by simp [State.referenceLeaf]
@[simp] theorem State.leafOrders_engine (l : Nat) (s : State) : (s.leafOrders l).engine = s.engine := by
  unfold State.leafOrders
  dsimp only
  repeat' split
  all_goals simp

@[simp] theorem State.leafResume_engine (l : Nat) (s : State) : (s.leafResume l).engine = s.engine := by
  unfold State.leafResume
  dsimp only
  repeat' split
  all_goals simp

@[simp] theorem State.leafUv_engine (l : Nat) (s : State) : (s.leafUv l).engine = s.engine := by simp [State.leafUv]
@[simp] theorem State.leafFollow_engine (l out : Nat) (s : State) : (s.leafFollow l out).engine = s.engine := by simp [State.leafFollow]
@[simp] theorem State.leafRun_engine (l : Nat) (s : State) : (s.leafRun l).engine = s.engine := by simp [State.leafRun]
@[simp] theorem State.gearStart_engine (l : Nat) (s : State) : (s.gearStart l).engine = s.engine := by simp [State.gearStart]
@[simp] theorem State.gearFollow_engine (l : Nat) (was : Int) (s : State) :
    (s.gearFollow l was).engine = s.engine := by simp [State.gearFollow]

@[simp] theorem State.leafAfter_engine (l : Nat) (s : State) : (s.leafAfter l).engine = s.engine := by simp [State.leafAfter]
@[simp] theorem State.leafMotion_engine (s : State) (l : Nat) : (s.leafMotion l).engine = s.engine := by simp [State.leafMotion]
@[simp] theorem State.homeOrder_engine (p : Nat) (ph : Homing) (s : State) :
    (s.homeOrder p ph).engine = s.engine := by simp [State.homeOrder]

@[simp] theorem State.homeStart_engine (p : Nat) (s : State) : (s.homeStart p).engine = s.engine := by simp [State.homeStart]
@[simp] theorem State.stepOrders_engine (p : Nat) (s : State) : (s.stepOrders p).engine = s.engine := by
  unfold State.stepOrders
  dsimp only
  repeat' split
  all_goals simp

@[simp] theorem State.homeFail_engine (p cause : Nat) (s : State) : (s.homeFail p cause).engine = s.engine := by simp [State.homeFail]
@[simp] theorem State.homeTrip_engine (p : Nat) (s : State) : (s.homeTrip p).engine = s.engine := by simp [State.homeTrip]
@[simp] theorem State.homeStallTrip_engine (p : Nat) (s : State) : (s.homeStallTrip p).engine = s.engine := by simp [State.homeStallTrip]
@[simp] theorem State.stepStall_engine (p : Nat) (slip : Bool) (s : State) :
    (s.stepStall p slip).engine = s.engine := by simp [State.stepStall]

@[simp] theorem State.homeBefore_engine (p : Nat) (s : State) : (s.homeBefore p).engine = s.engine := by simp [State.homeBefore]
@[simp] theorem State.homeAfter_engine (p : Nat) (resumed : Bool) (s : State) :
    (s.homeAfter p resumed).engine = s.engine := by simp [State.homeAfter]

@[simp] theorem State.homeCount_engine (p : Nat) (s : State) : (s.homeCount p).engine = s.engine := by
  unfold State.homeCount
  split <;> simp

@[simp] theorem State.homeMismatch_engine (p : Nat) (s : State) : (s.homeMismatch p).engine = s.engine := by simp [State.homeMismatch]
@[simp] theorem State.stepHold_engine (p : Nat) (s : State) : (s.stepHold p).engine = s.engine := by
  unfold State.stepHold
  dsimp only
  repeat' split
  all_goals simp

@[simp] theorem State.stallEnd_engine (p : Nat) (s : State) : (s.stallEnd p).engine = s.engine := by simp [State.stallEnd]
@[simp] theorem State.stepMotion_engine (s : State) (p : Nat) : (s.stepMotion p).engine = s.engine := by simp [State.stepMotion]
@[simp] theorem State.beginMoves_engine (s : State) : s.beginMoves.engine = s.engine := rfl
@[simp] theorem State.motionStage_engine (n : Nat) (s : State) : (s.motionStage n).engine = s.engine := by simp [State.motionStage]

/-! Stage 8: the drives -/

@[simp] theorem State.powerStep_engine (s : State) : s.powerStep.engine = s.engine := by simp [State.powerStep]
@[simp] theorem State.leafAbort_engine (l : Nat) (s : State) : (s.leafAbort l).engine = s.engine := by simp [State.leafAbort]
@[simp] theorem State.leafLoops_engine (onMv : Nat → Nat) (s : State) (l : Nat) :
    (s.leafLoops onMv l).engine = s.engine := by simp [State.leafLoops]

@[simp] theorem State.readTable_engine (p i : Nat) (s : State) : (s.readTable p i).1.engine = s.engine := by simp [State.readTable]
@[simp] theorem State.stepAmp_engine (p : Nat) (m : Int) (s : State) : (s.stepAmp p m).1.engine = s.engine := by
  unfold State.stepAmp
  dsimp only
  repeat' split
  all_goals simp

@[simp] theorem State.stillStep_engine (p : Nat) (s : State) : (s.stillStep p).engine = s.engine := rfl
@[simp] theorem State.stepMeasure_engine (s : State) (p : Nat) : (s.stepMeasure p).engine = s.engine := by simp [State.stepMeasure]
@[simp] theorem State.stepLoops_engine (p : Nat) (s : State) : (s.stepLoops p).1.engine = s.engine := by simp [State.stepLoops]
@[simp] theorem State.dieWords_engine (legs : Nat → List Leg × List Leg) (s : State) (b : Nat) : (s.dieWords legs b).engine = s.engine := by
  unfold State.dieWords
  dsimp only
  repeat' split
  all_goals simp

@[simp] theorem State.loopStage_engine (onMv : Nat → Nat) (s : State) : (s.loopStage onMv).engine = s.engine := by simp [State.loopStage]

/-! Links 4 and 5 -/

@[simp] theorem State.link_engine (n : Nat) (f : Link → Link) (s : State) : (s.link n f).engine = s.engine := rfl
@[simp] theorem State.linkEv_engine (n : Nat) (f : Link → Link × List Ev) (s : State) :
    (s.linkEv n f).engine = s.engine := by simp [State.linkEv]

@[simp] theorem State.trainEvents_engine (old s : State) : (State.trainEvents old s).engine = s.engine := by simp [State.trainEvents]
@[simp] theorem State.adoptCmd_engine (s : State) : s.adoptCmd.engine = s.engine := rfl
@[simp] theorem State.link4Intake_engine (valid : Bool) (temp : Int) (s0 : State) :
    (s0.link4Intake valid temp).1.engine = s0.engine := by simp [State.link4Intake]

@[simp] theorem State.outView_engine (j : Nat) (f : OutView → OutView × List Ev) (s : State) :
    (s.outView j f).engine = s.engine := by simp [State.outView]

@[simp] theorem State.link5Intake_engine (valid : Bool) (s : State) : (s.link5Intake valid).engine = s.engine := by simp [State.link5Intake]
@[simp] theorem State.lswCmd_engine (job : Job) (code : Nat) (s : State) : (s.lswCmd job code).engine = s.engine := by
  unfold State.lswCmd
  dsimp only
  repeat' split
  all_goals simp

@[simp] theorem State.setOut_engine (on : Bool) (s : State) (j : Nat) : (s.setOut on j).engine = s.engine := by simp [State.setOut]
@[simp] theorem State.fioCmd_engine (job : Job) (code : Nat) (s : State) : (s.fioCmd job code).engine = s.engine := by
  unfold State.fioCmd
  dsimp only
  repeat' split
  all_goals simp

@[simp] theorem State.buildFrames_engine (s : State) : s.buildFrames.engine = s.engine := by simp [State.buildFrames]

/-! Registers -/

@[simp] theorem State.rejectWrite_engine (port off cause : Nat) (s : State) :
    (s.rejectWrite port off cause).engine = s.engine := by simp [State.rejectWrite]

@[simp] theorem State.noteRemote_engine (off : Nat) (w : Word) (s : State) : (s.noteRemote off w).engine = s.engine := rfl
@[simp] theorem State.takeWord_engine (r : RegRow) (i : Nat) (w : Word) (s : State) : (s.takeWord r i w).engine = s.engine := by
  simp [State.takeWord, Time.restartNt]

@[simp] theorem State.judgeField_engine (r : RegRow) (i : Nat) (w : Word) (s : State) :
    (s.judgeField r i w).engine = s.engine := by simp [State.judgeField]

@[simp] theorem State.takeShadow_engine (a : State × List Nat) (x : Shadow) : (State.takeShadow a x).1.engine = a.1.engine := by
  unfold State.takeShadow
  split <;> simp

@[simp] theorem State.takeShadows_engine (s : State) : s.takeShadows.1.engine = s.engine := by simp [State.takeShadows]

/-! Armatures and tables -/

@[simp] theorem State.copyPage_engine (job : Job) (page src dst n : Nat) (s : State) :
    (s.copyPage job page src dst n).engine = s.engine := by simp [State.copyPage]

@[simp] theorem State.obsCmd_engine (job : Job) (code : Nat) (s : State) : (s.obsCmd job code).engine = s.engine := by simp [State.obsCmd]
@[simp] theorem State.stpCmd_engine (job : Job) (code : Nat) (s : State) : (s.stpCmd job code).engine = s.engine := by simp [State.stpCmd]
@[simp] theorem State.takeTables_engine (s : State) : s.takeTables.engine = s.engine := by simp [State.takeTables]

/-! Reliefs and images -/

@[simp] theorem State.bankState_engine (b : Nat) (f : BankState → BankState) (s : State) : (s.bankState b f).engine = s.engine := rfl
@[simp] theorem State.reliefWord_engine (es : List CfgEntry) (check : Bool) (a : State × List Nat) (off : Nat) :
    (State.reliefWord es check a off).1.engine = a.1.engine := by
  unfold State.reliefWord
  split <;> simp

@[simp] theorem State.changeRelief_engine (new : Nat) (s : State) : (s.changeRelief new).1.engine = s.engine := by simp [State.changeRelief]
@[simp] theorem State.reliefCmd_engine (job : Job) (s : State) : (s.reliefCmd job).engine = s.engine := by simp [State.reliefCmd]
@[simp] theorem State.reliefReq_engine (f : ReliefReq → ReliefReq) (s : State) : (s.reliefReq f).engine = s.engine := rfl
@[simp] theorem State.reliefGuard_engine (s : State) : s.reliefGuard.engine = s.engine := by
  unfold State.reliefGuard
  split <;> simp

@[simp] theorem State.reliefPoison_engine (r : Nat) (s : State) : (s.reliefPoison r).1.engine = s.engine := by simp [State.reliefPoison]
@[simp] theorem State.reliefTake_engine (s : State) : s.reliefTake.1.engine = s.engine := by
  unfold State.reliefTake
  split <;> simp

@[simp] theorem State.reliefEnd_engine (q : ReliefReq) (status result : Nat) (s : State) :
    (s.reliefEnd q status result).engine = s.engine := by simp [State.reliefEnd]

@[simp] theorem State.reliefTimeout_engine (s : State) : s.reliefTimeout.engine = s.engine := by
  unfold State.reliefTimeout
  split <;> simp

@[simp] theorem State.reliefTick_engine (s : State) : s.reliefTick.engine = s.engine := by
  unfold State.reliefTick
  split <;> simp

@[simp] theorem State.bankPut_engine (b off v : Nat) (s : State) : (s.bankPut b off v).engine = s.engine := rfl
@[simp] theorem State.imgCmd_engine (job : Job) (code : Nat) (s : State) : (s.imgCmd job code).engine = s.engine := by simp [State.imgCmd]
@[simp] theorem State.cfgCmd_engine (job : Job) (code : Nat) (s : State) : (s.cfgCmd job code).engine = s.engine := by simp [State.cfgCmd]
@[simp] theorem State.headWritten_engine (q : Install) (ws : List (DWord × Bool)) (s : State) :
    (s.headWritten q ws).engine = s.engine := by simp [State.headWritten]

@[simp] theorem State.imgPage_engine (q : Install) (s : State) : (s.imgPage q).1.engine = s.engine := by
  unfold State.imgPage
  dsimp only
  split <;> simp

@[simp] theorem State.imgEnd_engine (q : Install) (status result : Nat) (s : State) :
    (s.imgEnd q status result).engine = s.engine := by simp [State.imgEnd]

@[simp] theorem State.imgMoved_engine (q : Install) (s : State) : (s.imgMoved q).engine = s.engine := by simp [State.imgMoved]
@[simp] theorem State.topGen_engine (s : State) : s.topGen.1.engine = s.engine := by simp [State.topGen]
@[simp] theorem State.imgCommit_engine (q : Install) (s : State) : (s.imgCommit q).engine = s.engine := by
  unfold State.imgCommit
  dsimp only
  split <;> simp

@[simp] theorem State.imgTick_engine (s : State) : s.imgTick.engine = s.engine := by
  unfold State.imgTick
  repeat' split
  all_goals simp

/-! The boundary, intake and the judging of commands -/

@[simp] theorem State.takeDisarms_engine (s : State) : s.takeDisarms.engine = s.engine := rfl
@[simp] theorem State.intake_engine (n : Nat) (a : TickIn) (s : State) : (s.intake n a).1.engine = s.engine := by simp [State.intake]
@[simp] theorem State.compareAxis_engine (armed : List Nat) (s : State) (a : Nat) :
    (s.compareAxis armed a).engine = s.engine := by simp [State.compareAxis]

@[simp] theorem State.feedbackTick_engine (n : Nat) (a : TickIn) (armed : List Nat) (s : State) :
    (s.feedbackTick n a armed).engine = s.engine := by simp [State.feedbackTick]

@[simp] theorem State.ilkStage_engine (a : TickIn) (s : State) : (s.ilkStage a).engine = s.engine := by simp [State.ilkStage]
@[simp] theorem State.ilkSkipped_engine (s : State) : s.ilkSkipped.engine = s.engine := by simp [State.ilkSkipped]
@[simp] theorem State.seqView_engine (s : State) : s.seqView.engine = s.engine := rfl
@[simp] theorem State.trackPoison_engine (t : Tracked) (s : State) : (s.trackPoison t).1.engine = s.engine := by simp [State.trackPoison]
@[simp] theorem State.markJudged_engine (id : Nat) (s : State) : (s.markJudged id).engine = s.engine := rfl
@[simp] theorem State.judgeWith_engine (f : Job → Nat → State → State) (s : State) (t : Tracked)
    (h : ∀ job code s, (f job code s).engine = s.engine) :
    (s.judgeWith f t).engine = s.engine := by simp [State.judgeWith, h]

@[simp] theorem State.memCmd_engine (job : Job) (code : Nat) (s : State) : (s.memCmd job code).engine = s.engine := by
  unfold State.memCmd
  split <;> simp

@[simp] theorem State.blockCmd_engine (block : Nat) (job : Job) (code : Nat) (s : State) :
    (s.blockCmd block job code).engine = s.engine := by
  unfold State.blockCmd
  split <;> simp

@[simp] theorem State.judgeBlocks_engine (blocks : Nat → Bool) (s : State) :
    (s.judgeBlocks blocks).engine = s.engine := by simp [State.judgeBlocks]

/-! The stages as a whole -/

@[simp] theorem State.seqOut_engine (o : SeqOut) (s : State) : (s.seqOut o).engine = s.engine := by simp [State.seqOut]
@[simp] theorem State.seqReqs_engine (s : State) : s.seqReqs.1.engine = s.engine := by simp [State.seqReqs]
@[simp] theorem State.zeroPositions_engine (s : State) : s.zeroPositions.engine = s.engine := by simp [State.zeroPositions]
@[simp] theorem State.seqStage_engine (n : Nat) (ovrNew whole : Bool) (s : State) :
    (s.seqStage n ovrNew whole).engine = s.engine := by simp [State.seqStage]

@[simp] theorem State.dispatchStage_engine (s : State) : s.dispatchStage.engine = s.engine := by simp [State.dispatchStage]
@[simp] theorem State.lateStage_engine (n : Nat) (trips : List Nat) (s : State) :
    (s.lateStage n trips).engine = s.engine := by simp [State.lateStage]

@[simp] theorem State.rejectBad_engine (s : State) : s.rejectBad.engine = s.engine := by simp [State.rejectBad]
@[simp] theorem State.trackTimeouts_engine (s : State) : s.trackTimeouts.engine = s.engine := by simp [State.trackTimeouts]
@[simp] theorem State.memTick_engine (m : Nat) (s : State) : (s.memTick m).engine = s.engine := by simp [State.memTick]
@[simp] theorem State.consumedPosts_engine (s : State) : s.consumedPosts.engine = s.engine := by simp [State.consumedPosts]
@[simp] theorem State.workingWrite_engine (s : State) : s.workingWrite.engine = s.engine := by simp [State.workingWrite]
@[simp] theorem State.serveStage_engine (s : State) : s.serveStage.engine = s.engine := by simp [State.serveStage]
@[simp] theorem State.postStage_engine (whole : Bool) (s : State) : (s.postStage whole).engine = s.engine := by simp [State.postStage]

end Sys2Proof.Machine
end

section
/-! Overruns and the safe hold (O21, O22): a tick as its engine sees it, which is a small machine of its own. -/

namespace Sys2Proof.Machine

/-! The engine over a whole tick: the boundary moves it on, an overrun is declared in it, and the end of the tick sets the phase. -/

/-- A new tick begins. -/
def Engine.next (e : Engine) : Engine := { e with tick := e.tick + 1 }

/-- A release of the safe hold that waits is granted, where more than 16 ticks have passed since the last overrun or there was none,
or refused (R50). -/
def Engine.clear (e : Engine) : Engine :=
  { e with clrAsked := false, overrun := if e.clrAsked = true ∧ (16 < e.sinceOvr ∨ e.ovrCount = 0) then false else e.overrun }

/-- ARMED from the tick after the first complete one (R440). -/
def Engine.arm (e : Engine) : Engine := { e with armed := e.armed || decide (e.phase = .running) }

/-- The tick counts as one without an overrun until one is declared. -/
def Engine.age (e : Engine) : Engine := { e with sinceOvr := e.sinceOvr + 1 }

/-- Clock 0 of a tick. -/
def Engine.boundary (e : Engine) : Engine := e.next.clear.arm.age

/-- An overrun is declared (R48, R49). -/
def Engine.declare (e : Engine) (o : Overrun) : Engine :=
  { e with overrun := true, holdStart := if e.overrun then e.holdStart else e.tick, sinceOvr := 0
           ovrCount := satInc 12 e.ovrCount, lastSlot := o.slot }

/-- The end of a tick: the first one without an overrun ends the start-up (R440). -/
def Engine.close (e : Engine) (ov : List Overrun) : Engine :=
  { e with phase := if e.phase = .first ∧ ov = [] then .running else e.phase }

theorem State.takeClear_engine (s : State) : s.takeClear.engine = s.engine.clear := by
  by_cases hasked : s.time.clrAsked = true
  · by_cases hlong : 16 < s.time.sinceOvr ∨ s.time.ovrCount = 0
    · cases hovr : s.time.overrun <;> simp [State.takeClear, Engine.clear, hasked, hlong, hovr]
    · simp [State.takeClear, Engine.clear, hasked, hlong]
  · have hkeeps : s.takeClear = s := by simp [State.takeClear, hasked]
    ext <;> simp [hkeeps, Engine.clear, hasked]

theorem State.takeArmed_engine (s : State) : s.takeArmed.engine = s.engine.arm := by
  by_cases hrun : s.boot.phase = .running
  · by_cases harmed : s.time.armed = true
    · have hkeeps : s.takeArmed = s := by simp [State.takeArmed, harmed]
      ext <;> simp [hkeeps, Engine.arm, harmed]
    · simp [State.takeArmed, Engine.arm, hrun, harmed]
  · have hkeeps : s.takeArmed = s := by simp [State.takeArmed, hrun]
    ext <;> simp [hkeeps, Engine.arm, hrun]

theorem State.aged_engine (s : State) :
    ({ s with time := { s.time with sinceOvr := s.time.sinceOvr + 1 } } : State).engine = s.engine.age := rfl

theorem State.boundary_engine (s : State) : s.boundary.1.engine = s.engine.boundary := by
  refine (State.aged_engine _).trans ?_
  simp only [State.takeDisarms_engine, State.takeTables_engine, State.takeShadows_engine, State.reliefTake_engine,
    State.beginMoves_engine, State.takeArmed_engine, State.takeClear_engine]
  rfl

theorem State.declareOverrun_engine (o : Overrun) (s : State) : (s.declareOverrun o).engine = s.engine.declare o := rfl

theorem State.declares_engine (ov : List Overrun) (s : State) :
    (ov.foldl (fun (s : State) o => s.declareOverrun o) s).engine = ov.foldl Engine.declare s.engine := by
  induction ov generalizing s with
  | nil => rfl
  | cons o ov ih => exact ih (s.declareOverrun o)

theorem State.controlStages_engine (ov : List Overrun) (a : TickIn) (axes : List Nat) (s : State) :
    (s.controlStages ov a axes).1.engine = ov.foldl Engine.declare s.engine := by
  simp [State.controlStages, State.declares_engine]

theorem State.closeTick_engine (ov : List Overrun) (a : TickIn) (s : State) : (s.closeTick ov a).engine = s.engine.close ov :=
  State.reliefGuard_engine _

theorem State.controlTick_engine (ov : List Overrun) (a : TickIn) (s : State) :
    (s.controlTick ov a).engine = (ov.foldl Engine.declare s.engine.boundary).close ov := by
  simp [State.controlTick, State.closeTick_engine, State.controlStages_engine, State.boundary_engine]

theorem State.tick_of_runs (ov : List Overrun) (a : TickIn) {s : State} (hreset : s.boot.resetAsked = false)
    (hphase : s.boot.phase = .first ∨ s.boot.phase = .running) : s.tick ov a = s.controlTick ov a := by
  rcases hphase with hphase | hphase <;> simp [State.tick, hreset, hphase]

/-! The overruns of one tick (R47 to R49). -/

theorem Engine.boundary_overrun (e : Engine) : e.boundary.overrun = true ↔
    e.overrun = true ∧ ¬(e.clrAsked = true ∧ (16 < e.sinceOvr ∨ e.ovrCount = 0)) := by
  by_cases h : e.clrAsked = true ∧ (16 < e.sinceOvr ∨ e.ovrCount = 0) <;>
    simp [Engine.boundary, Engine.next, Engine.clear, Engine.arm, Engine.age, h]

/-- However many slots of a tick overrun: the hold stands, from the tick in which it began, and the count of ticks without one is 0. -/
theorem Engine.declares_eq (l : List Overrun) (hl : l ≠ []) (e : Engine) : l.foldl Engine.declare e = { e with
    overrun := true, holdStart := if e.overrun then e.holdStart else e.tick, sinceOvr := 0
    ovrCount := (l.foldl Engine.declare e).ovrCount, lastSlot := (l.foldl Engine.declare e).lastSlot } := by
  induction l generalizing e with
  | nil => exact absurd rfl hl
  | cons o l ih =>
    rcases l with - | ⟨p, l⟩
    · rfl
    · rw [List.foldl_cons, ih (by simp)]
      rfl

theorem mem_overruns (o : Overrun) (l : List Overrun) (hlo : 1 ≤ o.slot) (hhi : o.slot ≤ 11) : o ∈ overruns (o :: l) :=
  List.mem_filterMap.mpr ⟨o.slot, by simp; omega, by simp⟩

theorem overruns_singleton (o : Overrun) (hlo : 1 ≤ o.slot) (hhi : o.slot ≤ 11) : overruns [o] = [o] := by
  obtain ⟨slot, progress, axis, clk⟩ := o
  obtain ⟨k, rfl⟩ : ∃ k, slot = k + 1 := ⟨slot - 1, (Nat.sub_add_cancel hlo).symm⟩
  have hk : k < 11 := hhi
  iterate 11 (obtain _ | k := k; · rfl)
  omega

theorem Engine.close_of_overrun (e : Engine) {ov : List Overrun} (hov : ov ≠ []) : e.close ov = e := by
  simp [Engine.close, hov]

/-! The two rows. -/

section
variable (a : TickIn) {s : State} (hreset : s.boot.resetAsked = false) (hphase : s.boot.phase = .first ∨ s.boot.phase = .running)
include hreset hphase

theorem exec_tick_engine : ∃ t, exec (.tick a) s = .next t ∧ t.engine = s.engine.boundary.close [] :=
  ⟨s.controlTick [] a, congrArg Host.Outcome.next (State.tick_of_runs [] a hreset hphase), s.controlTick_engine [] a⟩

theorem exec_tickOverrun_engine (o : Overrun) (hlo : 1 ≤ o.slot) (hhi : o.slot ≤ 11) :
    ∃ t, exec (.tickOverrun o.slot o.progress o.axis o.clk a) s = .next t ∧
      t.engine = (overruns (o :: a.more)).foldl Engine.declare s.engine.boundary := by
  refine ⟨s.controlTick (overruns (o :: a.more)) a, ?_, ?_⟩
  · show execTickOverrun _ _ _ _ a s = _
    rw [execTickOverrun, if_pos ⟨hlo, hhi⟩, State.tick_of_runs _ a hreset hphase]
  · rw [State.controlTick_engine, Engine.close_of_overrun _ (List.ne_nil_of_mem (mem_overruns o a.more hlo hhi))]

end

theorem exec_tickOverrun_no_slot {slot : Nat} (progress axis clk : Nat) (a : TickIn) (s : State) (h : slot = 0 ∨ 11 < slot) :
    exec (.tickOverrun slot progress axis clk a) s = .fault .noSuchObject :=
  if_neg (by omega)

/-- Settles O21: the engine of such a tick is that of its boundary with the overruns declared in it. -/
theorem tickOverrunHolds : Obligations.TickOverrunHolds := by
  refine ⟨fun slot progress axis clk a s h => exec_tickOverrun_no_slot progress axis clk a s h, ?_⟩
  intro slot progress axis clk a s hlo hhi hreset hphase
  obtain ⟨t, hexec, hengine⟩ := exec_tickOverrun_engine a hreset hphase ⟨slot, progress, axis, clk⟩ hlo hhi
  have hdeclared := hengine.trans (Engine.declares_eq _ (List.ne_nil_of_mem (mem_overruns _ a.more hlo hhi)) _)
  have hstart : t.time.holdStart = if s.engine.boundary.overrun then s.time.holdStart else s.time.tick + 1 :=
    congrArg Engine.holdStart hdeclared
  refine ⟨t, hexec, congrArg Engine.tick hdeclared, congrArg Engine.overrun hdeclared, fun hmore => ?_,
    congrArg Engine.sinceOvr hdeclared, congrArg Engine.phase hdeclared, fun hheld hasked => ?_, fun hfree => ?_,
    congrArg Engine.pending hdeclared⟩
  · rw [hmore, overruns_singleton ⟨slot, progress, axis, clk⟩ hlo hhi] at hengine
    exact ⟨congrArg Engine.lastSlot hengine, congrArg Engine.ovrCount hengine⟩
  · rw [hstart, if_pos (by simp [Engine.boundary_overrun, hheld, hasked])]
  · rw [hstart, if_neg (by simp [Engine.boundary_overrun, hfree])]

theorem exec_clrOverrun {s : State} (hup : s.up = true) : exec .clrOverrun s = .next s.askClear.flush :=
  congrArg Host.Outcome.next (State.whenUp_of _ _ hup)

/-- Settles O22: a request waits for the boundary, which grants or refuses it, and no stage of the tick touches the hold. -/
theorem safeHoldRelease : Obligations.SafeHoldRelease := by
  refine ⟨fun s hup => exec_clrOverrun hup, fun s hasked hcount hrecent => ?_, fun s hasked hheld hlong => ?_,
    fun a s hreset hphase => ?_⟩
  · have hrefused : ¬(16 < s.time.sinceOvr ∨ s.time.ovrCount = 0) := by omega
    simp [State.takeClear, hasked, hrefused]
  · simp [State.takeClear, hasked, hheld, hlong]
  · obtain ⟨t, hexec, hengine⟩ := exec_tick_engine a hreset (.inr hphase)
    have hovr : t.time.overrun = s.engine.boundary.overrun := congrArg Engine.overrun hengine
    exact ⟨t, hexec, congrArg Engine.clrAsked hengine, by rw [hovr]; exact Engine.boundary_overrun s.engine⟩

end Sys2Proof.Machine
end

section
/-! Time rows (O29, O31, O47): the read of the device time, the write of object enables beside the time master, network time. -/

namespace Sys2Proof.Machine

/-! The device time (R53). -/

theorem exec_dtcLoRead (port clk : Nat) (s : State) (hport : port < 2) (hup : s.up = true) (hlive : s.portLive port = true) :
    exec (.dtcLoRead port clk) s = .next (({ s with time := { s.time with
      snapHi := s.time.snapHi.put port ((10000 * s.time.tick + clk) / 4294967296 % 4294967296) } } : State).answerRead port
        (10000 * s.time.tick + clk)).flush := by
  show onObject 2 port _ = _
  rw [onObject_of_lt _ _ _ hport, State.fromPort_of _ _ _ hup hlive]

/-- Settles O29: the read goes through for a live port, and its answer and its snapshot come from one clock. -/
theorem dtcRead : Obligations.DtcRead := by
  intro s port clk hport hup hlive
  exact exec_dtcLoRead port clk s hport hup hlive

/-! The object enables of the source controller in master mode (R316, R330). -/

/-- Port A is live, the source controller 0 is the time master's, and bit 127 of its enables is set. -/
def masterWithEnable : State :=
  { State.reset with
    cfg := { Cfg.reset with committed := true }
    boot := { Boot.reset with straps := 32 }
    hif := Hif.reset.port 0 (fun p => { p with linkUp := true })
    regs := (RegFile.reset.setWord Reg.TCK_NT_CFG 0 2).setWord Reg.CAN_C_OBJ_EN 3 0x80000000 }

/-- A host's write of 0 leaves the time master's enable bit as it was (R330). -/
theorem masterWithEnable_keeps_bit :
    (masterWithEnable.regWrite 0 (Reg.CAN_C_OBJ_EN.addr 3) 0 15 0).regs.word Reg.CAN_C_OBJ_EN 3 = 0x80000000 := by
  decide +kernel

/-- Refutes O31: its last clause takes a write of 0 to the object enables as stored whole, but in master mode the bit of object 127 of the
source controller is the time master's, and a host's write does not reach it (R330). -/
theorem not_registerRows : ¬ Obligations.RegisterRows := by
  intro h
  obtain ⟨-, -, -, -, -, henable⟩ := h masterWithEnable 0 (by decide) (by decide) (by decide) (by decide)
  obtain ⟨u, hexec, hu, -⟩ := henable 0 3 (by decide) (by decide)
  have hnext : (masterWithEnable.regWrite 0 (Reg.CAN_C_OBJ_EN.addr 3) 0 15 0).flush = u.flush := by
    injection hexec
  have hregs : (masterWithEnable.regWrite 0 (Reg.CAN_C_OBJ_EN.addr 3) 0 15 0).regs = u.regs := by
    simpa using congrArg State.regs hnext
  have hkept : u.regs.word Reg.CAN_C_OBJ_EN 3 = 0x80000000 := hregs ▸ masterWithEnable_keeps_bit
  have hstored : u.regs.word Reg.CAN_C_OBJ_EN 3 = 0 := by
    have hzero : u.regs = masterWithEnable.regs.setWord Reg.CAN_C_OBJ_EN 3 0 := congrArg State.regs hu
    rw [hzero]
    decide
  exact absurd (hkept.symm.trans hstored) (by decide)

/-! Network time (R55 to R59, R330). -/

theorem RegFile.fld_lt (f : RegFile) (r : RegRow) (i hi lo : Nat) : f.fld r i hi lo < 2 ^ (hi + 1 - lo) :=
  Nat.mod_lt _ (Nat.two_pow_pos _)

theorem RegFile.TCK_NT_CFG_SRC_lt (f : RegFile) : f.TCK_NT_CFG_SRC < 4 := f.fld_lt Reg.TCK_NT_CFG 0 3 2

section
variable {s : State} (hcore : s.coreRuns = true)
include hcore

theorem exec_ntReferenceReceived (f : CanFrame) (sof : Nat) :
    exec (.ntReferenceReceived f sof) s = .next (s.refReceived f sof).flush := by
  show Host.Outcome.next (s.inCore _) = _
  rw [State.inCore_of _ _ hcore]

theorem exec_ntMasterPeriod : exec .ntMasterPeriod s = .next s.masterPeriod.flush := by
  show Host.Outcome.next (s.inCore _) = _
  rw [State.inCore_of _ _ hcore]

theorem exec_ntTimeout (hmode : s.regs.TCK_NT_CFG_MODE = 1) (hvalid : s.time.ntValid = true) :
    exec .ntTimeout s = .next s.ntLost.flush := by
  show Host.Outcome.next (s.inCore _) = _
  rw [State.inCore_of _ _ hcore, if_pos ⟨hmode, hvalid⟩]

end

section
variable {s : State} {f : CanFrame} (sof : Nat)

theorem State.refReceived_ignored (h : s.regs.TCK_NT_CFG_MODE = 0 ∨ isReference s.regs f = false) : s.refReceived f sof = s :=
  if_pos (by simpa using h)

theorem State.refReceived_slave (hmode : s.regs.TCK_NT_CFG_MODE = 1) (href : isReference s.regs f = true) :
    s.refReceived f sof = ({ s with time := (s.time.reference s.regs f sof).1 } : State).can s.regs.TCK_NT_CFG_SRC (fun c =>
      { c with refs := satInc 16 c.refs, happen := c.happen ++ (s.time.reference s.regs f sof).2 }) := by
  simp [State.refReceived, hmode, href]

theorem State.refReceived_master (hmode : s.regs.TCK_NT_CFG_MODE = 2) (href : isReference s.regs f = true) :
    s.refReceived f sof = ({ s with time := { s.time with lastRefDtc := sof + 1 } } : State).can s.regs.TCK_NT_CFG_SRC (fun c =>
      { c with refs := satInc 16 c.refs, happen := c.happen ++ [(0x0107, p1 s.regs.TCK_NT_CFG_SRC ++ p8 sof)] }) := by
  simp [State.refReceived, hmode, href]

end

/-- The first reference message is only remembered: it has no message before it to anchor (R55, R56). -/
theorem Time.reference_first (rf : RegFile) (f : CanFrame) (sof : Nat) (t : Time) (h : t.lastRefDtc = 0) :
    (t.reference rf f sof).1 = { t with lastRefDtc := sof + 1, refAge := 0 } := by
  simp [Time.reference, h]

/-- A later one anchors network time at the start of the message before it (R56 to R58). -/
theorem Time.reference_later (rf : RegFile) (f : CanFrame) (sof : Nat) (t : Time) (h : t.lastRefDtc ≠ 0) :
    (t.reference rf f sof).1 = { t with
      lastRefDtc := sof + 1, refAge := 0, anchorNt := ofLe (f.data.take 4), anchorDtc := t.lastRefDtc - 1
      rate := (t.reference rf f sof).1.rate, anchors := min (t.anchors + 1) 2, ntValid := t.ntValid || decide (1 ≤ t.anchors) } := by
  simp [Time.reference, h]

/-- What a reference message always does to the time: it becomes the one before the next, and its age starts (R55, R58). -/
theorem Time.reference_remembers (rf : RegFile) (f : CanFrame) (sof : Nat) (t : Time) :
    (t.reference rf f sof).1.lastRefDtc = sof + 1 ∧ (t.reference rf f sof).1.refAge = 0 ∧ (t.reference rf f sof).1.tick = t.tick := by
  by_cases h : t.lastRefDtc = 0
  · simp [Time.reference_first rf f sof t h]
  · rw [Time.reference_later rf f sof t h]
    exact ⟨rfl, rfl, rfl⟩

/-- Network time in master mode asks a NORMAL source controller for object 127 (R330). -/
theorem State.masterPeriod_normal {s : State} (hmode : s.regs.TCK_NT_CFG_MODE = 2)
    (hnormal : (s.cans.nth s.regs.TCK_NT_CFG_SRC).mode = 1) :
    s.masterPeriod = ({ s with time := { s.time with masterAge := 0 } } : State).can s.regs.TCK_NT_CFG_SRC (fun c => { c with
      txreq := setBit c.txreq 127 true, missed := if c.txreq.testBit 127 then satInc 16 c.missed else c.missed }) := by
  rw [State.masterPeriod, if_neg (by simp [hmode])]
  exact congrArg (fun v => ({ s with time := { s.time with masterAge := 0 }, cans := v } : State))
    (Vector.upd_congr _ _ _ _ (if_neg (by simp [hnormal])))

theorem State.ntLost_of_valid {s : State} (hvalid : s.time.ntValid = true) :
    s.ntLost = ({ s with time := { s.time with ntValid := false } } : State).says [(0x0105, p1 s.regs.TCK_NT_CFG_SRC)] := by
  simp [State.ntLost, Time.ntTimeout, hvalid]

/-- A reference message in slave mode (R55 to R58). -/
theorem ntReferenceReceived_slave {s : State} (hcore : s.coreRuns = true) (f : CanFrame) (sof : Nat)
    (hmode : s.regs.TCK_NT_CFG_MODE = 1) (href : isReference s.regs f = true) :
    ∃ t, exec (.ntReferenceReceived f sof) s = .next t ∧ ({ s with time := t.time, cans := t.cans } : State).Posted t ∧
      (∀ k, k ≠ s.regs.TCK_NT_CFG_SRC → t.cans.nth k = s.cans.nth k) ∧
      (t.cans.nth s.regs.TCK_NT_CFG_SRC).refs = satInc 16 (s.cans.nth s.regs.TCK_NT_CFG_SRC).refs ∧
      t.time = (s.time.reference s.regs f sof).1 := by
  refine ⟨_, exec_ntReferenceReceived hcore f sof, ?_, fun k hk => ?_, ?_, ?_⟩
  all_goals rw [State.refReceived_slave sof hmode href]
  · rw [State.flush_time, State.flush_cans]
    exact State.flush_posted (State.can _ _ _)
  · rw [State.flush_cans]
    exact Vector.nth_upd_ne _ _ _ _ hk
  · rw [State.flush_cans]
    exact congrArg CanCtl.refs (Vector.nth_upd_same _ _ _ s.regs.TCK_NT_CFG_SRC_lt)
  · rw [State.flush_time]
    rfl

/-- Settles O47: each row by what it does in its mode. -/
theorem networkTime : Obligations.NetworkTime := by
  intro s hcore
  refine ⟨fun f sof hmode href => ?_, fun f sof hmode href => ?_, fun f sof h => ?_, fun hmode hnormal => ?_, fun hmode hvalid => ?_⟩
  · obtain ⟨t, hexec, hposted, hother, hrefs, htime⟩ := ntReferenceReceived_slave hcore f sof hmode href
    obtain ⟨hlast, hage, htick⟩ := Time.reference_remembers s.regs f sof s.time
    refine ⟨t, hexec, hposted, hother, hrefs, htime ▸ hlast, htime ▸ hage, htime ▸ htick, fun hfirst => ?_, fun hlater => ?_⟩
    · rw [htime, Time.reference_first _ _ _ _ hfirst]
      exact ⟨rfl, rfl, rfl⟩
    · rw [htime, Time.reference_later _ _ _ _ hlater]
      exact ⟨rfl, rfl, rfl, by simp⟩
  · rw [exec_ntReferenceReceived hcore, State.refReceived_master sof hmode href]
    rfl
  · rw [exec_ntReferenceReceived hcore, State.refReceived_ignored sof h]
  · rw [exec_ntMasterPeriod hcore, State.masterPeriod_normal hmode hnormal]
    rfl
  · rw [exec_ntTimeout hcore hmode hvalid, State.ntLost_of_valid hvalid]

end Sys2Proof.Machine
end

section
/-! The state before the first reset release (O57). -/

namespace Sys2Proof.Machine

/-- A memory without a listed word stands in canonical form. -/
theorem State.reset_memCanonical : State.reset.memCanonical := ⟨by decide, by decide⟩

/-- Both ports come up without their link. -/
theorem State.reset_portLive (port : Nat) : State.reset.portLive port = false := by
  by_cases h : port < 2
  · have hlink : (State.reset.hif.ports.nth port).linkUp = false := congrArg Port.linkUp (Vector.nth_replicate _ port h)
    simp only [State.portLive, hlink, Bool.and_false, Bool.false_and]
  · simp only [State.portLive, h, decide_false, Bool.false_and]

/-- Settles O57: each part as the reset state writes it out. -/
theorem resetState : Obligations.ResetState :=
  ⟨rfl, rfl, rfl, rfl, rfl, State.reset_portLive, fun p hp => congrArg SeqPortal.st (Vector.nth_replicate _ p hp),
    fun b hb => congrArg BridgeDie.armed (Vector.nth_replicate _ b hb), rfl, State.reset_memCanonical⟩

end Sys2Proof.Machine
end

section
/-! Feedback faults asked to be cleared (O34). -/

namespace Sys2Proof.Machine

theorem exec_clrHall {s : State} {leaf : Nat} (hleaf : leaf < 16) (hup : s.up = true) :
    exec (.clrHall leaf) s = .next (s.clrHallFault leaf).flush := by
  show onObject 16 leaf _ = _
  rw [onObject_of_lt _ _ _ hleaf, State.whenUp_of _ _ hup]

theorem exec_clrEnc {s : State} {port : Nat} (hport : port < 8) (hup : s.up = true) :
    exec (.clrEnc port) s = .next (s.clrEncFault port).flush := by
  show onObject 8 port _ = _
  rw [onObject_of_lt _ _ _ hport, State.whenUp_of _ _ hup]

theorem State.clearRef_ref {p : Nat} (hp : p < 8) (s : State) : ((s.clearRef p).seq.portals.nth p).ref = false :=
  congrArg SeqPortal.ref (Vector.nth_upd_same s.seq.portals p _ hp)

theorem State.clearRef_portals_ne {p k : Nat} (h : k ≠ p) (s : State) :
    (s.clearRef p).seq.portals.nth k = s.seq.portals.nth k := Vector.nth_upd_ne _ _ _ _ h

/-- The run count of an encoder port against its Halls starts again. -/
def EncFbk.restartHallRun (e : EncFbk) : EncFbk := { e with hallRun := 0 }

/-- What a granted clear of a Hall fault changes (R250). -/
def State.hallCleared (leaf : Nat) (s : State) : State :=
  { (s.leaf leaf (fun x => { x with fbk := x.fbk.clearFault })).clearRef (leaf / 2) with
    encs := match servingPort s.regs leaf with
      | some e => s.encs.upd e EncFbk.restartHallRun
      | none => s.encs }

theorem State.clrHallFault_refused {s : State} {leaf : Nat} (h : (s.seq.portals.nth (leaf / 2)).st.clearsFbk = false) :
    s.clrHallFault leaf = s.says [(0x0807, p1 leaf ++ p1 1)] := by
  simp [State.clrHallFault, h, b2n]

theorem State.clrHallFault_granted {s : State} {leaf : Nat} (h : (s.seq.portals.nth (leaf / 2)).st.clearsFbk = true)
    (hcode : (s.leaves.nth leaf).fbk.invalid = false) (hcause : (s.leaves.nth leaf).fbk.causeAt ≠ s.time.tick + 1) :
    s.clrHallFault leaf = (s.hallCleared leaf).says [(0x0807, p1 leaf ++ p1 0)] := by
  have hregs : ((s.leaf leaf (fun x => { x with fbk := x.fbk.clearFault })).clearRef (leaf / 2)).regs = s.regs := rfl
  simp only [State.clrHallFault, State.hallCleared, h, hcode, hcause, hregs, decide_false, Bool.false_and, Bool.or_false,
    Bool.not_false, Bool.and_true, if_true]
  cases servingPort s.regs leaf <;> rfl

/-- What a granted clear of an encoder fault changes (R85, R250). -/
def State.encCleared (port : Nat) (s : State) : State :=
  ({ s with encs := s.encs.upd port EncFbk.clearFault } : State).clearRef (s.regs.FBK_E_CFG_LEAF port / 2)

theorem State.clrEncFault_refused {s : State} {port : Nat} (hleaf : s.regs.FBK_E_CFG_LEAF port < 16)
    (h : (s.seq.portals.nth (s.regs.FBK_E_CFG_LEAF port / 2)).st.clearsFbk = false) :
    s.clrEncFault port = s.says [(0x0807, p1 port ++ p1 1)] := by
  simp [State.clrEncFault, h, b2n, Nat.not_le.mpr hleaf]

theorem State.clrEncFault_granted {s : State} {port : Nat} (hleaf : s.regs.FBK_E_CFG_LEAF port < 16)
    (h : (s.seq.portals.nth (s.regs.FBK_E_CFG_LEAF port / 2)).st.clearsFbk = true)
    (hcause : (s.encs.nth port).causeAt ≠ s.time.tick + 1) :
    s.clrEncFault port = (s.encCleared port).says [(0x0807, p1 port ++ p1 0)] := by
  simp [State.clrEncFault, State.encCleared, h, hcause, hleaf, b2n, Nat.not_le.mpr hleaf]

/-- Settles O34: each request by its refused and its granted form. -/
theorem feedbackClears : Obligations.FeedbackClears := by
  intro s hup
  refine ⟨fun leaf hleaf h => ?_, fun leaf hleaf h hcode hcause => ?_, fun port hport hleaf h => ?_,
    fun port hport hleaf h hcause => ?_⟩
  · rw [exec_clrHall hleaf hup, State.clrHallFault_refused h]
  · refine ⟨s.hallCleared leaf, ?_, rfl, ?_, State.clearRef_ref (by omega) _, fun k hk => Vector.nth_upd_ne _ _ _ _ hk,
      fun p hp => State.clearRef_portals_ne hp _⟩
    · rw [exec_clrHall hleaf hup, State.clrHallFault_granted h hcode hcause]
    · exact congrArg Leaf.fbk (Vector.nth_upd_same s.leaves leaf _ hleaf)
  · rw [exec_clrEnc hport hup, State.clrEncFault_refused hleaf h]
  · refine ⟨s.encCleared port, ?_, rfl, ?_, State.clearRef_ref (by omega) _, fun k hk => Vector.nth_upd_ne _ _ _ _ hk⟩
    · rw [exec_clrEnc hport hup, State.clrEncFault_granted hleaf h hcause]
    · exact congrArg EncFbk.cause (Vector.nth_upd_same s.encs port _ hport)

end Sys2Proof.Machine
end
section
/-! The transitions of one portal: what each leaves of the portal and which events it raises (R73, R79). -/

namespace Sys2Proof.Machine

@[simp] theorem State.seqCtx_rf (ovrNew : Bool) (s : State) : (s.seqCtx ovrNew).rf = s.regs := rfl
@[simp] theorem State.seqCtx_obsClear (ovrNew : Bool) (s : State) (p : Nat) : (s.seqCtx ovrNew).obsClear p = s.obsClear p := rfl
@[simp] theorem State.seqCtx_safeHold (ovrNew : Bool) (s : State) (p : Nat) : (s.seqCtx ovrNew).safeHold p = s.portalSafe p := rfl

@[simp] theorem PSt.mod_x (f : SeqPortal → SeqPortal) (a : PSt) : (a.mod f).x = f a.x := rfl
@[simp] theorem PSt.mod_evs (f : SeqPortal → SeqPortal) (a : PSt) : (a.mod f).evs = a.evs := rfl
@[simp] theorem PSt.say_evs (code : Nat) (body : List Byte) (a : PSt) : (a.say code body).evs = a.evs ++ [ev code body] := rfl

/-- The portal on entering a state (R73, R83): its timers stop, and its warning and the engagement of its lock end. -/
def SeqPortal.entered (st : PState) (rank : Nat) (x : SeqPortal) : SeqPortal :=
  { x with st := st, timer := 0, left := 0, tLock := 0, tReclose := 0, tObs := 0, warning := false, warnSoft := false,
           engaged := false, moved := if rank < 12 then 1 else 2 }

theorem PSt.enter_evs_of_ne {p rank : Nat} {st : PState} {a : PSt} (h : st ≠ a.x.st) :
    (a.enter p st rank).evs = a.evs ++ [ev 0x0201 (p1 p ++ p1 a.x.st.code ++ p1 st.code ++ p1 rank)] := by
  simp [PSt.enter, h]

/-- y is x but for its step: the sub-state, its timer, the order to it and the stow kept for later (R79, R81). -/
def SeqPortal.StepOnly (x y : SeqPortal) : Prop :=
  y = { x with step := y.step, tStep := y.tStep, stepOrder := y.stepOrder, stowAgain := y.stowAgain }

theorem SeqPortal.StepOnly.refl (x : SeqPortal) : x.StepOnly x := rfl

/-- A stroke that orders its step only in one step mode. -/
theorem SeqPortal.StepOnly.ite {b : PSt} {f : PSt → PSt} (h : b.x.StepOnly (f b).x) (q : Prop) [Decidable q] :
    b.x.StepOnly (if q then f b else b).x := by
  split
  · exact h
  · exact .refl _

@[simp] theorem PSt.stepTo_x (p : Nat) (st : SState) (a : PSt) : (a.stepTo p st).x = { a.x with step := st } := by
  unfold PSt.stepTo
  split
  · next h => rw [h]
  · rfl

theorem PSt.deploy_stepOnly (c : SeqCtx) (p : Nat) (a : PSt) : a.x.StepOnly (a.deploy c p).x := by
  unfold PSt.deploy
  split
  · exact .refl _
  · split <;> simp [SeqPortal.StepOnly]

theorem PSt.stow_stepOnly (c : SeqCtx) (p : Nat) (a : PSt) : a.x.StepOnly (a.stow c p).x := by
  unfold PSt.stow
  split
  · exact .refl _
  · split
    case h_4 => split <;> simp [SeqPortal.StepOnly]
    all_goals simp [SeqPortal.StepOnly]

theorem PSt.toFault_evs_of_ne {p cause rank : Nat} {a : PSt} (h : a.x.st ≠ .fault) :
    (a.toFault p cause rank).evs =
      a.evs ++ [ev 0x0201 (p1 p ++ p1 a.x.st.code ++ p1 10 ++ p1 rank), ev 0x0203 (p1 p ++ p1 cause)] := by
  simp [PSt.toFault, PSt.enter_evs_of_ne h.symm, PState.code]

/-- A portal in CLOSING (R73, R480). -/
def SeqPortal.closingStroke (c : SeqCtx) (p rank : Nat) (x : SeqPortal) : SeqPortal :=
  { (x.entered .closing rank).start 5 (c.tClose p) with
    lockOn := false, relOn := true, holdPending := false, engaged := x.lockA || x.lockB
    leafOrder := if x.ref = false then .refclose else if x.st = .obstructed then .reclose else .close }

theorem PSt.toClosing_stepOnly (c : SeqCtx) (p rank : Nat) (a : PSt) :
    (a.x.closingStroke c p rank).StepOnly (a.toClosing c p rank).x :=
  SeqPortal.StepOnly.ite (b := ⟨a.x.closingStroke c p rank, (a.enter p .closing rank).evs⟩) (PSt.stow_stepOnly c p _) _

end Sys2Proof.Machine
end

section
/-! The timers of a portal when they expire (O35). -/

namespace Sys2Proof.Machine

/-- A row that changes one portal, where the stages of a tick run: what holds of the portal it leaves and of its events. -/
theorem State.portalGoes_row {s : State} {p : Nat} {f : SeqCtx → PSt → PSt} {goal : SeqPortal → List Post → Prop} (hp : p < 8)
    (hstarted : s.started = true)
    (h : goal (f (s.seqCtx false) ⟨s.seq.portals.nth p, []⟩).x (f (s.seqCtx false) ⟨s.seq.portals.nth p, []⟩).evs) :
    s.PortalGoes (onObject 8 p (s.inStage (State.portalRow p f))) p goal := by
  rw [onObject_of_lt _ _ _ hp, State.inStage_of _ _ hstarted]
  refine ⟨_, _, rfl, rfl, fun k hk => Vector.nth_put_ne _ _ _ _ hk, ?_⟩
  show goal ((s.seq.portals.put p _).nth p) _
  rwa [Vector.nth_put_same _ _ _ hp]

theorem PSt.strokeTimeout_evs_of_ne {p cause : Nat} {a : PSt} (h : a.x.st ≠ .fault) :
    (a.strokeTimeout p cause).evs =
      a.evs ++ [ev 0x0201 (p1 p ++ p1 a.x.st.code ++ p1 10 ++ p1 10), ev 0x0203 (p1 p ++ p1 cause)] :=
  PSt.toFault_evs_of_ne (a := a.mod _) h

theorem PSt.unlockExpired_of {p : Nat} {a : PSt} (h : a.x.st = .unlocking) : a.unlockExpired p = a.strokeTimeout p 1 := if_pos h

theorem PSt.openExpired_of {p : Nat} {a : PSt} (h : a.x.st = .opening ∨ a.x.st = .reopening) :
    a.openExpired p = a.strokeTimeout p 2 := if_pos h

theorem PSt.closeExpired_of {p : Nat} {a : PSt} (h : a.x.st = .closing) : a.closeExpired p = a.strokeTimeout p 3 := if_pos h

theorem PSt.lockExpired_x {c : SeqCtx} {p : Nat} {a : PSt} (hst : a.x.st = .closing) (hend : c.atClosed p = true)
    (hlocked : a.x.locked = false) : (a.lockExpired c p).x = (a.strokeTimeout p
      (if (c.lockA p = .locked ∧ c.lockB p = .unlocked) ∨ (c.lockA p = .unlocked ∧ c.lockB p = .locked) then 5 else 4)).x :=
  congrArg PSt.x (if_pos ⟨hst, hend, hlocked⟩)

theorem PSt.dwellExpired_of {c : SeqCtx} {p : Nat} {a : PSt} (hst : a.x.st = .opened) (hwarning : a.x.warning = false) :
    a.dwellExpired c p = ⟨{ a.x with
      warning := true, warnSoft := true, timer := 4, left := timerTicks (c.rf.SEQ_P_TIMER2_T_WARN p), moved := 1 }, a.evs⟩ := by
  simp [PSt.dwellExpired, PSt.warn, PSt.took, PSt.mod, SeqPortal.start, hst, hwarning]

theorem PSt.warnExpired_of {c : SeqCtx} {p : Nat} {a : PSt} (hst : a.x.st = .opened) (hwarning : a.x.warning = true) :
    a.warnExpired c p = a.toClosing c p 10 := if_pos ⟨hst, hwarning⟩

theorem PSt.recloseExpired_of {c : SeqCtx} {p : Nat} {permit : Permit} {a : PSt} (hst : a.x.st = .obstructed)
    (hdir : a.x.dir = 0) (hreact : c.reacting p = false) (hmax : a.x.attempt < c.rf.SEQ_P_CFG_RECLOSE_MAX p) :
    a.recloseExpired c p permit = (a.toClosing c p 10).mod fun x => { x with attempt := x.attempt + 1 } := by
  simp [PSt.recloseExpired, hst, hdir, hreact, hmax]

theorem PSt.obsClearExpired_of {c : SeqCtx} {p : Nat} {a : PSt} (hst : a.x.st = .obstructed) (hreact : c.reacting p = false)
    (hclear : c.obsClear p = false) : a.obsClearExpired c p = a.toHeld p 10 :=
  if_pos ⟨hst, by simp [hreact], by simp [hclear]⟩

theorem PSt.stepExpired_of {a : PSt} (h : a.x.step = .deploying ∨ a.x.step = .stowing) :
    a.stepExpired = a.mod fun x => { x with latched := x.latched ||| 512 } := if_pos h

/-- Settles O35: each timer's row changes its portal alone, by the transition that its expiry starts. -/
theorem portalTimers : Obligations.PortalTimers := by
  intro s p hp hstarted
  refine ⟨fun hst => ?unlock, fun hst => ?openStroke, fun hst => ?closeStroke, fun hst hend hlocked => ?lock,
    fun hst hwarn => ?dwell, fun hst hwarn => ?warn, fun hst hdir hreact hclear hmax => ?reclose,
    fun hst hreact hclear => ?obsClear, fun hstep => ?step⟩
  all_goals refine State.portalGoes_row hp hstarted ?_
  case unlock =>
    rw [PSt.unlockExpired_of hst, PSt.strokeTimeout_evs_of_ne (by simp [hst])]
    exact ⟨rfl, rfl, rfl, rfl, rfl, by simp [ev, hst, PState.code]⟩
  case openStroke =>
    rw [PSt.openExpired_of hst]
    exact ⟨rfl, rfl, rfl, rfl, rfl⟩
  case closeStroke =>
    rw [PSt.closeExpired_of hst]
    exact ⟨rfl, rfl, rfl, rfl, rfl⟩
  case lock =>
    rw [PSt.lockExpired_x hst hend hlocked]
    refine ⟨rfl, rfl, rfl, fun h => if_pos (.inl h), fun h => if_neg ?_⟩
    rintro (⟨ha, hb⟩ | ⟨ha, hb⟩) <;> exact absurd (ha.symm.trans (h.trans hb)) (by decide)
  case dwell =>
    rw [PSt.dwellExpired_of hst hwarn]
    exact ⟨rfl, rfl⟩
  case warn =>
    rw [PSt.warnExpired_of hst hwarn, PSt.toClosing_stepOnly]
    exact ⟨rfl, rfl, rfl, rfl, rfl, rfl⟩
  case reclose =>
    rw [State.seqCtx_obsClear, if_pos hclear, PSt.recloseExpired_of hst hdir hreact hmax, PSt.mod_x, PSt.toClosing_stepOnly]
    exact ⟨rfl, rfl, rfl, rfl⟩
  case obsClear =>
    rw [PSt.obsClearExpired_of hst hreact hclear]
    exact ⟨rfl, rfl, rfl⟩
  case step =>
    rw [PSt.stepExpired_of hstep]
    exact ⟨rfl, rfl⟩

end Sys2Proof.Machine
end

section
/-! Pending OPENs and the time of a departure close (O37). -/

/-- A change of an entry keeps what it keeps of the entry, wherever it falls. -/
theorem Vector.nth_upd_keeps {α β : Type} [Inhabited α] {n : Nat} (v : Vector α n) (i j : Nat) (f : α → α) (g : α → β)
    (h : ∀ x, g (f x) = g x) : g ((v.upd i f).nth j) = g (v.nth j) := by
  by_cases e : j = i
  · subst e
    by_cases hj : j < n
    · rw [Vector.nth_upd_same _ _ _ hj, h]
    · rw [Vector.nth_of_le _ _ (Nat.not_lt.mp hj), Vector.nth_of_le _ _ (Nat.not_lt.mp hj)]
  · rw [Vector.nth_upd_ne _ _ _ _ e]

namespace Sys2Proof.Machine

/-- What carrying out OPENs leaves alone: all but the portals and the suspension of banks in a departure close, and what has ended. -/
structure SeqOut.OpensOnly (o u : SeqOut) : Prop where
  seq : u.q = { o.q with portals := u.q.portals, banks := u.q.banks }
  fins : u.fins = o.fins
  depart : ∀ b, (u.q.banks.nth b).depart = (o.q.banks.nth b).depart
  bank : ∀ b, (o.q.banks.nth b).depart = false → u.q.banks.nth b = o.q.banks.nth b

theorem SeqOut.OpensOnly.refl (o : SeqOut) : o.OpensOnly o := ⟨rfl, rfl, fun _ => rfl, fun _ _ => rfl⟩

theorem SeqOut.OpensOnly.trans {o u w : SeqOut} (h : o.OpensOnly u) (k : u.OpensOnly w) : o.OpensOnly w where
  seq := by rw [k.seq, h.seq]
  fins := k.fins.trans h.fins
  depart b := (k.depart b).trans (h.depart b)
  bank b hb := (k.bank b ((h.depart b).trans hb)).trans (h.bank b hb)

/-- A suspension touches its bank alone, and only where a departure close runs in it (R97). -/
theorem SeqOut.suspend_opensOnly (k cause : Nat) (o : SeqOut) : o.OpensOnly (o.suspend k cause) := by
  unfold SeqOut.suspend
  dsimp only
  split
  · next h =>
    refine ⟨rfl, rfl, fun b => Vector.nth_upd_keeps _ _ _ _ SeqBank.depart fun _ => rfl, fun b hb => Vector.nth_upd_ne _ _ _ _ ?_⟩
    rintro rfl
    rw [hb] at h
    exact absurd h.1 (by decide)
  · exact .refl o

theorem SeqOut.portal_opensOnly (p : Nat) (f : PSt → PSt) (o : SeqOut) : o.OpensOnly (o.portal p f) :=
  ⟨rfl, rfl, fun _ => rfl, fun _ _ => rfl⟩

@[simp] theorem SeqOut.suspend_portals (k cause : Nat) (o : SeqOut) : (o.suspend k cause).q.portals = o.q.portals := by
  unfold SeqOut.suspend
  dsimp only
  split <;> rfl

theorem SeqOut.portal_portals_nth {p : Nat} (hp : p < 8) (f : PSt → PSt) (o : SeqOut) (k : Nat) :
    (o.portal p f).q.portals.nth k = if k = p then (f ⟨o.q.portals.nth p, []⟩).x else o.q.portals.nth k := by
  split
  · next h => rw [h]; exact Vector.nth_put_same _ _ _ hp
  · next h => exact Vector.nth_put_ne _ _ _ _ h

/-- A taken OPEN on the portals it waits on, in their order (R93, R97). -/
def SeqOut.openEach (c : SeqCtx) (l : List Nat) (o : SeqOut) : SeqOut :=
  l.foldl (fun o p => (o.suspend (bankOf c.rf p) 3).portal p (PSt.obey c p 1)) o

theorem SeqOut.openEach_opensOnly (c : SeqCtx) (l : List Nat) (o : SeqOut) : o.OpensOnly (o.openEach c l) :=
  foldl_keeps SeqOut.OpensOnly .refl .trans _ (fun o p => (o.suspend_opensOnly _ 3).trans (SeqOut.portal_opensOnly p _ _)) l o

/-- Each portal obeys the OPEN once, whatever comes before and after it. -/
theorem SeqOut.openEach_portals_nth (c : SeqCtx) {l : List Nat} (hdup : l.Nodup) (hlt : ∀ p ∈ l, p < 8) (o : SeqOut) (k : Nat) :
    (o.openEach c l).q.portals.nth k = if k ∈ l then (PSt.obey c k 1 ⟨o.q.portals.nth k, []⟩).x else o.q.portals.nth k := by
  induction l generalizing o with
  | nil => rfl
  | cons p l ih =>
    obtain ⟨hp, hdup⟩ := List.nodup_cons.mp hdup
    have hstep := SeqOut.portal_portals_nth (hlt p List.mem_cons_self) (PSt.obey c p 1) (o.suspend (bankOf c.rf p) 3)
    rw [show o.openEach c (p :: l) = ((o.suspend (bankOf c.rf p) 3).portal p (PSt.obey c p 1)).openEach c l from rfl,
      ih hdup fun q hq => hlt q (List.mem_cons_of_mem p hq), hstep k, SeqOut.suspend_portals]
    by_cases hk : k = p
    · subst hk
      simp [hp]
    · simp [hk]

theorem mem_members {mask k : Nat} : k ∈ members mask ↔ k < 8 ∧ mask.testBit k = true := by
  simp [members, indices]

theorem members_nodup (mask : Nat) : (members mask).Nodup := List.nodup_range.filter _

theorem SeqOut.endPend_of_host {d : Pend} (h : d.psd = false) (status done : Nat) (o : SeqOut) :
    o.endPend d status done = { o with
      q := { o.q with pends := o.q.pends.erase d }
      fins := o.fins ++ [⟨d.job, status, seqResult d.mask d.isolated d.refused done⟩] } := by
  simp [SeqOut.endPend, SeqOut.answered, h]

theorem SeqOut.refusePend_of_host {d : Pend} (h : d.psd = false) (o : SeqOut) :
    o.refusePend d = { o with
      q := { o.q with pends := o.q.pends.erase d }
      fins := o.fins ++ [⟨d.job, 2, seqResult d.mask d.isolated (d.refused ||| d.mask) d.done⟩] } := by
  simp [SeqOut.refusePend, SeqOut.answered, h]

/-- Some portal that a pending OPEN waits on is in a bank with a departure close. -/
theorem SeqOut.departs_iff (c : SeqCtx) (d : Pend) (o : SeqOut) :
    ((members d.mask).any fun p => (o.q.banks.nth (bankOf c.rf p)).depart) = true ↔
      ∃ k, k < 8 ∧ d.mask.testBit k = true ∧ (o.q.banks.nth (bankOf c.rf k)).depart = true := by
  simp [mem_members, and_assoc]

theorem SeqOut.pendTake_opens {c : SeqCtx} {d : Pend} {o : SeqOut}
    (h : d.safety = true ∨ ∀ k, k < 8 → d.mask.testBit k = true → (o.q.banks.nth (bankOf c.rf k)).depart = false) :
    o.pendTake c d = (o.openEach c (members d.mask)).endPend d 0 (d.done ||| d.mask) := by
  refine if_neg ?_
  rintro ⟨hdepart, hsafety⟩
  obtain ⟨k, hk, hbit, hk'⟩ := (o.departs_iff c d).mp hdepart
  simp [h.resolve_left hsafety k hk hbit] at hk'

theorem SeqOut.pendTake_refused {c : SeqCtx} {d : Pend} {o : SeqOut} (hsafety : d.safety = false)
    (h : ∃ k, k < 8 ∧ d.mask.testBit k = true ∧ (o.q.banks.nth (bankOf c.rf k)).depart = true) :
    o.pendTake c d = o.refusePend d := if_pos ⟨(o.departs_iff c d).mpr h, by simp [hsafety]⟩

/-- A portal on which a pending OPEN waits stands closed and locked, or held (R93). -/
theorem SeqOut.waits_of_not_pendLost {c : SeqCtx} {d : Pend} {o : SeqOut} (h : o.pendLost c d = false) {k : Nat} (hk : k < 8)
    (hbit : d.mask.testBit k = true) : (o.q.portals.nth k).st = .closedLocked ∨ (o.q.portals.nth k).st = .held := by
  simp only [SeqOut.pendLost, Bool.or_eq_false_iff, List.any_eq_false] at h
  have hk := h.2 k (mem_members.mpr ⟨hk, hbit⟩)
  simp only [Bool.or_eq_true, not_or, Bool.not_eq_true', Bool.not_eq_false, decide_eq_true_eq] at hk
  exact hk.2

/-- A portal in UNLOCKING (R73). -/
def SeqPortal.unlockingStroke (c : SeqCtx) (p rank : Nat) (x : SeqPortal) : SeqPortal :=
  { (x.entered .unlocking rank).start 1 (c.tUnlock p) with lockOn := true, relOn := true, pulse := 0 }

theorem PSt.toUnlocking_stepOnly (c : SeqCtx) (p rank : Nat) (a : PSt) :
    (a.x.unlockingStroke c p rank).StepOnly (a.toUnlocking c p rank).x :=
  SeqPortal.StepOnly.ite (b := ⟨a.x.unlockingStroke c p rank, (a.enter p .unlocking rank).evs⟩) (PSt.deploy_stepOnly c p _) _

/-- A portal in REOPENING (R73). -/
def SeqPortal.reopeningStroke (c : SeqCtx) (p rank : Nat) (hold : Bool) (x : SeqPortal) : SeqPortal :=
  { (x.entered .reopening rank).start 2 (c.tOpen p) with
    lockOn := true, relOn := true, pulse := 0, leafOrder := .reopen, holdPending := hold }

theorem PSt.toReopening_stepOnly (c : SeqCtx) (p rank : Nat) (hold : Bool) (a : PSt) :
    (a.x.reopeningStroke c p rank hold).StepOnly (a.toReopening c p rank hold).x :=
  PSt.deploy_stepOnly c p ⟨a.x.reopeningStroke c p rank hold, (a.enter p .reopening rank).evs⟩

theorem PSt.obey_open_of_closedLocked {c : SeqCtx} {p : Nat} {a : PSt} (h : a.x.st = .closedLocked) :
    a.obey c p 1 = a.toUnlocking c p 12 := by
  simp [PSt.obey, h]

theorem PSt.obey_open_of_held {c : SeqCtx} {p : Nat} {a : PSt} (h : a.x.st = .held) :
    a.obey c p 1 = a.toReopening c p 12 false := by
  simp [PSt.obey, h]

/-- An OPEN of a portal that stands closed and locked, or held: lock and release on, the opening stroke begins (R73). -/
theorem PSt.obey_open_of_standing {c : SeqCtx} {p : Nat} {a : PSt} (h : a.x.st = .closedLocked ∨ a.x.st = .held) :
    (a.obey c p 1).x.lockOn = true ∧ (a.obey c p 1).x.relOn = true ∧
    (a.x.st = .closedLocked → (a.obey c p 1).x.st = .unlocking) ∧ (a.x.st = .held → (a.obey c p 1).x.st = .reopening) := by
  rcases h with h | h
  · rw [PSt.obey_open_of_closedLocked h, PSt.toUnlocking_stepOnly]
    exact ⟨rfl, rfl, fun _ => rfl, fun hheld => absurd (h.symm.trans hheld) (by decide)⟩
  · rw [PSt.obey_open_of_held h, PSt.toReopening_stepOnly]
    exact ⟨rfl, rfl, fun hclosed => absurd (h.symm.trans hclosed) (by decide), fun _ => rfl⟩

theorem State.seqOut_of_fins {o : SeqOut} {f : Finish} (h : o.fins = [f]) (s : State) :
    s.seqOut o = (({ s with seq := o.q } : State).posts o.posts).finish f := by
  rw [State.seqOut, h]
  rfl

section
variable {s : State} {p : Nat} {d : Pend} (hp : p < 8) (hstarted : s.started = true)
  (hslot : s.seq.pends.filter (fun d => d.mask.testBit p) = [d])
include hp hstarted hslot

theorem exec_pendingOpenTaken (hlost : (⟨s.seq, [], []⟩ : SeqOut).pendLost (s.seqCtx false) d = false)
    (hpermit : d.permitted (s.seqCtx false) = true) :
    exec (.pendingOpenTaken p) s = .next (s.seqOut ((⟨s.seq, [], []⟩ : SeqOut).pendTake (s.seqCtx false) d)).flush := by
  show onObject 8 p _ = _
  rw [onObject_of_lt _ _ _ hp, State.inStage_of _ _ hstarted, State.pendRow, hslot]
  simp [hlost, hpermit]

theorem exec_pendDeadline :
    exec (.pendDeadline p) s = .next (s.seqOut ((⟨s.seq, [], []⟩ : SeqOut).endPend d 4 d.done)).flush := by
  show onObject 8 p _ = _
  rw [onObject_of_lt _ _ _ hp, State.inStage_of _ _ hstarted, State.pendRow, hslot]
  rfl

end

theorem exec_departMsExpired {s : State} {bank : Nat} (hbank : bank < 4) (hstarted : s.started = true) :
    exec (.departMsExpired bank) s = .next ({ s with seq := s.seq.bank bank SeqBank.departLate } : State).flush := by
  show onObject 4 bank _ = _
  rw [onObject_of_lt _ _ _ hbank, State.inStage_of _ _ hstarted]

/-- A pending OPEN of a host is carried out (R93): every portal it waits on begins to open, and it leaves its slot. -/
theorem SeqOut.pendTake_carriesOut {c : SeqCtx} {d : Pend} {o : SeqOut} (hhost : d.psd = false) (hlost : o.pendLost c d = false)
    (hfree : d.safety = true ∨ ∀ k, k < 8 → d.mask.testBit k = true → (o.q.banks.nth (bankOf c.rf k)).depart = false) :
    (o.pendTake c d).fins = o.fins ++ [⟨d.job, 0, seqResult d.mask d.isolated d.refused (d.done ||| d.mask)⟩] ∧
    (o.pendTake c d).q = { o.q with
      portals := (o.pendTake c d).q.portals, pends := o.q.pends.erase d, banks := (o.pendTake c d).q.banks } ∧
    (∀ b, ((o.pendTake c d).q.banks.nth b).depart = (o.q.banks.nth b).depart ∧
      ((o.q.banks.nth b).depart = false → (o.pendTake c d).q.banks.nth b = o.q.banks.nth b)) ∧
    ∀ k, k < 8 →
      (d.mask.testBit k = true →
        ((o.pendTake c d).q.portals.nth k).lockOn = true ∧ ((o.pendTake c d).q.portals.nth k).relOn = true ∧
        ((o.q.portals.nth k).st = .closedLocked → ((o.pendTake c d).q.portals.nth k).st = .unlocking) ∧
        ((o.q.portals.nth k).st = .held → ((o.pendTake c d).q.portals.nth k).st = .reopening)) ∧
      (d.mask.testBit k = false → (o.pendTake c d).q.portals.nth k = o.q.portals.nth k) := by
  have hopens := o.openEach_opensOnly c (members d.mask)
  have hnth := SeqOut.openEach_portals_nth c (members_nodup d.mask) (fun k hk => (mem_members.mp hk).1) o
  rw [SeqOut.pendTake_opens hfree, SeqOut.endPend_of_host hhost]
  refine ⟨by rw [hopens.fins], by rw [hopens.seq], fun b => ⟨hopens.depart b, hopens.bank b⟩,
    fun k hk => ⟨fun hbit => ?_, fun hbit => ?_⟩⟩
  · dsimp only
    rw [hnth k, if_pos (mem_members.mpr ⟨hk, hbit⟩)]
    exact PSt.obey_open_of_standing (SeqOut.waits_of_not_pendLost hlost hk hbit)
  · dsimp only
    rw [hnth k, if_neg fun hmem => by simp [mem_members, hbit] at hmem]

/-- Settles O37: a pending OPEN is taken by a fold over its portals, each of which obeys once; the other ends change no portal. -/
theorem pendingOpens : Obligations.PendingOpens := by
  refine ⟨fun s p d hp hstarted hhost _ hslot => ⟨fun hpermit hlost hfree => ?taken, fun hpermit hlost hsafety hdepart => ?refused,
    ?deadline⟩, fun s bank hbank hstarted hdepart hsusp => ?late⟩
  case taken =>
    obtain ⟨hfins, hq, hbanks, hportals⟩ := SeqOut.pendTake_carriesOut (c := s.seqCtx false) hhost hlost hfree
    refine ⟨_, ((⟨s.seq, [], []⟩ : SeqOut).pendTake (s.seqCtx false) d).posts, ?_, hq, fun b _ => hbanks b, hportals⟩
    rw [exec_pendingOpenTaken hp hstarted hslot hlost hpermit, State.seqOut_of_fins hfins]
  case refused =>
    rw [exec_pendingOpenTaken hp hstarted hslot hlost hpermit,
      SeqOut.pendTake_refused (c := s.seqCtx false) (o := ⟨s.seq, [], []⟩) hsafety hdepart,
      SeqOut.refusePend_of_host hhost, State.seqOut_of_fins rfl]
    rfl
  case deadline =>
    rw [exec_pendDeadline hp hstarted hslot, SeqOut.endPend_of_host hhost, State.seqOut_of_fins rfl]
    rfl
  case late =>
    have hlate : SeqBank.departLate (s.seq.banks.nth bank) = { s.seq.banks.nth bank with late := true } :=
      if_pos ⟨hdepart, by simp [hsusp]⟩
    rw [exec_departMsExpired hbank hstarted, Seq.bank, Vector.upd_congr _ _ _ (fun b => { b with late := true }) hlate]

end Sys2Proof.Machine
end

section
/-! A SEQ command on a single portal, judged at once (R86 to R92). -/

namespace Sys2Proof.Machine

/-- A mask built over one bit has that bit or none. -/
theorem maskOf_two_pow (n p : Nat) (b : Nat → Bool) :
    maskOf n (fun k => (2 ^ p).testBit k && b k) = if p < n ∧ b p = true then 2 ^ p else 0 := by
  induction n with
  | zero => rfl
  | succ n ih =>
    rw [maskOf, List.range_succ, List.foldl_append, ← maskOf, ih, List.foldl_cons, List.foldl_nil, Nat.testBit_two_pow]
    by_cases h : p = n
    · subst h
      simp
    · have hlt : p < n + 1 ↔ p < n := by omega
      simp only [h, hlt, decide_false, Bool.false_and, Bool.false_eq_true, if_false]

theorem members_two_pow {p : Nat} (hp : p < 8) : members (2 ^ p) = [p] :=
  (by decide : ∀ k, k < 8 → members (2 ^ k) = [k]) p hp

theorem Seq.answering_two_pow {p : Nat} (hp : p < 8) (c : SeqCtx) (q : Seq) (r : SeqReq) (f : Answer → Bool) :
    q.answering c r (2 ^ p) f = if f (q.answer c r p) = true then 2 ^ p else 0 := by
  simp [Seq.answering, maskOf_two_pow, hp]

theorem seqTargets_portal {p : Nat} (hp : p < 8) (rf : RegFile) : seqTargets rf 2 p = some (2 ^ p) := if_pos ⟨rfl, hp⟩

theorem seqParamOk_zero (code level : Nat) : seqParamOk code level 0 = true := by
  simp [seqParamOk, andNot]

/-- A host command with no parameter on portal p alone. -/
structure SeqReq.OnPortal (r : SeqReq) (p : Nat) : Prop where
  isPortal : p < 8
  level : r.job.cmd.level = 2
  index : r.job.cmd.index = p
  param : r.job.cmd.param = 0
  code : 1 ≤ r.code ∧ r.code ≤ 9
  host : r.psd = false

section
variable {c : SeqCtx} {r : SeqReq} {p : Nat} {o : SeqOut} (hr : r.OnPortal p)
include hr

/-- The one portal refuses: REJECTED with the portal REFUSED (R90, R92). -/
theorem SeqOut.judge_refused (h : o.q.answer c r p = .refuse) (edge : Nat) :
    o.judge c r edge = { o with fins := o.fins ++ [⟨r.job, 2, 256 * 2 ^ p⟩] } := by
  obtain ⟨hp, hlevel, hindex, hparam, hcode, hhost⟩ := hr
  have hrange : ¬(r.code = 0 ∨ 9 < r.code) := by omega
  have hbit : 0 ≠ 2 ^ p := Nat.ne_of_lt (Nat.two_pow_pos p)
  simp [SeqOut.judge, hlevel, hindex, hparam, seqTargets_portal hp, seqParamOk_zero, Seq.answering_two_pow hp, h, hrange, hbit,
    SeqOut.answered, hhost, seqResult]

/-- The one portal takes the command: it is carried out, and ends OK with the portal DONE (R90, R92). -/
theorem SeqOut.judge_taken (h : o.q.answer c r p = .ok ∨ o.q.answer c r p = .change) (edge : Nat) :
    o.judge c r edge = { (o.carryOut c r (2 ^ p)).take (2 ^ p) with
      fins := ((o.carryOut c r (2 ^ p)).take (2 ^ p)).fins ++ [⟨r.job, 0, 2 ^ p⟩] } := by
  obtain ⟨hp, hlevel, hindex, hparam, hcode, hhost⟩ := hr
  have hrange : ¬(r.code = 0 ∨ 9 < r.code) := by omega
  have hbit : 0 ≠ 2 ^ p := Nat.ne_of_lt (Nat.two_pow_pos p)
  rcases h with h | h
  all_goals simp [SeqOut.judge, hlevel, hindex, hparam, seqTargets_portal hp, seqParamOk_zero, Seq.answering_two_pow hp, h, hrange, hbit,
    SeqOut.answered, hhost, seqResult]

/-- A service command moves its portal and does nothing beside (R90). -/
theorem SeqOut.carryOut_service (h : 6 ≤ r.code) : o.carryOut c r (2 ^ p) = o.portal p (PSt.obey c p r.code) := by
  have h1 : r.code ≠ 1 := by omega
  have h2 : r.code ≠ 2 := by omega
  have h3 : r.code ≠ 3 := by omega
  have h5 : r.code ≠ 5 := by omega
  simp [SeqOut.carryOut, members_two_pow hr.isPortal, h1, h2, h3, h5]

end

theorem SeqOut.take_two_pow {p : Nat} (hp : p < 8) (o : SeqOut) :
    o.take (2 ^ p) = { o with q := { o.q with portals := o.q.portals.upd p (fun x => { x with taken := true }) } } := by
  have hportals : o.q.portals.mapIdx (fun k x => { x with taken := x.taken || (2 ^ p).testBit k }) =
      o.q.portals.upd p (fun x => { x with taken := true }) := by
    ext k hk : 1
    by_cases h : p = k
    · subst h
      simp [Vector.upd, hp]
    · simp [Vector.upd, hp, Nat.testBit_two_pow, h]
  rw [SeqOut.take, hportals]

/-- The column of R90 answers that a portal is ISOLATED only where it is. -/
theorem answerBy_ne_isolated {st : PState} (h : st ≠ .isolated) (c : SeqCtx) (p : Nat) (permit : Permit) (code : Nat) (pendOn : Bool)
    (x : SeqPortal) : answerBy c p permit code pendOn st x ≠ .isolated := by
  unfold answerBy
  cases st
  case isolated => exact absurd rfl h
  all_goals dsimp only; repeat' split
  all_goals decide

theorem Seq.answer_unauthorised {c : SeqCtx} {q : Seq} {r : SeqReq} {p : Nat} (hst : (q.portals.nth p).st ≠ .isolated)
    (hauth : seqAuthorised c.rf r p = false) : q.answer c r p = .refuse := by
  simp [Seq.answer, answerBy_ne_isolated hst, hauth]

/-- A portal that nothing has moved in this tick, outside a departure close, answers a port with the right as R90 has it. -/
theorem Seq.answer_authorised {c : SeqCtx} {q : Seq} {r : SeqReq} {p : Nat} {a : Answer} (ha : a = .ok ∨ a = .change)
    (hauth : seqAuthorised c.rf r p = true) (hmoved : (q.portals.nth p).moved = 0)
    (hdepart : (q.banks.nth (bankOf c.rf p)).depart = false)
    (hby : answerBy c p (c.permit (bankOf c.rf p)) r.code (r.job.cmd.param.getLsbD 0) (q.portals.nth p).st (q.portals.nth p) = a) :
    q.answer c r p = a := by
  simp only [Seq.answer, hby]
  rcases ha with rfl | rfl
  all_goals simp [hauth, hmoved, hdepart]

end Sys2Proof.Machine
end

section
/-! The service commands, and a port without the right (O39). -/

namespace Sys2Proof.Machine

section
variable {c : SeqCtx} {p : Nat} {a : PSt}

theorem PSt.obey_isolate (h : a.x.st ≠ .isolated) : a.obey c p 6 = a.release p .isolated 12 := if_neg h

theorem PSt.obey_deisolate (h : a.x.st = .isolated) : a.obey c p 7 = a.toClosedOrHeld c p 12 := if_pos h

/-- The causes that stand until CLEAR_FAULT have ended (R75). -/
def SeqPortal.cleared (x : SeqPortal) : SeqPortal := { x with latched := 0, cause := 0 }

theorem PSt.obey_clearFault (h : a.x.clearable c p = true) :
    a.obey c p 8 = if a.x.st = .fault then (a.mod SeqPortal.cleared).toClosedOrHeld c p 12 else a.mod SeqPortal.cleared :=
  if_neg (by simp [h])

theorem PSt.obey_resetManual (h : a.x.st = .manual) : a.obey c p 9 = a.toClosedOrHeld c p 12 := if_pos h

/-- Where a portal that comes back to service goes (R73). -/
theorem PSt.toClosedOrHeld_st (c : SeqCtx) (p rank : Nat) (a : PSt) : (a.toClosedOrHeld c p rank).x.st =
    if c.atClosed p = true ∧ stowed c p a.x = true ∧ a.x.locked = true then .closedLocked else .held := by
  unfold PSt.toClosedOrHeld
  split <;> rfl

theorem PSt.toClosedOrHeld_latched (c : SeqCtx) (p rank : Nat) (a : PSt) : (a.toClosedOrHeld c p rank).x.latched = a.x.latched := by
  unfold PSt.toClosedOrHeld
  split <;> rfl

theorem PSt.toClosedOrHeld_cause (c : SeqCtx) (p rank : Nat) (a : PSt) : (a.toClosedOrHeld c p rank).x.cause = a.x.cause := by
  unfold PSt.toClosedOrHeld
  split <;> rfl

end

/-- A SEQ command from a ring as the sequencer judges it at once. -/
def State.seqReq (s : State) (code : Nat) (c : Cmd) : SeqReq :=
  ⟨⟨0, s.time.tick, c⟩, code, decide (ringClass s.regs c.port c.ring = 0), false⟩

section
variable {s : State} {c : Cmd} {p code : Nat}

theorem State.seqAuthorised_seqReq : seqAuthorised s.regs (s.seqReq code c) p = groupAuth s.regs c.port (bankOf s.regs p) (seqGroup code) :=
  rfl

/-- A state that judges a host command at once, the command on portal p alone, which nothing has moved in this tick (R71, R97). -/
structure State.JudgesAlone (s : State) (c : Cmd) (p : Nat) : Prop where
  port : c.port < 2
  ring : c.ring < 64
  isPortal : p < 8
  up : s.up = true
  level : c.level = 2
  index : c.index = p
  param : c.param = 0
  still : (s.seq.portals.nth p).moved = 0
  stays : (s.seq.banks.nth (bankOf s.regs p)).depart = false

variable (h : s.JudgesAlone c p)
include h

theorem State.JudgesAlone.onPortal (hcode : 1 ≤ code ∧ code ≤ 9) : (s.seqReq code c).OnPortal p :=
  ⟨h.isPortal, h.level, h.index, h.param, hcode, rfl⟩

theorem State.JudgesAlone.hostCmd_seqCmdNow : hostCmd (State.seqCmdNow code) c s =
    .next (s.seqOut ((⟨s.seq, [], []⟩ : SeqOut).judge (s.seqCtx false) (s.seqReq code c) 0)).flush :=
  hostCmd_of _ _ _ h.port h.ring h.up

/-- A port without the command's group is rejected, the portal REFUSED (R87, R92). -/
theorem State.JudgesAlone.answered (hcode : 1 ≤ code ∧ code ≤ 9) (hst : (s.seq.portals.nth p).st ≠ .isolated)
    (hauth : groupAuth s.regs c.port (bankOf s.regs p) (seqGroup code) = false) :
    s.Answered (hostCmd (State.seqCmdNow code) c s) c 2 (256 * 2 ^ p) := by
  have hanswer : s.seq.answer (s.seqCtx false) (s.seqReq code c) p = .refuse :=
    Seq.answer_unauthorised hst (State.seqAuthorised_seqReq.trans hauth)
  rw [State.Answered, h.hostCmd_seqCmdNow, SeqOut.judge_refused (o := ⟨s.seq, [], []⟩) (h.onPortal hcode) hanswer,
    State.seqOut_of_fins rfl]
  rfl

/-- A service command that the portal takes: the portal obeys it, and nothing else changes (R73, R90). -/
theorem State.JudgesAlone.seqTook {goal : SeqPortal → Prop} (hcode : 6 ≤ code ∧ code ≤ 9)
    (hauth : groupAuth s.regs c.port (bankOf s.regs p) (seqGroup code) = true)
    {a : Answer} (ha : a = .ok ∨ a = .change)
    (hby : answerBy (s.seqCtx false) p (s.permitOf (bankOf s.regs p)) code (c.param.getLsbD 0) (s.seq.portals.nth p).st
      (s.seq.portals.nth p) = a)
    (hgoal : goal { (PSt.obey (s.seqCtx false) p code ⟨s.seq.portals.nth p, []⟩).x with taken := true }) :
    s.SeqTook (hostCmd (State.seqCmdNow code) c s) c p goal := by
  have hanswer : s.seq.answer (s.seqCtx false) (s.seqReq code c) p = a :=
    Seq.answer_authorised ha (State.seqAuthorised_seqReq.trans hauth) h.still h.stays hby
  have hr := h.onPortal (code := code) ⟨by omega, hcode.2⟩
  rw [h.hostCmd_seqCmdNow, SeqOut.judge_taken (o := ⟨s.seq, [], []⟩) hr (by rwa [← hanswer] at ha),
    SeqOut.carryOut_service hr hcode.1, SeqOut.take_two_pow h.isPortal, State.seqOut_of_fins rfl]
  refine ⟨_, _, rfl, rfl, fun k hk => ?_, ?_⟩
  · show ((s.seq.portals.put p _).upd p _).nth k = _
    rw [Vector.nth_upd_ne _ _ _ _ hk, Vector.nth_put_ne _ _ _ _ hk]
  · show goal (((s.seq.portals.put p _).upd p _).nth p)
    rwa [Vector.nth_upd_same _ _ _ h.isPortal, Vector.nth_put_same _ _ _ h.isPortal]

end

/-- CLEAR_FAULT may end the causes of a portal without a live condition (R75). -/
theorem State.clearable_of {s : State} {p : Nat} (hdis : (s.seq.portals.nth p).disagrees (s.seqCtx false) p = false)
    (hfb : (s.seqCtx false).fbFault p = false) (hsafe : s.portalSafe p = false) :
    (s.seq.portals.nth p).clearable (s.seqCtx false) p = true := by
  simp [SeqPortal.clearable, hdis, hfb, hsafe]

/-- Settles O39: with the right, the answer of R90 and the move of R73 for each command and state; without it, one refusal for all. -/
theorem seqService : Obligations.SeqService := by
  intro s c p hport hring hp hup hlevel hindex hparam _ hmoved hdepart
  have h : s.JudgesAlone c p := ⟨hport, hring, hp, hup, hlevel, hindex, hparam, hmoved, hdepart⟩
  refine ⟨fun hauth => ⟨fun hst => ?isolate, fun hst hisol hon => ?deisolate, fun hst hdis hfb hsafe => ?clearFault,
    fun hst hdis hfb hsafe => ?clearManual, fun hst hrel => ?resetManual⟩, fun hst => ⟨fun hauth => ?motion, fun hauth => ?crew,
    fun hauth => ?service⟩⟩
  case isolate =>
    refine h.seqTook (by decide) hauth (.inr rfl) (by simp [answerBy, hst]) ?_
    rw [PSt.obey_isolate (by simp [hst])]
    exact ⟨rfl, rfl, rfl, rfl⟩
  case deisolate =>
    refine h.seqTook (by decide) hauth (.inr rfl) (by simp [answerBy, hst, hisol, hon]) ?_
    rw [PSt.obey_deisolate hst]
    exact PSt.toClosedOrHeld_st _ _ _ _
  case clearFault =>
    have hclear := State.clearable_of hdis hfb hsafe
    refine h.seqTook (by decide) hauth (.inr rfl) (by simp [answerBy, hst, hclear]) ?_
    rw [PSt.obey_clearFault hclear, if_pos hst]
    exact ⟨PSt.toClosedOrHeld_latched _ _ _ _, PSt.toClosedOrHeld_cause _ _ _ _, PSt.toClosedOrHeld_st _ _ _ _⟩
  case clearManual =>
    have hclear := State.clearable_of hdis hfb hsafe
    refine h.seqTook (by decide) hauth (.inl rfl) (by simp [answerBy, hst]) ?_
    rw [PSt.obey_clearFault hclear, if_neg (by simp [hst])]
    exact ⟨rfl, hst⟩
  case resetManual =>
    refine h.seqTook (by decide) hauth (.inr rfl) (by simp [answerBy, hst, hrel]) ?_
    rw [PSt.obey_resetManual hst]
    exact PSt.toClosedOrHeld_st _ _ _ _
  case motion =>
    exact ⟨h.answered (code := 1) (by decide) hst hauth, h.answered (code := 2) (by decide) hst hauth,
      h.answered (code := 3) (by decide) hst hauth⟩
  case crew =>
    exact ⟨h.answered (code := 4) (by decide) hst hauth, h.answered (code := 5) (by decide) hst hauth⟩
  case service =>
    exact ⟨h.answered (code := 6) (by decide) hst hauth, h.answered (code := 7) (by decide) hst hauth,
      h.answered (code := 8) (by decide) hst hauth, h.answered (code := 9) (by decide) hst hauth⟩

end Sys2Proof.Machine
end

section
/-! Masks (R107): what a mask reads as bit by bit, and when one mask covers another. -/

namespace Sys2Proof.Machine

theorem maskOf_succ (n : Nat) (b : Nat → Bool) : maskOf (n + 1) b = if b n = true then maskOf n b + 2 ^ n else maskOf n b := by
  rw [maskOf, List.range_succ, List.foldl_append, ← maskOf, List.foldl_cons, List.foldl_nil]

theorem maskOf_lt (n : Nat) (b : Nat → Bool) : maskOf n b < 2 ^ n := by
  induction n with
  | zero => exact Nat.zero_lt_one
  | succ n ih =>
    rw [maskOf_succ, Nat.pow_succ]
    split <;> omega

theorem testBit_maskOf (n : Nat) (b : Nat → Bool) (i : Nat) : (maskOf n b).testBit i = (decide (i < n) && b i) := by
  induction n with
  | zero => simp [maskOf]
  | succ n ih =>
    rw [maskOf_succ]
    rcases Nat.lt_trichotomy i n with hi | rfl | hi
    · have hlow : (maskOf n b + 2 ^ n).testBit i = (maskOf n b).testBit i := by
        rw [Nat.add_comm]
        exact Nat.testBit_two_pow_add_gt hi _
      simp [apply_ite (Nat.testBit · i), hlow, ih, hi, Nat.lt_succ_of_lt hi]
    · have hclear : (maskOf i b).testBit i = false := Nat.testBit_lt_two_pow (maskOf_lt i b)
      have hset : (maskOf i b + 2 ^ i).testBit i = true := by
        rw [Nat.add_comm, Nat.testBit_two_pow_add_eq, hclear]
        rfl
      cases hb : b i <;> simp [hclear, hset]
    · have hhigh : ¬i < n + 1 := by omega
      rw [← maskOf_succ, Nat.testBit_lt_two_pow (Nat.lt_of_lt_of_le (maskOf_lt (n + 1) b) (Nat.pow_le_pow_right (by decide) hi))]
      simp [hhigh]

theorem andNot_eq_zero_iff (a b : Nat) : andNot a b = 0 ↔ ∀ i, a.testBit i = true → b.testBit i = true := by
  have hbit (i : Nat) : (andNot a b).testBit i = (a.testBit i && !b.testBit i) := by
    rw [andNot, Nat.testBit_xor, Nat.testBit_and]
    cases a.testBit i <;> cases b.testBit i <;> rfl
  refine ⟨fun h i => ?_, fun h => Nat.eq_of_testBit_eq fun i => ?_⟩
  · simpa [hbit] using congrArg (Nat.testBit · i) h
  · simpa [hbit] using h i

/-- Only the eight portals stand in SCOPE. -/
theorem lt_of_testBit_SCOPE {f : RegFile} {p : Nat} (h : f.ILK_CFG_SCOPE.testBit p = true) : p < 8 := by
  refine Nat.lt_of_not_le fun hp => ?_
  have hlt : f.ILK_CFG_SCOPE < 2 ^ p :=
    Nat.lt_of_lt_of_le (Nat.mod_lt _ (by decide) : f.ILK_CFG_SCOPE < 2 ^ 8) (Nat.pow_le_pow_right (by decide) hp)
  rw [Nat.testBit_lt_two_pow hlt] at h
  cases h

end Sys2Proof.Machine
end

section
/-! Channel B on the switch die (O10, O15): its switch, its decision, its test pulse and its latch (R105, R106, R109, R114, R115). -/

namespace Sys2Proof.Machine

theorem State.onSwitch_of {s : State} (f : SwitchDie → SwitchDie) (h : s.boot.phase ≠ .deviceReset) :
    s.onSwitch f = { s with sw := f s.sw } := if_neg h

/-- A latch or a test pulse holds the switch off (R105, R115). -/
theorem SwitchDie.driveB_held {d : SwitchDie} (h : d.chB.latch = true ∨ d.chB.pulse = true) :
    d.driveB = { d with chB := { d.chB with cond := false } } := by
  rcases h with h | h <;> simp [SwitchDie.driveB, h]

theorem SwitchDie.driveB_cond (d : SwitchDie) : d.driveB.chB.cond = true ↔
    d.chB.decB = true ∧ d.chB.latch = false ∧ d.chB.pulse = false ∧ d.auto = false ∧ d.seen = true ∧ d.passA = true := by
  simp [SwitchDie.driveB, and_assoc]

/-- The decision of channel B: both mapped lock inputs of every portal in scope (R106, R109). -/
theorem SwitchDie.decideB_decB (d : SwitchDie) : d.decideB.chB.decB = true ↔
    ∀ p, p < 8 → d.settings.ILK_CFG_SCOPE.testBit p = true →
      d.locked6 (bMap d.settings p).1 = true ∧ d.locked6 (bMap d.settings p).2 = true := by
  calc d.decideB.chB.decB = true
    _ ↔ andNot d.settings.ILK_CFG_SCOPE
          (maskOf 8 (fun p => d.locked6 (bMap d.settings p).1 && d.locked6 (bMap d.settings p).2)) = 0 := decide_eq_true_iff
    _ ↔ _ := by
      simp only [andNot_eq_zero_iff, testBit_maskOf, Bool.and_eq_true, decide_eq_true_eq]
      exact ⟨fun h p _ hscope => (h p hscope).2,
        fun h p hscope => ⟨lt_of_testBit_SCOPE hscope, h p (lt_of_testBit_SCOPE hscope) hscope⟩⟩

theorem SwitchDie.decideB_cond (d : SwitchDie) : d.decideB.chB.cond = true ↔
    d.decideB.chB.decB = true ∧ d.chB.latch = false ∧ d.chB.pulse = false ∧ d.auto = false ∧ d.seen = true ∧ d.passA = true :=
  SwitchDie.driveB_cond _

/-- What a valid link 6 frame gives the die before channel B decides (R20, R21). -/
def SwitchDie.takeLink6 (act unk : Nat) (d : SwitchDie) : SwitchDie :=
  { d with in6 := act, unk6 := unk, bad6 := 0, good6 := min (d.good6 + 1) 2, fault6 := d.fault6 && decide (d.good6 < 1) }

theorem exec_link6Frame {s : State} (hreset : s.boot.phase ≠ .deviceReset) (hup : s.field.up = true) :
    exec (.link6Frame true) s = .next { s with sw := (s.sw.takeLink6 s.field.active s.field.unknown).decideB } := by
  show Host.Outcome.next (s.onSwitch _) = _
  rw [State.onSwitch_of _ hreset, hup]
  rfl

/-- Settles O10: the die takes the frame, and channel B decides on what it has taken. -/
theorem channelBFollowsLink6 : Obligations.ChannelBFollowsLink6 :=
  fun _ hreset hup => ⟨_, exec_link6Frame hreset hup, rfl, rfl, rfl, rfl, SwitchDie.decideB_decB _, SwitchDie.decideB_cond _⟩

theorem exec_trainlineSample {s : State} (hreset : s.boot.phase ≠ .deviceReset) (volts : List Nat) :
    exec (.trainlineSample volts) s = .next { s with sw := s.sw.trainSample volts } :=
  congrArg Host.Outcome.next (State.onSwitch_of _ hreset)

theorem exec_tlIndeterminate {s : State} {tl : Nat} (hreset : s.boot.phase ≠ .deviceReset) (htl : tl < 6) :
    exec (.tlIndeterminate tl) s = .next { s with sw := { s.sw with tl := s.sw.tl.upd tl TrainLine.setIndet } } := by
  show onObject 6 tl _ = _
  rw [onObject_of_lt _ _ _ htl, State.onSwitch_of _ hreset]

theorem exec_channelBTestPulse {s : State} (hreset : s.boot.phase ≠ .deviceReset) (above : Bool) :
    exec (.channelBTestPulse above) s = .next { s with sw := s.sw.testPulse above } :=
  congrArg Host.Outcome.next (State.onSwitch_of _ hreset)

theorem exec_switchDieLatch {s : State} (hreset : s.boot.phase ≠ .deviceReset) :
    exec .switchDieLatch s = .next { s with sw := s.sw.latchOwn } :=
  congrArg Host.Outcome.next (State.onSwitch_of _ hreset)

theorem TrainLine.setIndet_of_band {t : TrainLine} (h : t.band ≠ 0) : t.setIndet = { t with indet := true } := if_neg h

/-- The test pulse of channel B at its tick (R115, R116). -/
theorem SwitchDie.testPulse_of {d : SwitchDie} (above : Bool) (htick : d.tickNo % 400 = 300) (hclosed : d.closed = true)
    (hcond : d.chB.cond = true) : d.testPulse above =
    { d with chB := { d.chB with pulse := true, cond := false, report := if above then d.chB.report else d.chB.report ||| 1 } } := by
  rw [SwitchDie.testPulse, if_pos ⟨htick, hclosed, hcond⟩]
  exact SwitchDie.driveB_held (.inr rfl)

/-- The own latch of channel B (R114, R120). -/
theorem SwitchDie.latchOwn_of {d : SwitchDie} (hpass : d.passA = true) (hdecA : d.decA = true) (hdecB : d.chB.decB = false)
    (hlink : d.fault6 = false) (hlatch : d.chB.latch = false) : d.latchOwn =
    { d with chB := { d.chB with latch := true, cond := false, report := d.chB.report ||| 4 } } := by
  rw [SwitchDie.latchOwn, if_pos (by simp [hpass, hdecA, hdecB, hlink, hlatch])]
  exact SwitchDie.driveB_held (.inl rfl)

/-- Settles O15: each row is its operation on the switch die, and pulse and latch hold the switch off. -/
theorem trainlinesAndChannelB : Obligations.TrainlinesAndChannelB := by
  intro s hreset
  refine ⟨fun volts => exec_trainlineSample hreset volts, fun tl htl hband => ?_, fun above htick hclosed hcond => ?_,
    fun hpass hdecA hdecB hlink hlatch => ?_⟩
  · rw [exec_tlIndeterminate hreset htl,
      Vector.upd_congr _ _ _ (fun x => { x with indet := true }) (TrainLine.setIndet_of_band hband)]
  · rw [exec_channelBTestPulse hreset, SwitchDie.testPulse_of above htick hclosed hcond]
  · rw [exec_switchDieLatch hreset, SwitchDie.latchOwn_of hpass hdecA hdecB hlink hlatch]

end Sys2Proof.Machine
end

section
/-! The rows of channel A on the core die (O19): what latches it, what it reports, and the charge pumps (R104, R111, R112, R115, R118). -/

namespace Sys2Proof.Machine

/-- A live interlock latches: channel A static and off, with the cause, and the opening of a closed one reported (R119, R121, R130). -/
theorem Ilk.latch_of_live {k : Ilk} (h : k.st = .opened ∨ k.st = .closed) (cause : Nat) :
    ∃ k', k.latch cause = (k', [(0x0305, p1 cause)] ++ (if k.st = .closed then [(0x0302, p1 5)] else [])) ∧
      k'.st = .latched ∧ k'.cause = cause ∧ k'.offGate = true ∧ k'.outA = false ∧ k'.drive = false := by
  rcases h with h | h <;> exact ⟨(k.latch cause).1, by simp [Ilk.latch, Ilk.static, h]⟩

theorem State.says_nil (s : State) : s.says [] = s := rfl

/-- A row of the interlock in a started machine, by the change and the events it makes. -/
theorem State.inStage_ilkRow {s : State} {f : IlkIn → Ilk → Ilk × List Ev} {k : Ilk} {evs : List Ev} (hstarted : s.started = true)
    (h : f (s.ilkIn default) s.ilk = (k, evs)) : s.inStage (State.ilkRow f) = (({ s with ilk := k } : State).says evs).flush := by
  rw [State.inStage_of _ _ hstarted, State.ilkRow, h]

section
variable {s : State} {k : Ilk} {evs : List Ev} (hstarted : s.started = true)
include hstarted

theorem exec_ilkTestPulse {low : Bool} (h : s.ilk.judgePulse low = (k, evs)) :
    exec (.ilkTestPulse low) s = .next (({ s with ilk := k } : State).says evs).flush :=
  congrArg Host.Outcome.next (State.inStage_ilkRow hstarted h)

/-- A disagreement is latched while both links run (R111, R113). -/
theorem exec_ilkDiscrepancy (hdecA : s.ilk.decA = true) (hdecB : s.ilk.decB = false) (hlink4 : (s.links.l.nth 4).fault = false)
    (hlink6 : (s.links.l.nth 6).fault = false) (h : s.ilk.discrepancy (s.ilkIn default) 0 = (k, evs)) :
    exec .ilkDiscrepancy s = .next (({ s with ilk := k } : State).says evs).flush := by
  refine congrArg Host.Outcome.next (State.inStage_ilkRow hstarted (Eq.trans (if_pos ?_) h))
  simp [State.ilkIn, hdecA, hdecB, hlink4, hlink6]

/-- A safe disagreement is reported while both links run (R112, R113). -/
theorem exec_ilkDiscSafe (hdecA : s.ilk.decA = false) (hdecB : s.ilk.decB = true) (hlink4 : (s.links.l.nth 4).fault = false)
    (hlink6 : (s.links.l.nth 6).fault = false) (h : s.ilk.discSafeReport = (k, evs)) :
    exec .ilkDiscSafe s = .next (({ s with ilk := k } : State).says evs).flush := by
  refine congrArg Host.Outcome.next (State.inStage_ilkRow hstarted (Eq.trans (if_pos ?_) h))
  simp [State.ilkIn, hdecA, hdecB, hlink4, hlink6]

/-- A known feedback that disagrees latches a live interlock (R118). -/
theorem exec_ilkFeedbackTimeout (hticks : s.ilk.fbTicks ≠ 0) (hknown : (s.ilkIn default).feedback.isSome = true)
    (hlive : s.ilk.st = .opened ∨ s.ilk.st = .closed) (h : s.ilk.latch 6 = (k, evs)) :
    exec .ilkFeedbackTimeout s = .next (({ s with ilk := k } : State).says evs).flush :=
  congrArg Host.Outcome.next (State.inStage_ilkRow hstarted (Eq.trans (if_pos ⟨hknown, hticks, hlive⟩) h))

end

theorem Ilk.judgePulse_low {k : Ilk} (h : k.pulseA = true) : k.judgePulse true = ({ k with pulseA := false }, []) := by
  simp [Ilk.judgePulse, h]

theorem Ilk.judgePulse_high {k : Ilk} (h : k.pulseA = true) :
    k.judgePulse false = ({ k with pulseA := false } : Ilk).latch 2 := by
  simp [Ilk.judgePulse, h]

/-- A live interlock latches on a dangerous disagreement, with the portals in which the two views differ (R111, log 15). -/
theorem Ilk.discrepancy_of_live {k : Ilk} (h : k.st = .opened ∨ k.st = .closed) (x : IlkIn) (die : Nat) :
    k.discrepancy x die = ((k.latch 1).1, (0x0303, p1 die ++ p1 (x.locks ^^^ x.bOk)) :: (k.latch 1).2) := if_pos h

theorem Ilk.discSafeReport_first {k : Ilk} (h : k.safeSent = false) : k.discSafeReport =
    ({ k with safeSent := true, discSafe := satInc 16 k.discSafe }, [(0x0304, p1 (andNot k.bOk k.aOk))]) := by
  simp [Ilk.discSafeReport, h]

/-- Between ticks stage 5 keeps channel B's last report. -/
theorem State.ilkIn_default_bOk (s : State) : (s.ilkIn default).bOk = s.ilk.bOk := rfl

/-- Settles O19: each row by what it makes of the interlock; three of them are the one latch with their own causes. -/
theorem interlockRows : Obligations.InterlockRows := by
  refine ⟨fun s hstarted hpulse => ⟨?pulseRead, fun hlive => ?pulseFailed⟩,
    fun s hstarted hdecA hdecB hlink4 hlink6 hlive => ?discrepancy, fun s hstarted hdecA hdecB hlink4 hlink6 hsent => ?discSafe,
    fun s hstarted hticks hknown hlive => ?feedback, fun s => rfl, fun s hreset => ?pumpB⟩
  case pulseRead =>
    rw [exec_ilkTestPulse hstarted (Ilk.judgePulse_low hpulse), State.says_nil]
  case pulseFailed =>
    obtain ⟨k, hlatch, hst, hcause, hgate, hout, hdrive⟩ := Ilk.latch_of_live (k := { s.ilk with pulseA := false }) hlive 2
    exact ⟨{ s with ilk := k }, exec_ilkTestPulse hstarted ((Ilk.judgePulse_high hpulse).trans hlatch), rfl, hst, hcause, hgate,
      hout, hdrive⟩
  case discrepancy =>
    obtain ⟨k, hlatch, hst, hcause, hgate, -⟩ := Ilk.latch_of_live hlive 1
    have hrow := Ilk.discrepancy_of_live hlive (s.ilkIn default) 0
    rw [hlatch, State.ilkIn_default_bOk] at hrow
    exact ⟨{ s with ilk := k }, _, exec_ilkDiscrepancy hstarted hdecA hdecB hlink4 hlink6 hrow, rfl, rfl, hst, hcause, hgate⟩
  case discSafe =>
    exact exec_ilkDiscSafe hstarted hdecA hdecB hlink4 hlink6 (Ilk.discSafeReport_first hsent)
  case feedback =>
    obtain ⟨k, hlatch, hst, hcause, hgate, -⟩ := Ilk.latch_of_live hlive 6
    exact ⟨{ s with ilk := k }, exec_ilkFeedbackTimeout hstarted hticks hknown hlive hlatch, rfl, hst, hcause, hgate⟩
  case pumpB =>
    exact congrArg Host.Outcome.next ((if_pos rfl).trans (State.onSwitch_of _ hreset))

end Sys2Proof.Machine
end

section
/-! Obstacle trips and winding injections of a leaf (O40): what a trip records and whom it orders (R131, R150), how a reaction ends
(R151), and what an injection that starts or ends leaves of the leaf and of the patina (R183, R254). -/

namespace Sys2Proof.Machine

theorem State.Posted.patMod {u t : State} (h : u.Posted t) (f : Pat → Pat) : (u.patMod f).Posted (t.patMod f) :=
  congrArg (State.patMod f) h

/-- t is s but for its leaves and for what posting changes. -/
def State.LeavesPosted (s t : State) : Prop := ({ s with leaves := t.leaves } : State).Posted t

theorem State.LeavesPosted.refl (s : State) : s.LeavesPosted s := State.Posted.refl s

theorem State.LeavesPosted.trans {s t u : State} (h : s.LeavesPosted t) (k : t.LeavesPosted u) : s.LeavesPosted u := by
  unfold State.LeavesPosted State.Posted at *
  rw [k, h]

theorem State.LeavesPosted.posted {s t u : State} (h : s.LeavesPosted t) (k : t.Posted u) : s.LeavesPosted u := by
  rw [State.LeavesPosted, k.leaves]
  exact State.Posted.trans h k

theorem State.leaf_says_leavesPosted (l : Nat) (f : Leaf → Leaf) (evs : List Ev) (s : State) :
    s.LeavesPosted ((s.leaf l f).says evs) := by
  rw [State.LeavesPosted, State.says_leaves]
  exact State.says_posted evs (s.leaf l f)

/-! The trip of one leaf. -/

/-- A leaf that has tripped outside the under-voltage hold (R150): own, its own causes; other, those of its partner. -/
def State.trippedLeaf (l own other dir : Nat) (s : State) : Leaf :=
  let x := s.leaves.nth l
  { x with obs := (({ x.obs with dir := dir } : LeafObs).trip l own (own + if other ≠ 0 then 128 else 0) x.fbk.posUm
      (if (s.moves.nth l).speedDir = 0 then (s.moves.nth l).target else 0)).1 }

/-- A trip by causes of the leaf's own is recorded and counted for the direction of the stroke. -/
theorem State.trippedLeaf_own {own : Nat} (h : own ≠ 0) (l dir : Nat) (s : State) :
    (s.trippedLeaf l own 0 dir).obs.order = own ∧ (s.trippedLeaf l own 0 dir).obs.cause = own ∧
    (s.trippedLeaf l own 0 dir).obs.tripPos = (s.leaves.nth l).fbk.posUm ∧
    (dir = 0 → (s.trippedLeaf l own 0 dir).obs.tripsC = satInc 16 (s.leaves.nth l).obs.tripsC ∧
      (s.trippedLeaf l own 0 dir).obs.tripsO = (s.leaves.nth l).obs.tripsO) ∧
    (dir = 1 → (s.trippedLeaf l own 0 dir).obs.tripsO = satInc 16 (s.leaves.nth l).obs.tripsO) := by
  refine ⟨rfl, rfl, rfl, fun hdir => ?_, fun hdir => ?_⟩
  all_goals simp [State.trippedLeaf, LeafObs.trip, h, hdir]

/-- A trip by the partner's causes is ordered with cause 128 and not counted. -/
theorem State.trippedLeaf_partner {other : Nat} (h : other ≠ 0) (l dir : Nat) (s : State) :
    (s.trippedLeaf l 0 other dir).obs.order = 128 ∧ (s.trippedLeaf l 0 other dir).obs.tripsC = (s.leaves.nth l).obs.tripsC ∧
    (s.trippedLeaf l 0 other dir).obs.tripsO = (s.leaves.nth l).obs.tripsO := by
  simp [State.trippedLeaf, LeafObs.trip, h]

/-- One leaf of a portal trips where it is due an order. -/
def State.tripIf (due : Bool) (l own other dir : Nat) (s : State) : State :=
  if due then s.tripLeaf l own (own + if other ≠ 0 then 128 else 0) dir else s

theorem State.tripIf_leavesPosted (due : Bool) (l own other dir : Nat) (s : State) : s.LeavesPosted (s.tripIf due l own other dir) := by
  cases due with
  | false => exact .refl s
  | true => exact State.leaf_says_leavesPosted _ _ _ s

theorem State.tripIf_leaves_same {l : Nat} (hl : l < 16) {s : State} (hhold : (s.dies.nth (l / 4)).uvHold = false)
    (due : Bool) (own other dir : Nat) :
    (s.tripIf due l own other dir).leaves.nth l = if due then s.trippedLeaf l own other dir else s.leaves.nth l := by
  cases due with
  | false => rfl
  | true =>
    simp only [State.tripIf, State.tripLeaf, if_true, State.says_leaves, State.leaf_leaves, Vector.nth_upd_same _ _ _ hl, hhold]
    rfl

theorem State.tripIf_leaves_ne {k l : Nat} (h : k ≠ l) (due : Bool) (own other dir : Nat) (s : State) :
    (s.tripIf due l own other dir).leaves.nth k = s.leaves.nth k := by
  cases due with
  | false => rfl
  | true => simp only [State.tripIf, State.tripLeaf, if_true, State.says_leaves, State.leaf_leaves, Vector.nth_upd_ne _ _ _ _ h]

/-- What a leaf records does not depend on a trip of another leaf before it. -/
theorem State.trippedLeaf_tripIf {k l : Nat} (h : k ≠ l) (due : Bool) (own other own' other' dir dir' : Nat) (s : State) :
    (s.tripIf due l own' other' dir').trippedLeaf k own other dir = s.trippedLeaf k own other dir := by
  rw [State.trippedLeaf, State.tripIf_leaves_ne h, (State.tripIf_leavesPosted due l own' other' dir' s).moves]
  rfl

/-! The trip of a portal. -/

/-- A leaf is due an order: for causes of its own, or for those of its partner while it can be judged (R131, R150). -/
def State.orderDue (l own other : Nat) (s : State) : Bool :=
  decide (own ≠ 0) || (decide (other ≠ 0) && (s.leaves.nth l).obs.judged)

theorem State.orderDue_own {l own other : Nat} (s : State) (h : own ≠ 0) : s.orderDue l own other = true := by
  simp [State.orderDue, h]

theorem State.orderDue_partner {l other : Nat} (s : State) (h : other ≠ 0) :
    s.orderDue l 0 other = (s.leaves.nth l).obs.judged := by
  simp [State.orderDue, h]

/-- A portal trips leaf by leaf, the slave only where it moves, and both are due their orders by the state before. -/
theorem State.tripPortal_eq (p own0 own1 dir : Nat) (s : State) : s.tripPortal p own0 own1 dir =
    (s.tripIf (s.orderDue (2 * p) own0 own1) (2 * p) own0 own1 dir).tripIf
      (slaveMoves s.regs p && s.orderDue (2 * p + 1) own1 own0) (2 * p + 1) own1 own0 dir := rfl

theorem State.tripPortal_leavesPosted (p own0 own1 dir : Nat) (s : State) : s.LeavesPosted (s.tripPortal p own0 own1 dir) :=
  (State.tripIf_leavesPosted _ _ _ _ _ s).trans (State.tripIf_leavesPosted _ _ _ _ _ _)

theorem State.tripPortal_leaves_ne {p k : Nat} (h0 : k ≠ 2 * p) (h1 : k ≠ 2 * p + 1) (own0 own1 dir : Nat) (s : State) :
    (s.tripPortal p own0 own1 dir).leaves.nth k = s.leaves.nth k := by
  rw [State.tripPortal_eq, State.tripIf_leaves_ne h1, State.tripIf_leaves_ne h0]

theorem State.tripPortal_master {p : Nat} (hp : p < 8) {s : State} (hhold : (s.dies.nth (2 * p / 4)).uvHold = false)
    (own0 own1 dir : Nat) : (s.tripPortal p own0 own1 dir).leaves.nth (2 * p) =
      if s.orderDue (2 * p) own0 own1 then s.trippedLeaf (2 * p) own0 own1 dir else s.leaves.nth (2 * p) := by
  rw [State.tripPortal_eq, State.tripIf_leaves_ne (by omega), State.tripIf_leaves_same (by omega) hhold]

theorem State.tripPortal_slave {p : Nat} (hp : p < 8) {s : State} (hhold : (s.dies.nth ((2 * p + 1) / 4)).uvHold = false)
    (own0 own1 dir : Nat) : (s.tripPortal p own0 own1 dir).leaves.nth (2 * p + 1) =
      if slaveMoves s.regs p && s.orderDue (2 * p + 1) own1 own0 then s.trippedLeaf (2 * p + 1) own1 own0 dir
      else s.leaves.nth (2 * p + 1) := by
  have hne : 2 * p + 1 ≠ 2 * p := by omega
  rw [State.tripPortal_eq, State.tripIf_leaves_same (by omega), State.trippedLeaf_tripIf hne, State.tripIf_leaves_ne hne]
  rw [(State.tripIf_leavesPosted _ _ _ _ _ s).dies]
  exact hhold

/-! OBS_TRIP. -/

/-- The other leaf of a leaf's portal. -/
def partnerLeaf (l : Nat) : Nat := if l % 2 = 0 then l + 1 else l - 1

theorem eq_partnerLeaf_iff (k l : Nat) : k = partnerLeaf l ↔ k / 2 = l / 2 ∧ k ≠ l := by
  unfold partnerLeaf
  split <;> omega

/-- The trip of a leaf by causes of its own, in its stroke's direction (R150). -/
def State.ownTrip (leaf cause : Nat) (s : State) : State :=
  let dir := (s.leaves.nth leaf).obs.dir
  if leaf % 2 = 0 then s.tripPortal (leaf / 2) cause 0 dir else s.tripPortal (leaf / 2) 0 cause dir

theorem LeafObs.judged_of {o : LeafObs} (hstroke : o.stroke = true) (hreact : o.react = .none) : o.judged = true := by
  simp [LeafObs.judged, hstroke, hreact]

theorem exec_obsTrip {s : State} {leaf cause : Nat} (hleaf : leaf < 16) (hstarted : s.started = true) (hcause : cause % 128 ≠ 0)
    (hjudged : (s.leaves.nth leaf).obs.judged = true) :
    ∃ t, exec (.obsTrip leaf cause) s = .next t ∧ (s.ownTrip leaf (cause % 128)).Posted t := by
  refine ⟨(s.ownTrip leaf (cause % 128)).flush, ?_, State.flush_posted _⟩
  show onObject 16 leaf _ = _
  rw [onObject_of_lt _ _ _ hleaf, State.inStage_of _ _ hstarted]
  simp [hjudged, hcause, State.ownTrip]

theorem State.ownTrip_leavesPosted (leaf cause : Nat) (s : State) : s.LeavesPosted (s.ownTrip leaf cause) := by
  unfold State.ownTrip
  split
  all_goals exact State.tripPortal_leavesPosted _ _ _ _ s

theorem State.ownTrip_leaves_ne {leaf k : Nat} (h : k / 2 ≠ leaf / 2) (cause : Nat) (s : State) :
    (s.ownTrip leaf cause).leaves.nth k = s.leaves.nth k := by
  unfold State.ownTrip
  split
  all_goals exact State.tripPortal_leaves_ne (by omega) (by omega) _ _ _ s

section
variable {s : State} {leaf cause : Nat} (hleaf : leaf < 16) (hcause : cause ≠ 0) (hhold : (s.dies.nth (leaf / 4)).uvHold = false)
  (hmoves : leaf % 2 = 0 ∨ slaveMoves s.regs (leaf / 2) = true)
include hleaf hcause hhold hmoves

theorem State.ownTrip_leaf :
    (s.ownTrip leaf cause).leaves.nth leaf = s.trippedLeaf leaf cause 0 (s.leaves.nth leaf).obs.dir := by
  unfold State.ownTrip
  split
  case isTrue heven =>
    obtain ⟨p, rfl⟩ : ∃ p, leaf = 2 * p := ⟨leaf / 2, by omega⟩
    have hhalf : 2 * p / 2 = p := by omega
    rw [hhalf, State.tripPortal_master (by omega) hhold, State.orderDue_own _ hcause]
    rfl
  case isFalse hodd =>
    obtain ⟨p, rfl⟩ : ∃ p, leaf = 2 * p + 1 := ⟨leaf / 2, by omega⟩
    have hhalf : (2 * p + 1) / 2 = p := by omega
    rw [hhalf] at hmoves ⊢
    rw [State.tripPortal_slave (by omega) hhold, State.orderDue_own _ hcause, hmoves.resolve_left hodd]
    rfl

/-- The partner is ordered where the slave takes part in the portal's moves and the partner has a stroke and no reaction (log 25). -/
theorem State.ownTrip_partner : (s.ownTrip leaf cause).leaves.nth (partnerLeaf leaf) =
    if slaveMoves s.regs (leaf / 2) && (s.leaves.nth (partnerLeaf leaf)).obs.judged then
      s.trippedLeaf (partnerLeaf leaf) 0 cause (s.leaves.nth leaf).obs.dir
    else s.leaves.nth (partnerLeaf leaf) := by
  unfold State.ownTrip partnerLeaf
  split
  case isTrue heven =>
    obtain ⟨p, rfl⟩ : ∃ p, leaf = 2 * p := ⟨leaf / 2, by omega⟩
    have hhalf : 2 * p / 2 = p := by omega
    have hdie : (2 * p + 1) / 4 = 2 * p / 4 := by omega
    rw [hhalf, State.tripPortal_slave (by omega) (hdie ▸ hhold), State.orderDue_partner _ hcause]
  case isFalse hodd =>
    obtain ⟨p, rfl⟩ : ∃ p, leaf = 2 * p + 1 := ⟨leaf / 2, by omega⟩
    have hhalf : (2 * p + 1) / 2 = p := by omega
    have hdie : 2 * p / 4 = (2 * p + 1) / 4 := by omega
    rw [hhalf] at hmoves ⊢
    rw [Nat.add_sub_cancel, State.tripPortal_master (by omega) (hdie ▸ hhold), State.orderDue_partner _ hcause,
      hmoves.resolve_left hodd, Bool.true_and]

theorem State.ownTrip_keeps_fbk_drive (k : Nat) : ((s.ownTrip leaf cause).leaves.nth k).fbk = (s.leaves.nth k).fbk ∧
    ((s.ownTrip leaf cause).leaves.nth k).drive = (s.leaves.nth k).drive := by
  by_cases hportal : k / 2 = leaf / 2
  · by_cases hk : k = leaf
    · rw [hk, State.ownTrip_leaf hleaf hcause hhold hmoves]
      exact ⟨rfl, rfl⟩
    · rw [(eq_partnerLeaf_iff k leaf).mpr ⟨hportal, hk⟩, State.ownTrip_partner hleaf hcause hhold hmoves]
      split
      all_goals exact ⟨rfl, rfl⟩
  · rw [State.ownTrip_leaves_ne hportal]
    exact ⟨rfl, rfl⟩

end

/-! OBS_REACTION_DONE, INJECTION_REQUEST and LDR_RWIND_DONE. -/

theorem LeafObs.reactionDone_of {o : LeafObs} (h : o.react ≠ .none) (leaf : Nat) (pos : Int) :
    o.reactionDone leaf pos = ({ o with react := .none }, [(0x0402, p1 leaf ++ p1 o.react.code ++ p4 pos)]) := by
  unfold LeafObs.reactionDone
  split
  case h_1 hnone => exact absurd hnone h
  case h_2 => rfl

theorem exec_obsReactionDone {s : State} {leaf : Nat} (hleaf : leaf < 16) (hstarted : s.started = true)
    (hreact : (s.leaves.nth leaf).obs.react ≠ .none) : exec (.obsReactionDone leaf) s =
      .next ((s.leaf leaf (fun x => { x with obs := { x.obs with react := .none } })).says
        [(0x0402, p1 leaf ++ p1 (s.leaves.nth leaf).obs.react.code ++ p4 (s.leaves.nth leaf).fbk.posUm)]).flush := by
  show onObject 16 leaf _ = _
  rw [onObject_of_lt _ _ _ hleaf, State.inStage_of _ _ hstarted]
  dsimp only
  rw [LeafObs.reactionDone_of hreact, State.leaf, State.leaf,
    Vector.upd_congr _ _ _ (fun x : Leaf => { x with obs := { x.obs with react := .none } }) rfl]

theorem exec_injectionRequest {s : State} {leaf : Nat} (hleaf : leaf < 16) (hstarted : s.started = true)
    (h : s.injectable leaf = true) : exec (.injectionRequest leaf) s =
      .next (s.leaf leaf (fun x => { x with drive := { x.drive with inj := some ⟨0, 0, 0, 0⟩ } })).flush := by
  show onObject 16 leaf _ = _
  rw [onObject_of_lt _ _ _ hleaf, State.inStage_of _ _ hstarted, State.inject, if_pos h]

theorem State.Posted.injected {u t : State} (h : u.Posted t) (l : Nat) (ok : Bool) : (u.injected l ok).Posted (t.injected l ok) := by
  rw [State.injected, State.injected, h.leaves, h.time]
  exact h.patMod _

/-- How an injection ends (R183): broken off, or complete with what it has measured. -/
def State.injectionEnding (leaf : Nat) (aborted : Bool) (j : Injection) (s : State) : LeafDrive → LeafDrive × List Ev :=
  if aborted then LeafDrive.abortInjection leaf else LeafDrive.injectEnd s.regs leaf (s.dies.nth (leaf / 4)).temp j

theorem LeafDrive.abortInjection_of {d : LeafDrive} {j : Injection} (h : d.inj = some j) (leaf : Nat) :
    (d.abortInjection leaf).1 = { d with inj := none } := by
  rw [LeafDrive.abortInjection, h]

/-- A state without the leaf's injection, the patina told of its end. -/
def State.withoutInjection (leaf : Nat) (aborted : Bool) (j : Injection) (s : State) : State :=
  (s.leaf leaf (fun x => { x with drive := (s.injectionEnding leaf aborted j (s.leaves.nth leaf).drive).1 })).injected leaf (!aborted)

section
variable {s : State} {leaf : Nat} {j : Injection} (hleaf : leaf < 16)
include hleaf

/-- The end of an injection changes the leaf and the patina, and posts its event. -/
theorem exec_ldrRwindDone (hstarted : s.started = true) (hinj : (s.leaves.nth leaf).drive.inj = some j) (aborted : Bool) :
    ∃ t, exec (.ldrRwindDone leaf aborted) s = .next t ∧ (s.withoutInjection leaf aborted j).Posted t := by
  refine ⟨((s.driveEv leaf (s.injectionEnding leaf aborted j)).injected leaf (!aborted)).flush, ?_,
    ((State.says_posted _ _).injected leaf (!aborted)).trans (State.flush_posted _)⟩
  show onObject 16 leaf _ = _
  rw [onObject_of_lt _ _ _ hleaf, State.inStage_of _ _ hstarted, State.injectionOver, hinj]
  rfl

theorem State.withoutInjection_drive (aborted : Bool) : ((s.withoutInjection leaf aborted j).leaves.nth leaf).drive =
    (s.injectionEnding leaf aborted j (s.leaves.nth leaf).drive).1 :=
  congrArg Leaf.drive (Vector.nth_upd_same s.leaves leaf _ hleaf)

/-- An injection broken off is wanted again at the next dwell (logs 30, 45). -/
theorem State.withoutInjection_aborted_portalRun : (s.withoutInjection leaf true j).pat.portalRun.nth (leaf / 2) =
    (s.pat.portalRun.nth (leaf / 2)).again (decide (leaf % 2 = 1)) :=
  Vector.nth_upd_same s.pat.portalRun (leaf / 2) _ (by omega)

/-- After a complete injection of the master the slave's is due in the next tick (R254). -/
theorem State.withoutInjection_complete_portalRun : (s.withoutInjection leaf false j).pat.portalRun.nth (leaf / 2) =
    { s.pat.portalRun.nth (leaf / 2) with asked := false, want := if leaf % 2 = 0 then 2 else 0, slaveAt := s.time.tick + 1 } :=
  Vector.nth_upd_same s.pat.portalRun (leaf / 2) _ (by omega)

end

theorem State.withoutInjection_leaves_ne {k leaf : Nat} (h : k ≠ leaf) (aborted : Bool) (j : Injection) (s : State) :
    (s.withoutInjection leaf aborted j).leaves.nth k = s.leaves.nth k := Vector.nth_upd_ne _ _ _ _ h

theorem State.Posted.of_withoutInjection {s t : State} {leaf : Nat} {aborted : Bool} {j : Injection}
    (h : (s.withoutInjection leaf aborted j).Posted t) : ({ s with leaves := t.leaves, pat := t.pat } : State).Posted t := by
  rw [h.leaves, h.pat]
  exact h

/-- Settles O40: a trip is read off leaf by leaf, a leaf's and its partner's, and the other three rows are each their operation. -/
theorem leafEvents : Obligations.LeafEvents := by
  intro s leaf hleaf hstarted
  refine ⟨fun cause hcause hstroke hreact hhold hmoves => ?trip, fun hreact => ?reactionDone,
    fun hst hstill hrow hinj => ?request, fun hinj => ?injectionDone⟩
  case trip =>
    have hown := State.ownTrip_leaf hleaf hcause hhold hmoves
    have hpartner := State.ownTrip_partner hleaf hcause hhold hmoves
    obtain ⟨t, hexec, hposted⟩ := exec_obsTrip hleaf hstarted hcause (LeafObs.judged_of hstroke hreact)
    obtain ⟨horder, hcauses, hpos, hclosing, hopening⟩ := State.trippedLeaf_own hcause leaf (s.leaves.nth leaf).obs.dir s
    refine ⟨t, hexec, (State.ownTrip_leavesPosted leaf _ s).posted hposted, ?_⟩
    rw [hposted.leaves, hown]
    refine ⟨horder, hcauses, hpos, hclosing, hopening, fun k _ hportal hk hjudged => ?_, fun k _ hportal hk hslave hjudged => ?_,
      fun k _ => State.ownTrip_keeps_fbk_drive hleaf hcause hhold hmoves k, fun k hk => State.ownTrip_leaves_ne hk _ s⟩
    all_goals
      obtain rfl := (eq_partnerLeaf_iff k leaf).mpr ⟨hportal, hk⟩
      rw [hpartner]
    · rw [hjudged, Bool.and_false]
      rfl
    · rw [hslave, hjudged]
      exact State.trippedLeaf_partner hcause _ _ s
  case reactionDone => exact exec_obsReactionDone hleaf hstarted hreact
  case request => exact exec_injectionRequest hleaf hstarted (by simp [State.injectable, hst, hstill, hrow, hinj])
  case injectionDone =>
    obtain ⟨j, hj⟩ := Option.ne_none_iff_exists'.mp hinj
    refine ⟨?aborted, ?complete⟩
    case aborted =>
      obtain ⟨t, hexec, hposted⟩ := exec_ldrRwindDone hleaf hstarted hj true
      refine ⟨t, hexec, hposted.of_withoutInjection, ?_, ?_, fun k hk => ?_⟩
      · rw [hposted.leaves, State.withoutInjection_drive hleaf]
        exact LeafDrive.abortInjection_of hj leaf
      · rw [hposted.pat, State.withoutInjection_aborted_portalRun hleaf]
        rcases Nat.mod_two_eq_zero_or_one leaf with h | h <;> simp [PortalRun.again, h]
      · rw [hposted.leaves, State.withoutInjection_leaves_ne hk]
    case complete =>
      obtain ⟨t, hexec, hposted⟩ := exec_ldrRwindDone hleaf hstarted hj false
      have hdrive := State.withoutInjection_drive (s := s) (j := j) hleaf false
      have hrun := State.withoutInjection_complete_portalRun (s := s) (j := j) hleaf
      rw [← hposted.leaves] at hdrive
      rw [← hposted.pat] at hrun
      refine ⟨t, hexec, hposted.of_withoutInjection, congrArg LeafDrive.inj hdrive, congrArg LeafDrive.rwindTemp hdrive,
        congrArg PortalRun.want hrun, congrArg PortalRun.slaveAt hrun, fun k hk => ?_⟩
      rw [hposted.leaves, State.withoutInjection_leaves_ne hk]

end Sys2Proof.Machine
end

section
/-! Decisions of the core die on a bridge die's rail (O4) and on the over-current of leaves and steps (O5): what a decision that is new
makes of its object, and what a row makes of the state with it (R176, R177, R179, R180, R223). -/

namespace Sys2Proof.Machine

/-! What a new decision makes of its object. -/

theorem BridgeDie.uvDeclare_first {d : BridgeDie} (h : d.uvHold = false) (b tick : Nat) : d.uvDeclare b tick =
    ({ d with uvHold := true, uvSince := tick, uvGood := 0 }, [(0x0501, p1 b ++ p2 (d.rail : Nat))]) :=
  if_neg (Bool.eq_false_iff.mp h)

theorem BridgeDie.uvEnd_held {d : BridgeDie} (h : d.uvHold = true) (b tick : Nat) : d.uvEnd b tick =
    ({ d with uvHold := false, uvRun := 0, uvGood := 0 }, [(0x0502, p1 b ++ p4 (tick - d.uvSince : Nat))]) :=
  if_pos h

theorem BridgeDie.ovDeclare_first {d : BridgeDie} (h : d.ovTrip = false) (b : Nat) : d.ovDeclare b =
    ({ d with ovTrip := true, ovGood := 0 }, [(0x0508, p1 b ++ p2 (d.rail : Nat))]) :=
  if_neg (Bool.eq_false_iff.mp h)

theorem LeafDrive.latchOc_first {d : LeafDrive} (h : d.ocLatched = false) (leaf phase : Nat) : d.latchOc leaf phase =
    ({ d with ocLatched := true, ocPhase := phase }, [(0x0503, p1 leaf ++ p1 phase)]) :=
  if_neg (Bool.eq_false_iff.mp h)

theorem StepDrive.latchOc_first {d : StepDrive} (h : d.ocLatched = false) (step phase : Nat) : d.latchOc step phase =
    ({ d with ocLatched := true, ocPhase := phase }, [(0x0703, p1 step ++ p1 phase)]) :=
  if_neg (Bool.eq_false_iff.mp h)

/-! What an operation on one object makes of the state, where it changes the object at hand as g does. -/

theorem State.dieEv_of {s : State} {b : Nat} {f : BridgeDie → BridgeDie × List Ev} {g : BridgeDie → BridgeDie} {evs : List Ev}
    (h : f (s.dies.nth b) = (g (s.dies.nth b), evs)) : s.dieEv b f = (s.die b g).says evs := by
  rw [State.dieEv, h, State.die, State.die, Vector.upd_congr _ _ (fun _ => g (s.dies.nth b)) g rfl]

theorem State.driveEv_of {s : State} {l : Nat} {f : LeafDrive → LeafDrive × List Ev} {g : LeafDrive → LeafDrive} {evs : List Ev}
    (h : f (s.leaves.nth l).drive = (g (s.leaves.nth l).drive, evs)) :
    s.driveEv l f = (s.leaf l (fun x => { x with drive := g x.drive })).says evs := by
  rw [State.driveEv, h, State.leaf, State.leaf, Vector.upd_congr _ _ _ (fun x : Leaf => { x with drive := g x.drive }) rfl]

theorem State.stepEv_of {s : State} {p : Nat} {f : StepDrive → StepDrive × List Ev} {g : StepDrive → StepDrive} {evs : List Ev}
    (h : f (s.steps.nth p) = (g (s.steps.nth p), evs)) : s.stepEv p f = (s.stepD p g).says evs := by
  rw [State.stepEv, h, State.stepD, State.stepD, Vector.upd_congr _ _ (fun _ => g (s.steps.nth p)) g rfl]

/-- The clear of a leaf's latch in a portal state that allows it (R176). -/
theorem State.clrLeafOc_allowed {s : State} {l : Nat} (h : (s.seq.portals.nth (l / 2)).st.clearsOc = true) : s.clrLeafOc l =
    (s.leaf l (fun x => { x with drive := { x.drive with ocLatched := false, ocRun := 0 } })).says [(0x0504, p1 l ++ p1 0)] := by
  rw [State.clrLeafOc, h]
  rfl

theorem State.clrLeafOc_refused {s : State} {l : Nat} (h : (s.seq.portals.nth (l / 2)).st.clearsOc = false) :
    s.clrLeafOc l = s.says [(0x0504, p1 l ++ p1 1)] := by
  rw [State.clrLeafOc, h]
  rfl

/-- The clear of a step's latch in a portal state that allows it (R223). -/
theorem State.clrStepOc_allowed {s : State} {p : Nat} (h : (s.seq.portals.nth p).st.clearsOc = true) : s.clrStepOc p =
    (s.stepD p (fun d => { d with ocLatched := false, ocRun := 0 })).says [(0x0704, p1 p ++ p1 0)] := by
  rw [State.clrStepOc, h]
  rfl

theorem State.clrStepOc_refused {s : State} {p : Nat} (h : (s.seq.portals.nth p).st.clearsOc = false) :
    s.clrStepOc p = s.says [(0x0704, p1 p ++ p1 1)] := by
  rw [State.clrStepOc, h]
  rfl

/-! The rows. -/

/-- A row on one object that runs with the core, by what its change makes of the state. -/
theorem onObject_inCore {n i : Nat} {s t : State} {f : State → State} (hi : i < n) (hcore : s.coreRuns = true) (h : f s = t) :
    onObject n i (s.inCore f) = .next t.flush := by
  rw [onObject_of_lt _ _ _ hi, State.inCore_of _ _ hcore, h]

/-- A row on an object and a part of it that runs with the core. -/
theorem onObjects_inCore {n i m j : Nat} {s t : State} {f : State → State} (hi : i < n) (hj : j < m) (hcore : s.coreRuns = true)
    (h : f s = t) : onObjects n i m j (s.inCore f) = .next t.flush := by
  rw [onObjects_of_lt _ _ _ _ _ hi hj, State.inCore_of _ _ hcore, h]

/-- A row on one object that runs once the configuration is committed. -/
theorem onObject_whenUp {n i : Nat} {s t : State} {f : State → State} (hi : i < n) (hup : s.up = true) (h : f s = t) :
    onObject n i (s.whenUp f) = .next t.flush := by
  rw [onObject_of_lt _ _ _ hi, State.whenUp_of _ _ hup, h]

/-- Settles O4: the core runs, so each row is its decision on the die, and the decision is new. -/
theorem railDecisions : Obligations.RailDecisions := by
  intro s die hdie hcore
  refine ⟨fun hhold => ?uvHold, fun hhold => ?uvResume, fun htrip => ?railOv, ?ovRecovered⟩
  case uvHold => exact onObject_inCore hdie hcore (State.dieEv_of (BridgeDie.uvDeclare_first hhold die s.time.tick))
  case uvResume => exact onObject_inCore hdie hcore (State.dieEv_of (BridgeDie.uvEnd_held hhold die s.time.tick))
  case railOv => exact onObject_inCore hdie hcore (State.dieEv_of (BridgeDie.ovDeclare_first htrip die))
  case ovRecovered => exact onObject_inCore hdie hcore rfl

/-- Settles O5: a latch not set before is set, and a clear is done or refused by the portal's state. -/
theorem overCurrentLatch : Obligations.OverCurrentLatch := by
  refine ⟨fun s leaf phase hleaf hphase hcore hlatched => ?leafLatch, fun s step phase hstep hphase hcore hlatched => ?stepLatch,
    fun s leaf hleaf hup hclears => ?leafCleared, fun s leaf hleaf hup hclears => ?leafRefused,
    fun s step hstep hup hclears => ?stepCleared, fun s step hstep hup hclears => ?stepRefused⟩
  case leafLatch =>
    exact onObjects_inCore hleaf hphase hcore
      (State.driveEv_of (g := fun d => { d with ocLatched := true, ocPhase := phase }) (LeafDrive.latchOc_first hlatched leaf phase))
  case stepLatch =>
    exact onObjects_inCore hstep hphase hcore (State.stepEv_of (StepDrive.latchOc_first hlatched step phase))
  case leafCleared => exact onObject_whenUp hleaf hup (State.clrLeafOc_allowed hclears)
  case leafRefused => exact onObject_whenUp hleaf hup (State.clrLeafOc_refused hclears)
  case stepCleared => exact onObject_whenUp hstep hup (State.clrStepOc_allowed hclears)
  case stepRefused => exact onObject_whenUp hstep hup (State.clrStepOc_refused hclears)

end Sys2Proof.Machine
end

section
/-! Stalls, standstill reduction and homing trips of a step (O6): what a stall and the two trips of an approach leave of the step and of
its move (R219, R220, R228, R229). -/

namespace Sys2Proof.Machine

/-- t is s but for its steps, its moves and what posting changes. -/
def State.StepsPosted (s t : State) : Prop := ({ s with steps := t.steps, moves := t.moves } : State).Posted t

theorem State.StepsPosted.trans {s t u : State} (h : s.StepsPosted t) (k : t.StepsPosted u) : s.StepsPosted u := by
  unfold State.StepsPosted State.Posted at *
  rw [k, h]

theorem State.StepsPosted.of_posted {s t : State} (h : s.Posted t) : s.StepsPosted t := by
  rw [State.StepsPosted, h.steps, h.moves]
  exact h

theorem State.stepD_stepsPosted (p : Nat) (f : StepDrive → StepDrive) (s : State) : s.StepsPosted (s.stepD p f) := rfl

theorem State.move_stepsPosted (a : Nat) (f : Move → Move) (s : State) : s.StepsPosted (s.move a f) := rfl

theorem State.stepEv_stepsPosted (p : Nat) (f : StepDrive → StepDrive × List Ev) (s : State) : s.StepsPosted (s.stepEv p f) :=
  (State.stepD_stepsPosted p _ s).trans (.of_posted (State.says_posted _ _))

theorem State.moveEv_stepsPosted (a : Nat) (f : Move → Move) (s : State) : s.StepsPosted (s.moveEv a f) :=
  (State.move_stepsPosted a _ s).trans (.of_posted (State.says_posted _ _))

@[simp] theorem State.moveEv_steps (a : Nat) (f : Move → Move) (s : State) : (s.moveEv a f).steps = s.steps :=
  State.says_steps _ _

theorem State.moveEv_moves_ne {a b : Nat} (h : b ≠ a) (f : Move → Move) (s : State) :
    (s.moveEv a f).moves.nth b = s.moves.nth b := by
  rw [State.moveEv, State.says_moves, State.move_moves, Vector.nth_upd_ne _ _ _ _ h]

/-! The trip with a switch (R228). -/

/-- A step on the trip of its approach, by the position commanded at the trip. -/
def StepDrive.homeTripped (pos : Int) (d : StepDrive) : StepDrive := { d with homing := .final, tripPos := pos, ignored := 0 }

theorem State.homeTrip_steps (p : Nat) (s : State) :
    (s.homeTrip p).steps = s.steps.upd p (StepDrive.homeTripped (s.moves.nth (16 + p)).pos) := rfl

theorem State.homeTrip_move {p : Nat} (hp : p < 8) (s : State) :
    ((s.homeTrip p).moves.nth (16 + p)).pSet = (s.regs.STP_S_HOME_HOME_POS p : Int) * q16 ∧
    ((s.homeTrip p).moves.nth (16 + p)).target = 0 ∧
    ((s.homeTrip p).moves.nth (16 + p)).vSet = (s.moves.nth (16 + p)).vSet := by
  rw [State.homeTrip, State.move_moves, Vector.nth_upd_same _ _ _ (by omega)]
  exact ⟨rfl, rfl, rfl⟩

theorem State.homeTrip_moves_ne {p a : Nat} (h : a ≠ 16 + p) (s : State) : (s.homeTrip p).moves.nth a = s.moves.nth a :=
  Vector.nth_upd_ne _ _ _ _ h

/-! The trip against the mechanical end (R229). -/

theorem State.homeStallTrip_steps (p : Nat) (s : State) :
    (s.homeStallTrip p).steps = s.steps.upd p (StepDrive.homeTripped (s.moves.nth (16 + p)).pos) :=
  State.moveEv_steps _ _ _

theorem State.homeStallTrip_move {p : Nat} (hp : p < 8) (s : State) :
    ((s.homeStallTrip p).moves.nth (16 + p)).pSet = -(s.regs.STP_S_HOME_HOME_POS p : Int) * q16 ∧
    ((s.homeStallTrip p).moves.nth (16 + p)).target = 0 ∧ ((s.homeStallTrip p).moves.nth (16 + p)).vSet = 0 := by
  rw [State.homeStallTrip, State.move_moves, Vector.nth_upd_same _ _ _ (by omega)]
  exact ⟨rfl, rfl, rfl⟩

theorem State.homeStallTrip_moves_ne {p a : Nat} (h : a ≠ 16 + p) (s : State) :
    (s.homeStallTrip p).moves.nth a = s.moves.nth a := by
  rw [State.homeStallTrip, State.move_moves, Vector.nth_upd_ne _ _ _ _ h, State.moveEv_moves_ne h, State.stepD_moves]

theorem State.homeStallTrip_stepsPosted (p : Nat) (s : State) : s.StepsPosted (s.homeStallTrip p) :=
  ((State.stepD_stepsPosted p _ s).trans (State.moveEv_stepsPosted _ _ _)).trans (State.move_stepsPosted _ _ _)

/-! The stall (R219). -/

/-- A step on a stall, by whether it slipped. -/
def StepDrive.stalled (slip : Bool) (d : StepDrive) : StepDrive :=
  { d with stall := true, stallNew := true, slip := d.slip || slip, homed := d.homed && !slip, stalls := satInc 16 d.stalls,
           stallHold := true }

/-- A stall is flagged on a step: recorded, counted and raised. -/
def State.stallFlagged (p : Nat) (slip : Bool) (s : State) : State := s.stepEv p (StepDrive.flagStall p (s.moves.nth (16 + p)) slip)

theorem State.stallFlagged_eq (p : Nat) (slip : Bool) (s : State) : s.stallFlagged p slip =
    (s.stepD p (StepDrive.stalled slip)).says [(0x0702, p1 p ++ p4 (s.moves.nth (16 + p)).pos ++ p4 ((s.steps.nth p).load : Nat) ++
      p2 ((s.steps.nth p).iRun : Nat) ++ p1 (b2n slip))] :=
  State.stepEv_of rfl

@[simp] theorem State.stallFlagged_steps (p : Nat) (slip : Bool) (s : State) :
    (s.stallFlagged p slip).steps = s.steps.upd p (StepDrive.stalled slip) := by
  rw [State.stallFlagged_eq, State.says_steps, State.stepD_steps]

@[simp] theorem State.stallFlagged_moves (p : Nat) (slip : Bool) (s : State) : (s.stallFlagged p slip).moves = s.moves := by
  rw [State.stallFlagged_eq, State.says_moves, State.stepD_moves]

@[simp] theorem State.stallFlagged_regs (p : Nat) (slip : Bool) (s : State) : (s.stallFlagged p slip).regs = s.regs := by
  rw [State.stallFlagged_eq, State.says_regs, State.stepD_regs]

/-- A step approaches the mechanical end in a homing run, where a stall is the trip. -/
def State.EndApproach (p : Nat) (s : State) : Prop :=
  (s.moves.nth (16 + p)).kind = .home ∧ (s.steps.nth p).homing = .approach ∧ 64 ≤ s.regs.STP_S_CFG_HOME_IN p

/-- The flag of a stall leaves its step's approach as it was. -/
theorem State.endApproach_stallFlagged {p : Nat} (hp : p < 8) (slip : Bool) (s : State) :
    (s.stallFlagged p slip).EndApproach p ↔ s.EndApproach p := by
  rw [State.EndApproach, State.stallFlagged_moves, State.stallFlagged_steps, State.stallFlagged_regs, Vector.nth_upd_same _ _ _ hp]
  rfl

theorem State.stepStall_trips {p : Nat} {s : State} (hp : p < 8) (h : s.EndApproach p) (slip : Bool) :
    s.stepStall p slip = (s.stallFlagged p slip).homeStallTrip p :=
  if_pos ((State.endApproach_stallFlagged hp slip s).mpr h)

theorem State.stepStall_flags {p : Nat} {s : State} (hp : p < 8) (h : ¬ s.EndApproach p) (slip : Bool) :
    s.stepStall p slip = s.stallFlagged p slip :=
  if_neg (mt (State.endApproach_stallFlagged hp slip s).mp h)

/-- The step of a stall that is the trip: stalled first, then tripped. -/
theorem State.stepStall_trips_steps {p : Nat} {s : State} (hp : p < 8) (h : s.EndApproach p) (slip : Bool) :
    (s.stepStall p slip).steps = s.steps.upd p (fun d => (d.stalled slip).homeTripped (s.moves.nth (16 + p)).pos) := by
  rw [State.stepStall_trips hp h, State.homeStallTrip_steps, State.stallFlagged_steps, State.stallFlagged_moves, Vector.upd_upd]

theorem State.stepStall_trips_move {p : Nat} {s : State} (hp : p < 8) (h : s.EndApproach p) (slip : Bool) :
    ((s.stepStall p slip).moves.nth (16 + p)).pSet = -(s.regs.STP_S_HOME_HOME_POS p : Int) * q16 ∧
    ((s.stepStall p slip).moves.nth (16 + p)).target = 0 ∧ ((s.stepStall p slip).moves.nth (16 + p)).vSet = 0 := by
  rw [State.stepStall_trips hp h, ← State.stallFlagged_regs p slip s]
  exact State.homeStallTrip_move hp _

theorem State.stepStall_trips_moves_ne {p a : Nat} {s : State} (hp : p < 8) (h : s.EndApproach p) (ha : a ≠ 16 + p) (slip : Bool) :
    (s.stepStall p slip).moves.nth a = s.moves.nth a := by
  rw [State.stepStall_trips hp h, State.homeStallTrip_moves_ne ha, State.stallFlagged_moves]

theorem State.stepStall_trips_stepsPosted {p : Nat} {s : State} (hp : p < 8) (h : s.EndApproach p) (slip : Bool) :
    s.StepsPosted (s.stepStall p slip) := by
  rw [State.stepStall_trips hp h]
  exact (State.stepEv_stepsPosted p _ s).trans (State.homeStallTrip_stepsPosted p _)

/-! The rows. -/

/-- A row on one object that runs once the stages have started, by what its change makes of the state. -/
theorem onObject_inStage {n i : Nat} {s t : State} {f : State → State} (hi : i < n) (hstarted : s.started = true) (h : f s = t) :
    onObject n i (s.inStage f) = .next t.flush := by
  rw [onObject_of_lt _ _ _ hi, State.inStage_of _ _ hstarted, h]

/-- Settles O6: a stall is flagged, and in the approach against the mechanical end it trips too; a step at rest is reduced; the trip with a
switch keeps the speed of its move. -/
theorem stepDriveEvents : Obligations.StepDriveEvents := by
  intro s p hp hstarted
  refine ⟨fun slip hoff => ?stall, fun slip hkind happroach hend => ?stallTrip, fun hrest => ?reduction, fun happroach => ?trip⟩
  case stall =>
    have hno : ¬ s.EndApproach p := fun ⟨hkind, happroach, hend⟩ =>
      hoff.elim (· hkind) (·.elim (· happroach) (Nat.not_lt.mpr hend))
    exact onObject_inStage hp hstarted ((State.stepStall_flags hp hno slip).trans (State.stallFlagged_eq p slip s))
  case stallTrip =>
    have hat : s.EndApproach p := ⟨hkind, happroach, hend⟩
    have hsteps := State.stepStall_trips_steps hp hat slip
    obtain ⟨hpos, htarget, hspeed⟩ := State.stepStall_trips_move hp hat slip
    have hstep : (s.stepStall p slip).steps.nth p = ((s.steps.nth p).stalled slip).homeTripped (s.moves.nth (16 + p)).pos := by
      rw [hsteps, Vector.nth_upd_same _ _ _ hp]
    refine ⟨{ s with steps := (s.stepStall p slip).steps, moves := (s.stepStall p slip).moves }, (s.stepStall p slip).flush,
      onObject_inStage hp hstarted rfl, State.Posted.trans (State.stepStall_trips_stepsPosted hp hat slip) (State.flush_posted _), rfl,
      congrArg StepDrive.stall hstep, congrArg StepDrive.homing hstep, congrArg StepDrive.tripPos hstep, congrArg StepDrive.stalls hstep,
      hpos, htarget, hspeed, fun q hq => ?_, fun a ha => State.stepStall_trips_moves_ne hp hat ha slip⟩
    rw [hsteps, Vector.nth_upd_ne _ _ _ _ hq]
  case reduction =>
    exact onObject_inStage hp hstarted (if_neg (Bool.eq_false_iff.mp hrest))
  case trip =>
    obtain ⟨hpos, htarget, hspeed⟩ := State.homeTrip_move hp s
    have hstep : (s.homeTrip p).steps.nth p = (s.steps.nth p).homeTripped (s.moves.nth (16 + p)).pos :=
      Vector.nth_upd_same _ _ _ hp
    refine ⟨s.homeTrip p, onObject_inStage hp hstarted (if_pos happroach), rfl, congrArg StepDrive.tripPos hstep,
      congrArg StepDrive.homing hstep, congrArg StepDrive.ignored hstep, hpos, htarget, hspeed, fun q hq => ?_,
      fun a ha => State.homeTrip_moves_ne ha s⟩
    exact Vector.nth_upd_ne _ _ _ _ hq

end Sys2Proof.Machine
end

section
/-! Feedback faults, error windows and zero speed (O7): what a declaration makes of a source whose fault is new and of one whose fault
stands (R248), and which causes the table names (R237, R239; log 14). -/

namespace Sys2Proof.Machine

/-! What a declaration makes of its source: the first cause stands, and one that stands only has its tick renewed (log 29). -/

theorem LeafFbk.declare_first {b : LeafFbk} (h : b.cause = 0) (leaf n cause : Nat) : b.declare leaf n cause =
    ({ b with cause := cause, causeAt := n + 1 }, [(0x0806, p1 leaf ++ p1 cause)]) :=
  if_pos h

theorem LeafFbk.declare_standing {b : LeafFbk} (h : b.cause ≠ 0) (leaf n cause : Nat) : b.declare leaf n cause =
    ({ b with causeAt := n + 1 }, []) :=
  if_neg h

theorem EncFbk.declare_first {e : EncFbk} (h : e.cause = 0) (port n cause : Nat) : e.declare port n cause =
    ({ e with cause := cause, causeAt := n + 1 }, [(0x0806, p1 port ++ p1 cause)]) :=
  if_pos h

theorem EncFbk.declare_standing {e : EncFbk} (h : e.cause ≠ 0) (port n cause : Nat) : e.declare port n cause =
    ({ e with causeAt := n + 1 }, []) :=
  if_neg h

/-! The rows. -/

/-- A fault row whose source and cause the table names, once the stages have started, by what its change makes of the state. -/
theorem onFault_inStage {n i lo hi cause : Nat} {s t : State} {f : State → State} (hsource : i < n) (hlo : lo ≤ cause) (hhi : cause ≤ hi)
    (hstarted : s.started = true) (h : f s = t) : onFault n i lo hi cause (s.inStage f) = .next t.flush := by
  rw [onFault, if_pos ⟨hsource, hlo, hhi⟩, State.inStage_of _ _ hstarted, h]

theorem onFault_of_cause_outside {lo hi cause : Nat} (h : cause < lo ∨ hi < cause) (n i : Nat) (t : State) :
    onFault n i lo hi cause t = .fault .noSuchObject :=
  if_neg fun ⟨_, hlo, hhi⟩ => h.elim (Nat.not_lt.mpr hlo) (Nat.not_lt.mpr hhi)

/-- FBK_HALL_FAULT by what the declaration makes of the leaf's feedback. -/
theorem exec_fbkHallFault {s : State} {leaf cause : Nat} {b : LeafFbk} {evs : List Ev} (hleaf : leaf < 16) (hlo : 1 ≤ cause)
    (hhi : cause ≤ 3) (hstarted : s.started = true) (h : (s.leaves.nth leaf).fbk.declare leaf s.time.tick cause = (b, evs)) :
    exec (.fbkHallFault leaf cause) s = .next ((s.leaf leaf (fun x => { x with fbk := b })).says evs).flush :=
  onFault_inStage hleaf hlo hhi hstarted (by rw [h])

/-- FBK_ENCODER_FAULT by what the declaration makes of the port. -/
theorem exec_fbkEncoderFault {s : State} {port cause : Nat} {e : EncFbk} {evs : List Ev} (hport : port < 8) (hlo : 4 ≤ cause)
    (hhi : cause ≤ 5) (hstarted : s.started = true) (h : (s.encs.nth port).declare port s.time.tick cause = (e, evs)) :
    exec (.fbkEncoderFault port cause) s =
      .next (({ s with encs := s.encs.upd port (fun _ => e) } : State).says evs).flush :=
  onFault_inStage hport hlo hhi hstarted (by rw [h])

/-- Settles O7: a declaration is new or finds one that stands, a cause outside the table names no fault, and the other rows change their
source alone. -/
theorem feedbackEvents : Obligations.FeedbackEvents := by
  refine ⟨fun s leaf cause hleaf hlo hhi hstarted hnew => ?hallNew, fun s leaf cause hleaf hlo hhi hstarted hstands => ?hallStands,
    fun s port cause hport hlo hhi hstarted hnew => ?encNew, fun s port cause hport hlo hhi hstarted hstands => ?encStands,
    fun s i cause => ⟨fun hout => ?hallOutside, fun hout => ?encOutside⟩, fun s leaf hleaf hstarted => ?leafWindow,
    fun s port hport hstarted => ?portWindow, fun s leaf hleaf hstarted => ?zeroSpeed⟩
  case hallNew => exact exec_fbkHallFault hleaf hlo hhi hstarted (LeafFbk.declare_first hnew leaf s.time.tick cause)
  case hallStands =>
    rw [exec_fbkHallFault hleaf hlo hhi hstarted (LeafFbk.declare_standing hstands leaf s.time.tick cause), State.says_nil, State.leaf]
  case encNew => exact exec_fbkEncoderFault hport hlo hhi hstarted (EncFbk.declare_first hnew port s.time.tick cause)
  case encStands =>
    rw [exec_fbkEncoderFault hport hlo hhi hstarted (EncFbk.declare_standing hstands port s.time.tick cause), State.says_nil]
  case hallOutside => exact onFault_of_cause_outside hout _ _ _
  case encOutside => exact onFault_of_cause_outside hout _ _ _
  case leafWindow => exact onObject_inStage hleaf hstarted rfl
  case portWindow => exact onObject_inStage hport hstarted rfl
  case zeroSpeed => exact onObject_inStage hleaf hstarted rfl

end Sys2Proof.Machine
end

section
/-! The patina's save and its commands on a quantity (O41): which words of a memory a save, a THAW and a PROP_READ leave as they are, what
the state holds after each command, and how a command's parameter is read (R263 to R265). -/

namespace Sys2Proof.Machine

/-! Words that no write is for. -/

theorem lookupKey_insertKey_ne {α : Type} {k a : Nat} (h : a ≠ k) (v : α) (l : List (Nat × α)) :
    lookupKey a (insertKey k v l) = lookupKey a l := by
  induction l with
  | nil => simp [insertKey, lookupKey, Ne.symm h]
  | cons d l ih =>
    obtain ⟨j, w⟩ := d
    unfold insertKey
    split
    · simp [lookupKey, ih]
    · split
      · subst_vars
        simp [lookupKey, Ne.symm h]
      · simp [lookupKey, Ne.symm h]

theorem lookupKey_eraseKey_ne {α : Type} {k a : Nat} (h : a ≠ k) (l : List (Nat × α)) :
    lookupKey a (eraseKey k l) = lookupKey a l := by
  induction l with
  | nil => rfl
  | cons d l ih =>
    obtain ⟨j, w⟩ := d
    unfold eraseKey
    split
    · subst_vars
      simp [lookupKey, Ne.symm h]
    · simp [lookupKey, ih]

/-- Setting a word leaves every other word, in whatever order the words are listed. -/
theorem Memory.word_setWord_ne {k w : Nat} (h : k ≠ w) (x : MemWord) (m : Memory) : (m.setWord w x).word k = m.word k := by
  unfold Memory.word
  rw [Memory.setWord_background]
  unfold Memory.setWord
  split
  · rw [lookupKey_eraseKey_ne h]
  · rw [lookupKey_insertKey_ne h]

theorem MemUnit.place_word_ne {k w : Nat} (h : k ≠ w) (m agent : Nat) (x : MemWord) (u : MemUnit) :
    (u.place m agent w x).store.word k = u.store.word k := by
  unfold MemUnit.place
  split <;> exact Memory.word_setWord_ne h _ _

/-- Words written in turn leave the words before the first and after the last. -/
theorem MemUnit.writeWords_word_outside (m agent : Nat) {k : Nat} (l : List (DWord × Bool)) (u : MemUnit) (w : Nat)
    (h : k < w ∨ w + l.length ≤ k) : (u.writeWords m agent w l).store.word k = u.store.word k := by
  induction l generalizing u w with
  | nil => rfl
  | cons x l ih =>
    rw [List.length_cons] at h
    have hrest := ih (u.writeCopy m agent w x.1 x.2) (w + 1) (by omega)
    have hfirst : (u.writeCopy m agent w x.1 x.2).store.word k = u.store.word k := MemUnit.place_word_ne (by omega) m agent _ u
    exact hrest.trans hfirst

/-- A word written whole with free data, and the number of the next free value (log 45). -/
def MemUnit.writeFree (m agent : Nat) (a : MemUnit × Nat) (w : Nat) : MemUnit × Nat :=
  (a.1.writeFull m agent w (BitVec.ofNat 64 (Config.freeValue a.2)), a.2 + 1)

theorem MemUnit.writeFree_word_of_not_mem (m agent : Nat) {k : Nat} {ws : List Nat} (h : k ∉ ws) (a : MemUnit × Nat) :
    (ws.foldl (MemUnit.writeFree m agent) a).1.store.word k = a.1.store.word k := by
  induction ws generalizing a with
  | nil => rfl
  | cons w ws ih =>
    obtain ⟨hw, hws⟩ := not_or.mp (mt List.mem_cons.mpr h)
    exact (ih hws _).trans (MemUnit.place_word_ne hw m agent _ a.1)

/-! The save (R265, R408). -/

/-- The words of memory 1 that a save to a bank writes: one that an armed injection meets, and those that were bad. -/
def State.sectionWrites (bank : Nat) (s : State) : List Nat :=
  (if s.mem1.activity = .injection ∧ (s.mem1.injAny ∨ inSection bank (s.mem1.injAddr / 8)) then
    [if s.mem1.injAny then 0x7C0000 + 0x20000 * bank + 0x14000 else s.mem1.injAddr / 8] else []) ++ s.badSection bank

/-- Memory 1 and the count of free values as a save to a bank leaves them. -/
def State.sectionWritten (bank : Nat) (s : State) : MemUnit × Nat :=
  (s.sectionWrites bank).foldl (MemUnit.writeFree 1 9) (s.mem1, s.freeCount)

theorem State.putSection_eq (bank : Nat) (x : Section) (s : State) : s.putSection bank x = { s with
    mem1 := (s.sectionWritten bank).1, freeCount := (s.sectionWritten bank).2
    pat := { s.pat with sections := s.pat.sections.put bank (some x) } } := rfl

theorem State.inSection_of_mem_sectionWrites {bank w : Nat} {s : State} (h : w ∈ s.sectionWrites bank) : inSection bank w = true := by
  rcases List.mem_append.mp h with hhit | hbad
  case inl =>
    split at hhit
    case isTrue hmet =>
      rw [List.mem_singleton] at hhit
      by_cases hany : s.mem1.injAny = true
      · rw [hhit, if_pos hany]
        simp [inSection]
      · rw [hhit, if_neg hany]
        exact hmet.2.resolve_left hany
    case isFalse => exact absurd hhit List.not_mem_nil
  case inr =>
    obtain ⟨c, hc, rfl⟩ := List.mem_map.mp hbad
    exact (Bool.and_eq_true_iff.mp (List.mem_filter.mp hc).2).1

theorem State.sectionWritten_word {bank w : Nat} (h : inSection bank w = false) (s : State) :
    (s.sectionWritten bank).1.store.word w = s.mem1.store.word w :=
  MemUnit.writeFree_word_of_not_mem 1 9 (fun hw => Bool.eq_false_iff.mp h (State.inSection_of_mem_sectionWrites hw)) _

theorem State.sectionWritten_of_clean {bank : Nat} {s : State} (hidle : s.mem1.activity ≠ .injection) (hclean : s.badSection bank = []) :
    s.sectionWritten bank = (s.mem1, s.freeCount) := by
  have hnone : s.sectionWrites bank = [] := by rw [State.sectionWrites, if_neg (fun h => hidle h.1), hclean, List.append_nil]
  rw [State.sectionWritten, hnone, List.foldl_nil]

theorem State.patSave_of_keeps {s : State} (h : s.patKeeps = true) : s.patSave = { s with
    pat := { s.pat with saveAsked := false, cycleEnds := 0
                        sections := s.pat.sections.put s.cfg.bank (some ⟨s.cfg.id, true, s.pat.st, s.patArms⟩) }
    mem1 := (s.sectionWritten s.cfg.bank).1, freeCount := (s.sectionWritten s.cfg.bank).2 } :=
  if_pos h

theorem State.patSave_of_not_keeps {s : State} (h : s.patKeeps = false) :
    s.patSave = { s with pat := { s.pat with saveAsked := false, cycleEnds := 0 } } :=
  if_neg (Bool.eq_false_iff.mp h)

theorem exec_patStateSave {s : State} (h : s.started = true) : exec .patStateSave s = .next s.patSave.flush :=
  congrArg Host.Outcome.next (State.inStage_of _ _ h)

/-! A portal's quantities, Q5 to Q11 (R258). -/

section
variable {q p : Nat}

theorem quantPortal_portal (hq : 5 ≤ q) : quantPortal q p = p := if_neg (by omega)

theorem State.quant_setQuant_portal (hq : 5 ≤ q) (hq' : q ≤ 11) (hp : p < 8) (x : Quant) (s : State) :
    (s.setQuant q p x).quant q p = x := by
  have hne : q ≠ 4 := by omega
  rw [State.setQuant, if_neg hne, State.quant, if_neg hne]
  show ((s.pat.st.portals.upd p _).nth p).qs.nth (q - 5) = x
  rw [Vector.nth_upd_same _ _ _ hp]
  exact Vector.nth_put_same _ _ _ (by omega)

/-- A change of a portal's trends alone changes no quantity. -/
theorem State.quant_trends (hq : 5 ≤ q) (hp : p < 8) (f : PatPortal → Vector Trend 8) (s : State) :
    (s.patPortal p (fun y => { y with trends := f y })).quant q p = s.quant q p := by
  have hne : q ≠ 4 := by omega
  rw [State.quant, if_neg hne, State.quant, if_neg hne]
  show ((s.pat.st.portals.upd p _).nth p).qs.nth (q - 5) = _
  rw [Vector.nth_upd_same _ _ _ hp]

theorem State.proposal_portal (hq : 5 ≤ q) (s : State) :
    s.proposal q p = if (s.quant q p).pending then some (s.quant q p).pseq else none := if_neg (by omega)

theorem State.frozen_portal (hq : 5 ≤ q) (s : State) : s.frozen q p = (s.quant q p).frozen := if_neg (by omega)

theorem State.patAccept_portal (hq : 5 ≤ q) (s : State) : s.patAccept q p = s.setQuant q p { s.quant q p with
    pending := false, prop := 0, inUse := some (s.quant q p).prop, datum := some (s.quant q p).prop } := if_neg (by omega)

theorem State.patRefuse_portal (hq : 5 ≤ q) (s : State) : s.patRefuse q p = s.setQuant q p { s.quant q p with
    pending := false, frozen := true, prop := 0 } := if_neg (by omega)

theorem State.patThaw_portal (hq : 5 ≤ q) (s : State) : s.patThaw q p =
    ((s.quantClean q p).setQuant q p { s.quant q p with frozen := false }).patPortal p (fun y =>
      { y with trends := y.trends.upd (trendPlace q) Trend.restart }) := by
  have h4 : ¬ q < 4 := by omega
  have hne : q ≠ 4 := by omega
  rw [State.patThaw, if_neg h4, if_neg hne, State.setFrozen, if_neg h4]
  rfl

theorem State.patThaw_quant (hq : 5 ≤ q) (hq' : q ≤ 11) (hp : p < 8) (s : State) :
    (s.patThaw q p).quant q p = { s.quant q p with frozen := false } := by
  rw [State.patThaw_portal hq, State.quant_trends hq hp, State.quant_setQuant_portal hq hq' hp]

theorem State.setQuant_portal_frame (hq : 5 ≤ q) (x : Quant) (s : State) :
    s.setQuant q p x = { s with pat := (s.setQuant q p x).pat } := by
  rw [State.setQuant, if_neg (by omega)]
  rfl

/-- THAW changes the patina, and clears bad words of memory 0 (R264). -/
theorem State.patThaw_frame (hq : 5 ≤ q) (s : State) : s.patThaw q p =
    { s with pat := (s.patThaw q p).pat, mem0 := (s.patThaw q p).mem0, freeCount := (s.patThaw q p).freeCount } := by
  rw [State.patThaw_portal hq, State.setQuant_portal_frame hq]
  rfl

end

/-! A leaf's armature, Q0 to Q3, and PROP_READ (R263). -/

theorem quantPortal_leaf {q l : Nat} (hq : q < 4) : quantPortal q l = l / 2 := if_pos (by omega)

theorem State.proposal_leaf {q l : Nat} (hq : q < 4) (s : State) :
    s.proposal q l = if (s.armQ q l).pending then some (s.armQ q l).pseq else none := if_pos hq

theorem State.propRead_frame (q l page port : Nat) (s : State) : (s.propRead q l page port).1 =
    { s with mem0 := (s.propRead q l page port).1.mem0, hif := s.hif.setOwner page (hostOf port) } := by
  rw [State.propRead]

theorem State.propRead_word {w page : Nat} (h : w / 512 ≠ page) (q l port : Nat) (s : State) :
    (s.propRead q l page port).1.mem0.store.word w = s.mem0.store.word w :=
  MemUnit.writeWords_word_outside 0 14 _ s.mem0 (512 * page) (by rw [List.length_map, List.length_range]; omega)

/-! The parameter and the right (R263). -/

theorem bitsOf_proposalParam {q n : Nat} (hq : q < 16) (hn : n < 256) {x : Word} (hx : x = BitVec.ofNat 32 (q + 2 ^ 24 * n)) :
    bitsOf x.toNat 3 0 = q ∧ bitsOf x.toNat 11 4 = 0 ∧ bitsOf x.toNat 23 22 = 0 ∧ bitsOf x.toNat 31 24 = n := by
  have hval : x.toNat = q + 16777216 * n := by
    rw [hx, BitVec.toNat_ofNat]
    omega
  simp only [hval, bitsOf, Nat.shiftRight_eq_div_pow]
  omega

theorem bitsOf_pageParam {q page : Nat} (hq : q < 16) (hpage : page < 1024) {x : Word}
    (hx : x = BitVec.ofNat 32 (q + 4096 * page)) :
    bitsOf x.toNat 3 0 = q ∧ bitsOf x.toNat 11 4 = 0 ∧ bitsOf x.toNat 23 22 = 0 ∧ bitsOf x.toNat 21 12 = page := by
  have hval : x.toNat = q + 4096 * page := by
    rw [hx, BitVec.toNat_ofNat]
    omega
  simp only [hval, bitsOf, Nat.shiftRight_eq_div_pow]
  omega

/-- A PAT command that is judged at once (log 9): it names quantity q of an object that has it, leaves the free bits of its parameter 0, and
comes from a port with the SERVICE group of the object's bank (R263). -/
structure State.GrantsPat (s : State) (c : Cmd) (q : Nat) : Prop where
  port : c.port < 2
  ring : c.ring < 64
  up : s.up = true
  quant : bitsOf c.param.toNat 3 0 = q
  low : bitsOf c.param.toNat 11 4 = 0
  high : bitsOf c.param.toNat 23 22 = 0
  target : (q ≤ 4 ∧ c.level = 1 ∧ c.index < 16) ∨ (4 < q ∧ q ≤ 11 ∧ c.level = 2 ∧ c.index < 8)
  auth : serviceAuth s.regs c.port (bankOf s.regs (quantPortal q c.index)) = true

section
variable {s : State} {c : Cmd} {q : Nat} (h : s.GrantsPat c q)
include h

theorem State.GrantsPat.target_ok : ((decide (q ≤ 4) && decide (c.level = 1) && decide (c.index < 16)) ||
    (decide (4 < q) && decide (q ≤ 11) && decide (c.level = 2) && decide (c.index < 8))) = true := by
  simpa [and_assoc] using h.target

theorem State.GrantsPat.hostCmd_patCmd (code : Nat) :
    hostCmd (fun j => State.patCmd j code) c s = .next (s.patCmd ⟨0, s.time.tick, c⟩ code).flush :=
  hostCmd_of _ c s h.port h.ring h.up

theorem State.GrantsPat.exec_accept {n : Nat} (hn : bitsOf c.param.toNat 31 24 = n) (hprop : s.proposal q c.index = some n) :
    exec (.accept c) s = .next (((s.patAccept q c.index).says
      [(0x0903, p1 c.index ++ p1 q ++ p4 (n : Nat) ++ p1 c.port)]).finish ⟨⟨0, s.time.tick, c⟩, 0, 0⟩).flush :=
  (h.hostCmd_patCmd 1).trans (by simp [State.patCmd, h.quant, h.low, h.high, h.auth, h.target_ok, hn, hprop])

theorem State.GrantsPat.exec_refuse {n : Nat} (hn : bitsOf c.param.toNat 31 24 = n) (hprop : s.proposal q c.index = some n) :
    exec (.refuse c) s = .next (((s.patRefuse q c.index).says
      [(0x0904, p1 c.index ++ p1 q ++ p4 (n : Nat) ++ p1 c.port)]).finish ⟨⟨0, s.time.tick, c⟩, 0, 0⟩).flush :=
  (h.hostCmd_patCmd 2).trans (by simp [State.patCmd, h.quant, h.low, h.high, h.auth, h.target_ok, hn, hprop])

/-- Without a pending proposal there is nothing to accept (code 1) or refuse (code 2). -/
theorem State.GrantsPat.answered_no_proposal {code : Nat} (hcode : code = 1 ∨ code = 2) (hprop : s.proposal q c.index = none) :
    s.Answered (hostCmd (fun j => State.patCmd j code) c s) c 2 0 := by
  refine (h.hostCmd_patCmd code).trans ?_
  rcases hcode with rfl | rfl <;> simp [State.patCmd, h.quant, hprop]

theorem State.GrantsPat.exec_thaw (hfrozen : s.frozen q c.index = true) :
    exec (.thaw c) s = .next ((s.patThaw q c.index).finish ⟨⟨0, s.time.tick, c⟩, 0, 0⟩).flush :=
  (h.hostCmd_patCmd 3).trans (by simp [State.patCmd, h.quant, h.low, h.high, h.auth, h.target_ok, hfrozen])

theorem State.GrantsPat.exec_propRead {page : Nat} (hpage : bitsOf c.param.toNat 21 12 = page) (hq : q < 4)
    (hprop : (s.proposal q c.index).isSome = true) (howner : s.hif.owner page = 0) (hbusy : s.hif.busy.testBit page = false) :
    exec (.propRead c) s = .next ((s.propRead q c.index page c.port).1.finish ⟨⟨0, s.time.tick, c⟩, 0, 0⟩).flush := by
  have hleaf : ¬ 3 < q := by omega
  have hsome := Option.isSome_iff_ne_none.mp hprop
  exact (h.hostCmd_patCmd 4).trans
    (by simp [State.patCmd, h.quant, h.low, h.high, h.auth, h.target_ok, hpage, hleaf, hsome, howner, hbusy])

end

/-- Settles O41: a save where an image is in force and where none is, the commands on a portal's quantity by the proposal that stands,
and the page that a PROP_READ writes. -/
theorem patinaCommands : Obligations.PatinaCommands := by
  refine ⟨fun s hstarted => ⟨fun hkeeps => ?save, fun hskips => ?noSave⟩,
    fun s c q n hport hring hup hq hq' hn hlevel hindex hparam hauth => ?portal,
    fun s c q page hport hring hup hq hpage hlevel hindex hparam hauth hpending howner hbusy => ?read⟩
  case save =>
    refine ⟨s.patSave, exec_patStateSave hstarted, ?_⟩
    rw [State.patSave_of_keeps hkeeps]
    refine ⟨rfl, fun w hw => State.sectionWritten_word hw s, fun hidle hclean => ?_⟩
    rw [State.sectionWritten_of_clean hidle hclean]
    exact ⟨rfl, rfl⟩
  case noSave => rw [exec_patStateSave hstarted, State.patSave_of_not_keeps hskips]
  case portal =>
    obtain ⟨hquant, hlow, hhigh, hnumber⟩ := bitsOf_proposalParam (by omega) hn hparam
    have hgrants : s.GrantsPat c q := ⟨hport, hring, hup, hquant, hlow, hhigh, .inr ⟨hq, hq', hlevel, hindex⟩,
      (quantPortal_portal hq).symm ▸ hauth⟩
    refine ⟨fun hpending hpseq => ?pending, fun hnone => ?noProposal, fun hfrozen => ?frozen⟩
    case pending =>
      have hprop : s.proposal q c.index = some n := by rw [State.proposal_portal hq, if_pos hpending, hpseq]
      rw [hgrants.exec_accept hnumber hprop, State.patAccept_portal hq, hgrants.exec_refuse hnumber hprop, State.patRefuse_portal hq]
      exact ⟨rfl, rfl⟩
    case noProposal =>
      have hprop : s.proposal q c.index = none := by rw [State.proposal_portal hq, if_neg (Bool.eq_false_iff.mp hnone)]
      exact ⟨hgrants.answered_no_proposal (.inl rfl) hprop, hgrants.answered_no_proposal (.inr rfl) hprop⟩
    case frozen =>
      have hthawed := State.patThaw_quant hq hq' hindex s
      exact ⟨s.patThaw q c.index, hgrants.exec_thaw ((State.frozen_portal hq s).trans hfrozen), State.patThaw_frame hq s,
        congrArg Quant.frozen hthawed, by rw [hthawed]⟩
  case read =>
    obtain ⟨hquant, hlow, hhigh, hplace⟩ := bitsOf_pageParam (by omega) hpage hparam
    have hgrants : s.GrantsPat c q := ⟨hport, hring, hup, hquant, hlow, hhigh, .inl ⟨by omega, hlevel, hindex⟩,
      (quantPortal_leaf hq).symm ▸ hauth⟩
    have hprop : (s.proposal q c.index).isSome = true := by rw [State.proposal_leaf hq, if_pos hpending, Option.isSome_some]
    exact ⟨(s.propRead q c.index page c.port).1, hgrants.exec_propRead hplace hq hprop howner hbusy,
      State.propRead_frame q c.index page c.port s, fun w hw => State.propRead_word hw q c.index c.port s⟩

end Sys2Proof.Machine
end

section
/-! The channels of the switch die (O11, O13, O14): what a change of one channel, of a group's channels and of those on a DIM pin leaves as
it is, and how a try is booked (R273 to R284). -/

namespace Sys2Proof.Machine

/-! One channel. -/

/-- A channel that has kept its state, its unbooked trip and its tries (R275, R277). -/
structure Chan.Stands (c e : Chan) : Prop where
  st : e.st = c.st
  trip : e.trip = c.trip
  tries : e.tries = c.tries

theorem Chan.Stands.refl (c : Chan) : c.Stands c := ⟨rfl, rfl, rfl⟩

theorem Chan.Stands.trans {a b c : Chan} (h : a.Stands b) (k : b.Stands c) : a.Stands c :=
  ⟨k.st.trans h.st, k.trip.trans h.trip, k.tries.trans h.tries⟩

theorem Chan.gate_stands (allows : Bool) (c : Chan) : c.Stands (c.gate allows) := ⟨rfl, rfl, rfl⟩

/-- A channel does not conduct with an unbooked trip, nor outside INRUSH and ON. -/
theorem Chan.gate_off {c : Chan} (h : c.trip = true ∨ c.st.isOn = false) (allows : Bool) : (c.gate allows).cond = false := by
  rcases h with h | h <;> simp [Chan.gate, h]

theorem Chan.dropOpenLoad_stands (k : Nat) (c : Chan) : c.Stands (c.dropOpenLoad k).1 := by
  unfold Chan.dropOpenLoad
  split <;> exact ⟨rfl, rfl, rfl⟩

theorem Chan.leave_stands (k : Nat) (st : ChState) (c : Chan) : ({ c with st := st } : Chan).Stands (c.leave k st).1 := by
  have hset : ({ c with st := st } : Chan).Stands { c with st := st, window := 0, settle := 0 } := ⟨rfl, rfl, rfl⟩
  exact hset.trans (Chan.dropOpenLoad_stands k _)

/-- Outside ON the timers of a microsecond change no state. -/
theorem Chan.timers_stands {c : Chan} (h : c.st ≠ .on) (k : Nat) (x : ChSet) (amp : Int) : c.Stands (c.timers k x amp).1 := by
  simp only [Chan.timers, h, false_and, if_false]
  exact ⟨rfl, rfl, rfl⟩

/-- What a booked try leaves of channel c: one try more, no trip unbooked, and PAUSE, COOL or LATCHED (R277, R281). -/
structure Chan.Booked (c e : Chan) : Prop where
  tries : e.tries = c.tries + 1
  trip : e.trip = false
  st : e.st = .pause ∨ e.st = .cool ∨ e.st = .latched

theorem Chan.Booked.of_stands {c e e' : Chan} (h : c.Booked e) (k : e.Stands e') : c.Booked e' :=
  ⟨k.tries.trans h.tries, k.trip.trans h.trip, k.st ▸ h.st⟩

theorem Chan.Stands.booked {c c' e : Chan} (k : c.Stands c') (h : c'.Booked e) : c.Booked e :=
  ⟨k.tries ▸ h.tries, h.trip, h.st⟩

theorem Chan.Booked.isOn {c e : Chan} (h : c.Booked e) : e.st.isOn = false := by
  rcases h.st with h | h | h <;> rw [h] <;> rfl

theorem Chan.Booked.ne_on {c e : Chan} (h : c.Booked e) : e.st ≠ .on :=
  fun hon => Bool.false_ne_true (h.isOn.symm.trans (congrArg ChState.isOn hon))

theorem Chan.bookTry_booked (k : Nat) (x : ChSet) (hot oc : Bool) (c : Chan) : c.Booked (c.bookTry k x hot oc).1 := by
  refine Chan.Booked.of_stands ⟨rfl, rfl, ?_⟩ (Chan.leave_stands k _ _)
  dsimp only
  split
  · exact .inr (.inr rfl)
  · split
    · exact .inr (.inl rfl)
    · exact .inl rfl

/-- An unbooked trip or the thermal shutdown outranks all else that an evaluation can find (R276). -/
theorem Chan.judge_booked {c : Chan} {oc : Bool} (hon : c.st.isOn = true) (h : oc = true ∨ hotFrom ≤ c.temp) (k : Nat) (x : ChSet)
    (uv : Bool) : c.Booked (c.judge k x uv oc).1 := by
  rw [Chan.judge, if_pos ⟨hon, h.imp_right decide_eq_true⟩]
  exact Chan.bookTry_booked k x _ oc c

theorem Chan.evaluate_booked {c : Chan} {temp : Int} (hon : c.st.isOn = true) (h : c.trip = true ∨ hotFrom ≤ temp) (f : RegFile)
    (k : Nat) (uv : Bool) (dim : Nat) (amp : Int) :
    c.Booked (c.evaluate f k uv dim amp temp).1 ∧ (c.evaluate f k uv dim amp temp).1.cond = false := by
  have hsample : c.Stands (c.sample amp temp) := ⟨rfl, rfl, rfl⟩
  have hoc : (c.trip || (c.cond && decide ((c.level (chSet f k) : Int) ≤ amp))) = true ∨ hotFrom ≤ (c.sample amp temp).temp :=
    h.imp_left fun h => by rw [h, Bool.true_or]
  have hjudged := (hsample.booked (Chan.judge_booked (c := c.sample amp temp) hon hoc k (chSet f k) uv)).of_stands
    (Chan.gate_stands (dimAllows f (chSet f k) dim) _)
  have htimed := hjudged.of_stands (Chan.timers_stands hjudged.ne_on k (chSet f k) amp)
  exact ⟨htimed.of_stands (Chan.gate_stands _ _), Chan.gate_off (.inr htimed.isOn) _⟩

theorem Chan.railLost_booked {c : Chan} (hon : c.st.isOn = true) (h : c.trip = true ∨ hotFrom ≤ c.temp) (k : Nat) (x : ChSet) :
    c.Booked (c.railLost k x).1 := by
  rw [Chan.railLost, if_neg (by simp [hon]), if_pos h]
  exact Chan.bookTry_booked k x _ _ c

theorem Chan.railLost_uvOff {c : Chan} (hon : c.st.isOn = true) (htrip : c.trip = false) (hcool : c.temp < hotFrom) (k : Nat) (x : ChSet) :
    ({ c with st := .uvOff } : Chan).Stands (c.railLost k x).1 := by
  rw [Chan.railLost, if_neg (by simp [hon]), if_neg (by simp [htrip, hcool])]
  exact Chan.leave_stands k .uvOff c

/-! Changes of channels alone. -/

/-- e is d but for channels and reports, and the reports of d stand in it still. -/
structure SwitchDie.ChansOnly (d e : SwitchDie) : Prop where
  frame : e = { d with chans := e.chans, reports := e.reports }
  reports : d.reports ⊆ e.reports

theorem SwitchDie.ChansOnly.refl (d : SwitchDie) : d.ChansOnly d := ⟨rfl, List.Subset.refl _⟩

theorem SwitchDie.ChansOnly.trans {a b c : SwitchDie} (h : a.ChansOnly b) (k : b.ChansOnly c) : a.ChansOnly c := by
  refine ⟨?_, List.Subset.trans h.reports k.reports⟩
  rw [k.frame, h.frame]

theorem SwitchDie.ChansOnly.groups {d e : SwitchDie} (h : d.ChansOnly e) : e.groups = d.groups := (congrArg SwitchDie.groups h.frame :)
theorem SwitchDie.ChansOnly.dim {d e : SwitchDie} (h : d.ChansOnly e) : e.dim = d.dim := (congrArg SwitchDie.dim h.frame :)
theorem SwitchDie.ChansOnly.dimUs {d e : SwitchDie} (h : d.ChansOnly e) : e.dimUs = d.dimUs := (congrArg SwitchDie.dimUs h.frame :)

/-- Every channel of d still stands as it did. -/
def SwitchDie.ChansStand (d e : SwitchDie) : Prop := ∀ k, (d.chans.nth k).Stands (e.chans.nth k)

theorem SwitchDie.ChansStand.refl (d : SwitchDie) : d.ChansStand d := fun _ => Chan.Stands.refl _

theorem SwitchDie.ChansStand.trans {a b c : SwitchDie} (h : a.ChansStand b) (k : b.ChansStand c) : a.ChansStand c :=
  fun i => (h i).trans (k i)

/-- Whether a channel's DIM selection lets it conduct (R273). -/
def SwitchDie.allows (k : Nat) (d : SwitchDie) : Bool := dimAllows d.settings (chSet d.settings k) d.dim

section
variable (d : SwitchDie) (k : Nat) (f : Chan → Chan × List Ev)

theorem SwitchDie.chan_nth_same (h : k < 48) : (d.chan k f).chans.nth k = (f (d.chans.nth k)).1.gate (d.allows k) :=
  Vector.nth_put_same _ _ _ h

theorem SwitchDie.chan_nth_ne {j : Nat} (h : j ≠ k) : (d.chan k f).chans.nth j = d.chans.nth j := Vector.nth_put_ne _ _ _ _ h

theorem SwitchDie.chan_chansOnly : d.ChansOnly (d.chan k f) := ⟨rfl, List.subset_append_left _ _⟩

theorem SwitchDie.chan_chansStand (h : ∀ c : Chan, c.Stands (f c).1) : d.ChansStand (d.chan k f) := by
  intro j
  by_cases hj : j = k
  · subst hj
    rcases Nat.lt_or_ge j 48 with hlt | hge
    · rw [SwitchDie.chan_nth_same d j f hlt]
      exact (h _).trans (Chan.gate_stands _ _)
    · rw [Vector.nth_of_le _ _ hge, Vector.nth_of_le _ _ hge]
      exact Chan.Stands.refl _
  · rw [SwitchDie.chan_nth_ne d k f hj]
    exact Chan.Stands.refl _

end

/-- A change of a channel that reports nothing changes the channel alone. -/
theorem SwitchDie.chan_silent (k : Nat) (f : Chan → Chan) (d : SwitchDie) :
    d.chan k (fun c => (f c, [])) = { d with chans := (d.chan k (fun c => (f c, []))).chans } := by
  simp [SwitchDie.chan]

/-! The channels of a group. -/

/-- A change of channels i of group g, in their order, by the settings. -/
def SwitchDie.onGroup (g : Nat) (f : RegFile → Nat → Chan → Chan × List Ev) (l : List Nat) (d : SwitchDie) : SwitchDie :=
  l.foldl (fun d i => d.chan (8 * g + i) (f d.settings i)) d

section
variable (g : Nat) (f : RegFile → Nat → Chan → Chan × List Ev)

theorem SwitchDie.onGroup_chansOnly (l : List Nat) (d : SwitchDie) : d.ChansOnly (d.onGroup g f l) :=
  foldl_keeps SwitchDie.ChansOnly SwitchDie.ChansOnly.refl SwitchDie.ChansOnly.trans _
    (fun d i => SwitchDie.chan_chansOnly d (8 * g + i) (f d.settings i)) l d

theorem SwitchDie.onGroup_chansStand (h : ∀ rf i (c : Chan), c.Stands (f rf i c).1) (l : List Nat) (d : SwitchDie) :
    d.ChansStand (d.onGroup g f l) :=
  foldl_keeps SwitchDie.ChansStand SwitchDie.ChansStand.refl SwitchDie.ChansStand.trans _
    (fun d i => SwitchDie.chan_chansStand d (8 * g + i) (f d.settings i) (h d.settings i)) l d

theorem SwitchDie.onGroup_nth_of_not_mem {k : Nat} (l : List Nat) (h : ∀ i ∈ l, k ≠ 8 * g + i) (d : SwitchDie) :
    (d.onGroup g f l).chans.nth k = d.chans.nth k := by
  induction l generalizing d with
  | nil => rfl
  | cons j l ih =>
    obtain ⟨hj, hl⟩ := List.forall_mem_cons.mp h
    exact (ih hl _).trans (SwitchDie.chan_nth_ne _ _ _ hj)

/-- Each channel of the group is changed once, from what it was before. -/
theorem SwitchDie.onGroup_nth_of_mem {i : Nat} (hk : 8 * g + i < 48) (l : List Nat) (hnodup : l.Nodup) (hi : i ∈ l) (d : SwitchDie) :
    (d.onGroup g f l).chans.nth (8 * g + i) = (f d.settings i (d.chans.nth (8 * g + i))).1.gate (d.allows (8 * g + i)) := by
  induction l generalizing d with
  | nil => cases hi
  | cons j l ih =>
    obtain ⟨hjl, hl⟩ := List.nodup_cons.mp hnodup
    rcases List.mem_cons.mp hi with rfl | hil
    · exact (SwitchDie.onGroup_nth_of_not_mem g f l (fun m hm e => hjl (by rwa [Nat.add_left_cancel e])) _).trans
        (SwitchDie.chan_nth_same _ _ _ hk)
    · have hne : 8 * g + i ≠ 8 * g + j := fun e => hjl (by rwa [← Nat.add_left_cancel e])
      rw [← SwitchDie.chan_nth_ne d (8 * g + j) (f d.settings j) hne]
      exact ih hl hil _

theorem SwitchDie.onGroup_nth {i : Nat} (hg : g < 6) (hi : i < 8) (d : SwitchDie) : (d.onGroup g f (List.range 8)).chans.nth (8 * g + i) =
    (f d.settings i (d.chans.nth (8 * g + i))).1.gate (d.allows (8 * g + i)) :=
  SwitchDie.onGroup_nth_of_mem g f (by omega) _ List.nodup_range (List.mem_range.mpr hi) d

theorem SwitchDie.onGroup_nth_other {k : Nat} (hk : k / 8 ≠ g) (d : SwitchDie) :
    (d.onGroup g f (List.range 8)).chans.nth k = d.chans.nth k :=
  SwitchDie.onGroup_nth_of_not_mem g f _ (fun i hi e => by have := List.mem_range.mp hi; omega) d

end

/-- A channel in UV_OFF waits 100 i µs after the recovery (R283). -/
def Chan.stagger (i : Nat) (c : Chan) : Chan := if c.st = .uvOff then { c with uvWait := 100 * i } else c

theorem Chan.stagger_stands (i : Nat) (c : Chan) : c.Stands (c.stagger i) := by
  unfold Chan.stagger
  split <;> exact ⟨rfl, rfl, rfl⟩

theorem SwitchDie.enterUv_of {g : Nat} {d : SwitchDie} (hg : g < 6) (huv : (d.groups.nth g).uv = false) (v : Nat) :
    d.enterUv g v = (d.declareUv g v).onGroup g (fun rf i => Chan.railLost (8 * g + i) (chSet rf (8 * g + i))) (List.range 8) :=
  if_neg (by simp [huv, hg])

/-- A group declared good again, its channels still as they were (R283). -/
def SwitchDie.declareGood (g v : Nat) (d : SwitchDie) : SwitchDie :=
  ({ d with groups := d.groups.upd g (fun x => { x with uv := false, lowUs := 0, goodUs := 0 }) } : SwitchDie).say
    [(0x0A06, p1 g ++ p1 0 ++ p2 (v : Nat))]

theorem SwitchDie.declareUv_groups (g v : Nat) (d : SwitchDie) : (d.declareUv g v).groups =
    d.groups.upd g (fun x => { x with uv := true, uvTick := true, lowUs := 0, goodUs := 0, dipUs := 0 }) := rfl

theorem SwitchDie.declareGood_groups (g v : Nat) (d : SwitchDie) : (d.declareGood g v).groups =
    d.groups.upd g (fun x => { x with uv := false, lowUs := 0, goodUs := 0 }) := rfl

theorem SwitchDie.leaveUv_of {g : Nat} {d : SwitchDie} (huv : (d.groups.nth g).uv = true) (v : Nat) :
    d.leaveUv g v = (d.declareGood g v).onGroup g (fun _ i c => (c.stagger i, [])) (List.range 8) :=
  if_neg (by simp [huv])

theorem SwitchDie.leaveUv_chansStand (g v : Nat) (d : SwitchDie) : d.ChansStand (d.leaveUv g v) := by
  by_cases huv : (d.groups.nth g).uv = true
  · rw [SwitchDie.leaveUv_of huv]
    exact SwitchDie.onGroup_chansStand g _ (fun _ i c => Chan.stagger_stands i c) _ (d.declareGood g v)
  · rw [SwitchDie.leaveUv, if_pos huv]
    exact SwitchDie.ChansStand.refl d

/-! An evaluation (R276). -/

/-- Whatever a rail sample declares, it changes no channel's state. -/
theorem SwitchDie.declareRail_chansStand (low good : Prop) [Decidable low] [Decidable good] (g v : Nat) (d : SwitchDie) :
    d.ChansStand (if low then d.declareUv g v else if good then d.leaveUv g v else d) := by
  split
  · exact SwitchDie.ChansStand.refl d
  · split
    · exact SwitchDie.leaveUv_chansStand g v d
    · exact SwitchDie.ChansStand.refl d

theorem SwitchDie.railSample_chansStand (g v : Nat) (d : SwitchDie) : d.ChansStand (d.railSample g v) :=
  SwitchDie.declareRail_chansStand _ _ g v { d with groups := (d.groups.upd g _) }

/-- The rails of an evaluation, which come before the channels. -/
def SwitchDie.railSamples (rails : List Nat) (d : SwitchDie) : SwitchDie :=
  (List.range 6).foldl (fun d g => d.railSample g (rails.nth g)) d

theorem SwitchDie.railSamples_chansStand (rails : List Nat) (d : SwitchDie) : d.ChansStand (d.railSamples rails) :=
  foldl_keeps SwitchDie.ChansStand SwitchDie.ChansStand.refl SwitchDie.ChansStand.trans _
    (fun d g => SwitchDie.railSample_chansStand g (rails.nth g) d) _ d

theorem SwitchDie.evaluate_nth {k : Nat} (hk : k < 48) (amps temps : List Int) (rails : List Nat) (d : SwitchDie) :
    (d.evaluate amps temps rails).chans.nth k = (((d.railSamples rails).chans.nth k).evaluate (d.railSamples rails).settings k
      ((d.railSamples rails).groups.nth (k / 8)).uv (d.railSamples rails).dim (amps.nth k) (temps.nth k)).1 := by
  simp [SwitchDie.evaluate, SwitchDie.railSamples, Vector.nth_ofFn _ _ hk, List.nth]

theorem SwitchDie.evaluate_booked {k : Nat} {d : SwitchDie} {temps : List Int} (hk : k < 48) (hon : (d.chans.nth k).st.isOn = true)
    (h : (d.chans.nth k).trip = true ∨ hotFrom ≤ temps.nth k) (amps : List Int) (rails : List Nat) :
    (d.chans.nth k).Booked ((d.evaluate amps temps rails).chans.nth k) ∧ ((d.evaluate amps temps rails).chans.nth k).cond = false := by
  have hrails := d.railSamples_chansStand rails k
  rw [SwitchDie.evaluate_nth hk]
  exact (Chan.evaluate_booked (hrails.st.symm ▸ hon) (hrails.trip.symm ▸ h) _ k _ _ _).imp_left hrails.booked

theorem exec_lswEvaluation {s : State} (hreset : s.boot.phase ≠ .deviceReset) (amps temps : List Int) (rails : List Nat) :
    exec (.lswEvaluation amps temps rails) s = .next { s with sw := s.sw.evaluate amps temps rails } :=
  congrArg Host.Outcome.next (State.onSwitch_of _ hreset)

/-- A row of one object of the switch die. -/
theorem onObject_onSwitch {n i : Nat} {s : State} (hi : i < n) (hreset : s.boot.phase ≠ .deviceReset) (f : SwitchDie → SwitchDie) :
    onObject n i (s.onSwitch f) = .next { s with sw := f s.sw } := by
  rw [onObject_of_lt _ _ _ hi, State.onSwitch_of f hreset]

theorem Chan.comparator_of {x : ChSet} {ma : Int} {c : Chan} (hcond : c.cond = true) (hlevel : (c.level x : Int) ≤ ma) :
    c.comparator x ma = { c with trip := true, top := if c.top.natAbs < ma.natAbs then ma else c.top } :=
  if_pos ⟨hcond, hlevel⟩

/-- Settles O11: the comparator leaves its channel with a trip, which holds the switch off; the evaluation ranks a trip or a hot channel
before all else, and the rails and timers around it change no state. -/
theorem channelTrips : Obligations.ChannelTrips := by
  refine ⟨fun s ch ma hch hreset hcond hlevel => ?comparator, fun s amps temps rails k hk hreset hon htrip => ?evaluation⟩
  case comparator =>
    have hexec : exec (.lswComparatorTrip ch ma) s = .next { s with
        sw := s.sw.chan ch (fun c => (c.comparator (chSet s.sw.settings ch) ma, [])) } := onObject_onSwitch hch hreset _
    refine ⟨_, hexec, congrArg (fun w => { s with sw := w }) (SwitchDie.chan_silent _ _ _), ?_⟩
    dsimp only
    rw [SwitchDie.chan_nth_same _ _ _ hch, Chan.comparator_of hcond hlevel]
    exact ⟨Chan.gate_off (.inl rfl) _, rfl, rfl, fun k hk => SwitchDie.chan_nth_ne _ _ _ hk⟩
  case evaluation =>
    obtain ⟨⟨htries, htrip', hst⟩, hcond⟩ := SwitchDie.evaluate_booked hk hon htrip amps rails
    exact ⟨_, exec_lswEvaluation hreset amps temps rails, rfl, htries, hcond, htrip', hst⟩

/-! Under-voltage of a group and its end (R282 to R284). -/

theorem SwitchDie.ChansOnly.of_groups {s : State} {gs : Vector Group 6} {r : List Ev} {e : SwitchDie}
    (h : ({ s.sw with groups := gs, reports := r } : SwitchDie).ChansOnly e) :
    ({ s with sw := e } : State) = { s with sw := { s.sw with chans := e.chans, groups := e.groups, reports := e.reports } } := by
  rw [h.groups]
  exact congrArg (fun w => { s with sw := w }) h.frame

/-- A group declared before the channels change stands as declared after it, and the other groups as they were. -/
theorem SwitchDie.ChansOnly.declared {d d' e : SwitchDie} {g : Nat} {f : Group → Group} (h : d'.ChansOnly e) (hg : g < 6)
    (hd : d'.groups = d.groups.upd g f) : e.groups.nth g = f (d.groups.nth g) ∧ ∀ j, j ≠ g → e.groups.nth j = d.groups.nth j := by
  rw [h.groups, hd]
  exact ⟨Vector.nth_upd_same _ _ _ hg, fun _ hj => Vector.nth_upd_ne _ _ _ _ hj⟩

theorem exec_groupUnderVoltage {s : State} {g : Nat} (hg : g < 6) (hreset : s.boot.phase ≠ .deviceReset) (v : Nat) :
    exec (.groupUnderVoltage g v) s = .next { s with sw := s.sw.enterUv g v } := onObject_onSwitch hg hreset _

theorem exec_groupUvRecovered {s : State} {g : Nat} (hg : g < 6) (hreset : s.boot.phase ≠ .deviceReset) (v : Nat) :
    exec (.groupUvRecovered g v) s = .next { s with sw := s.sw.leaveUv g v } := onObject_onSwitch hg hreset _

theorem exec_railDip {s : State} {g : Nat} (hg : g < 6) (hreset : s.boot.phase ≠ .deviceReset) (v us : Nat) :
    exec (.railDip g v us) s = .next { s with sw := { s.sw with groups := s.sw.groups.upd g (Group.dip v us) } } :=
  onObject_onSwitch hg hreset _

theorem Group.dip_of_longer {x : Group} {us : Nat} (h : x.bestUs < us) (v : Nat) : x.dip v us = { x with bestUs := us, bestLow := v } :=
  if_pos h

/-- Settles O13: each end of under-voltage declares the group and then changes each of its eight channels once; a dip longer than the
longest replaces it. -/
theorem groupUnderVoltage : Obligations.GroupUnderVoltage := by
  refine fun s g hg hreset => ⟨fun v huv => ?enter, fun v huv => ?recover, fun v us hus => ?dip⟩
  case enter =>
    have honly := SwitchDie.onGroup_chansOnly g (fun rf i => Chan.railLost (8 * g + i) (chSet rf (8 * g + i))) (List.range 8)
      (s.sw.declareUv g v)
    obtain ⟨hself, hothers⟩ := honly.declared hg (SwitchDie.declareUv_groups g v s.sw)
    refine ⟨_, exec_groupUnderVoltage hg hreset v, ?_⟩
    dsimp only
    rw [SwitchDie.enterUv_of hg huv]
    refine ⟨honly.of_groups, congrArg Group.uv hself, hothers, honly.reports (List.mem_append_right _ (List.mem_singleton_self _)),
      fun i hi hon htrip => ?booked, fun i hi hon htrip hcool => ?uvOff, fun k hk => SwitchDie.onGroup_nth_other g _ hk _⟩
    case booked =>
      rw [SwitchDie.onGroup_nth g _ hg hi]
      have hbooked := Chan.railLost_booked hon htrip (8 * g + i) (chSet s.sw.settings (8 * g + i))
      exact ⟨hbooked.tries, Chan.gate_off (.inr hbooked.isOn) _⟩
    case uvOff =>
      rw [SwitchDie.onGroup_nth g _ hg hi]
      obtain ⟨hst, -, htries⟩ := Chan.railLost_uvOff hon htrip hcool (8 * g + i) (chSet s.sw.settings (8 * g + i))
      exact ⟨hst, Chan.gate_off (.inr (congrArg ChState.isOn hst)) _, htries⟩
  case recover =>
    have honly := SwitchDie.onGroup_chansOnly g (fun _ i c => (c.stagger i, [])) (List.range 8) (s.sw.declareGood g v)
    obtain ⟨hself, hothers⟩ := honly.declared hg (SwitchDie.declareGood_groups g v s.sw)
    refine ⟨_, exec_groupUvRecovered hg hreset v, ?_⟩
    dsimp only
    rw [SwitchDie.leaveUv_of huv]
    refine ⟨honly.of_groups, congrArg Group.uv hself, hothers, honly.reports (List.mem_append_right _ (List.mem_singleton_self _)),
      fun i hi hst => ?waits, fun k hk => SwitchDie.onGroup_nth_other g _ hk _⟩
    case waits =>
      have hwaits : (s.sw.chans.nth (8 * g + i)).stagger i = { s.sw.chans.nth (8 * g + i) with uvWait := 100 * i } := if_pos hst
      rw [SwitchDie.onGroup_nth g _ hg hi]
      exact ⟨congrArg Chan.uvWait hwaits, (Chan.stagger_stands i _).st.trans hst⟩
  case dip =>
    rw [exec_railDip hg hreset,
      Vector.upd_congr _ _ _ (fun x => { x with bestUs := us, bestLow := v }) (Group.dip_of_longer hus v)]

/-! DIM pins and sense outputs (R273, R274, R288, R289). -/

/-- The edge of a DIM pin opens new inrush windows: it makes the pin active after a time inactive of at least DIM_REARM, which is not 0. -/
def SwitchDie.rearms (pin : Nat) (high : Bool) (d : SwitchDie) : Bool :=
  !dimActive d.settings d.dim pin && dimActive d.settings (setBit d.dim pin high) pin &&
    decide (d.settings.LSW_DIM_CFG_DIM_REARM ≠ 0) && decide (1000 * d.settings.LSW_DIM_CFG_DIM_REARM ≤ d.dimUs.nth pin)

/-- The die with the new level of a DIM pin, its channels still as they were. -/
def SwitchDie.setDim (pin : Nat) (high : Bool) (d : SwitchDie) : SwitchDie :=
  { d with dim := setBit d.dim pin high
           dimUs := if dimActive d.settings d.dim pin = dimActive d.settings (setBit d.dim pin high) pin then d.dimUs
             else d.dimUs.put pin 0 }

/-- A channel after the edge of its DIM pin (R273, R274). -/
def Chan.dimmed (k : Nat) (x : ChSet) (again : Bool) (c : Chan) : Chan × List Ev :=
  if again ∧ c.st = .on then ((c.dropOpenLoad k).1.toInrush x false, (c.dropOpenLoad k).2) else (c, [])

/-- Channel k takes the edge where it selects the pin. -/
def SwitchDie.dimChan (rf : RegFile) (pin : Nat) (again : Bool) (d : SwitchDie) (k : Nat) : SwitchDie :=
  if (chSet rf k).dimSel = pin then d.chan k (Chan.dimmed k (chSet rf k) again) else d

theorem SwitchDie.dimEdge_of {pin : Nat} (hpin : pin < 8) (high : Bool) (d : SwitchDie) : d.dimEdge pin high =
    (List.range 48).foldl (SwitchDie.dimChan d.settings pin (d.rearms pin high)) (d.setDim pin high) :=
  if_neg (Nat.not_le.mpr hpin)

section
variable (rf : RegFile) (pin : Nat) (again : Bool) (d : SwitchDie)

theorem SwitchDie.dimChan_chansOnly (k : Nat) : d.ChansOnly (d.dimChan rf pin again k) := by
  unfold SwitchDie.dimChan
  split
  · exact SwitchDie.chan_chansOnly d k _
  · exact SwitchDie.ChansOnly.refl d

theorem SwitchDie.dimChan_nth_unselected {j : Nat} (h : (chSet rf j).dimSel ≠ pin) (k : Nat) :
    (d.dimChan rf pin again k).chans.nth j = d.chans.nth j := by
  unfold SwitchDie.dimChan
  split
  · next hk => exact SwitchDie.chan_nth_ne d k _ (fun e => h (e ▸ hk))
  · rfl

theorem SwitchDie.dimChan_chansStand (k : Nat) : d.ChansStand (d.dimChan rf pin false k) := by
  unfold SwitchDie.dimChan
  split
  · exact SwitchDie.chan_chansStand d k _ fun c => Chan.Stands.refl c
  · exact SwitchDie.ChansStand.refl d

end

theorem SwitchDie.rearms_of_zero {d : SwitchDie} (h : d.settings.LSW_DIM_CFG_DIM_REARM = 0) (pin : Nat) (high : Bool) :
    d.rearms pin high = false := by
  simp [SwitchDie.rearms, h]

theorem SwitchDie.dimEdge_chansOnly {pin : Nat} (hpin : pin < 8) (high : Bool) (d : SwitchDie) :
    (d.setDim pin high).ChansOnly (d.dimEdge pin high) := by
  rw [SwitchDie.dimEdge_of hpin]
  exact foldl_keeps SwitchDie.ChansOnly SwitchDie.ChansOnly.refl SwitchDie.ChansOnly.trans _
    (SwitchDie.dimChan_chansOnly d.settings pin (d.rearms pin high)) _ _

theorem SwitchDie.dimEdge_nth_unselected {pin j : Nat} {d : SwitchDie} (hpin : pin < 8) (hj : (chSet d.settings j).dimSel ≠ pin)
    (high : Bool) : (d.dimEdge pin high).chans.nth j = d.chans.nth j := by
  rw [SwitchDie.dimEdge_of hpin]
  exact foldl_keeps (fun a b : SwitchDie => b.chans.nth j = a.chans.nth j) (fun _ => rfl) (fun h k => k.trans h) _
    (fun a => SwitchDie.dimChan_nth_unselected d.settings pin (d.rearms pin high) a hj) _ (d.setDim pin high)

theorem SwitchDie.dimEdge_chansStand {pin : Nat} {d : SwitchDie} (hpin : pin < 8) (hrearm : d.settings.LSW_DIM_CFG_DIM_REARM = 0)
    (high : Bool) : d.ChansStand (d.dimEdge pin high) := by
  rw [SwitchDie.dimEdge_of hpin, SwitchDie.rearms_of_zero hrearm]
  exact foldl_keeps SwitchDie.ChansStand SwitchDie.ChansStand.refl SwitchDie.ChansStand.trans _
    (SwitchDie.dimChan_chansStand d.settings pin) _ (d.setDim pin high)

/-- A sense output of mode 0 stands at 0 mV with no fault (R288). -/
theorem SwitchDie.sense_mode_zero {g : Nat} {d : SwitchDie} (hmode : d.settings.LSW_G_SENSE_MODE g = 0) :
    d.sense g = { d with groups := d.groups.upd g (fun x => { x with snsOut := 0, snsFault := false }) } := by
  simp [SwitchDie.sense, hmode]

/-- A sense output of mode 1 stands at 4500 mV while its channel meets a fault condition (R289). -/
theorem SwitchDie.sense_mode_one_fault {g : Nat} {d : SwitchDie} (hmode : d.settings.LSW_G_SENSE_MODE g = 1)
    (hfault : (d.chans.nth (8 * g + d.settings.LSW_G_SENSE_SEL g)).snsFault = true) :
    d.sense g = { d with groups := d.groups.upd g (fun x => { x with snsOut := 4500, snsFault := true }) } := by
  simp [SwitchDie.sense, hmode, hfault]

theorem exec_dimEdge {s : State} {pin : Nat} (hpin : pin < 8) (hreset : s.boot.phase ≠ .deviceReset) (high : Bool) :
    exec (.dimEdge pin high) s = .next { s with sw := s.sw.dimEdge pin high } := onObject_onSwitch hpin hreset _

theorem exec_senseUpdate {s : State} {g : Nat} (hg : g < 6) (hreset : s.boot.phase ≠ .deviceReset) :
    exec (.senseUpdate g) s = .next { s with sw := s.sw.sense g } := onObject_onSwitch hg hreset _

/-- Settles O14: an edge sets its pin and then goes from channel to channel, each of which changes only where it selects the pin; a sense
output follows its mode. -/
theorem dimAndSense : Obligations.DimAndSense := by
  refine fun s hreset => ⟨fun pin high hpin => ?dim, fun g hg => ?sense⟩
  case dim =>
    have honly := SwitchDie.dimEdge_chansOnly hpin high s.sw
    refine ⟨_, exec_dimEdge hpin hreset high, ?_, honly.dim, fun k hk => SwitchDie.dimEdge_nth_unselected hpin hk high,
      fun hrearm k => (SwitchDie.dimEdge_chansStand hpin hrearm high k).st⟩
    dsimp only
    rw [honly.dim, honly.dimUs]
    exact congrArg (fun w => { s with sw := w }) honly.frame
  case sense =>
    refine ⟨_, exec_senseUpdate hg hreset, rfl, fun h hh => Vector.nth_upd_ne _ _ _ _ hh, fun hmode => ?_, fun hmode hfault => ?_⟩
    · rw [SwitchDie.sense_mode_zero hmode]
      dsimp only
      rw [Vector.nth_upd_same _ _ _ hg]
      exact ⟨rfl, rfl⟩
    · rw [SwitchDie.sense_mode_one_fault hmode hfault]
      dsimp only
      rw [Vector.nth_upd_same _ _ _ hg]
      exact ⟨rfl, rfl⟩

end Sys2Proof.Machine
end

section
/-! SET_OUT of an output whose readback flag is set (O43): the flag's event is posted with the change of CMD (R302). -/

namespace Sys2Proof.Machine

/-- A machine whose configuration is committed and whose field die drives its outputs, with OUT_FORCED set on output 15. -/
def outForced : State :=
  { State.reset with
    cfg := { Cfg.reset with committed := true }
    field := { FieldDie.reset with outsOff := false }
    fio := { Fio.reset with outs := Fio.reset.outs.upd 15 (fun o => { o with forced := true }) } }

/-- SET_OUT of port A, ring 63, to output 15, ON. -/
def setOutOn : Cmd := ⟨0, 63, 0, 15, 1, 0, 0, 0⟩

/-- The completion of that command: OK, one output acted on. -/
def setOutDone : Finish := ⟨⟨0, outForced.time.tick, setOutOn⟩, 0, 1 + 65536 * 255⟩

theorem exec_setOutOn : exec (.setOut setOutOn) outForced = .next ((outForced.setOut true 15).finish setOutDone).flush := by
  show hostCmd (fun j => State.fioCmd j 1) setOutOn outForced = _
  rw [hostCmd_of _ _ _ (by decide) (by decide) rfl]
  rfl

/-- Clearing OUT_FORCED gives each port an event, which here no ring takes. -/
theorem unrouted_setOutOn : (((outForced.setOut true 15).finish setOutDone).flush.hif.ports.nth 0).unrouted = 1 := by decide +kernel

/-- The same change of the outputs with no event. -/
theorem unrouted_silent :
    ((({ outForced with fio := (outForced.setOut true 15).fio } : State).finish setOutDone).flush.hif.ports.nth 0).unrouted = 0 := by
  decide +kernel

/-- Refutes O43: a change of CMD clears OUT_FORCED, and the event that R302 raises for this is given to the ports, which the statement
leaves as they were but for the command's end. -/
theorem not_remoteCommands : ¬ Obligations.RemoteCommands := by
  intro h
  obtain ⟨-, hout⟩ := h outForced setOutOn true (by decide) (by decide) (by decide) (by decide)
  obtain ⟨u, hexec, hu, -⟩ := (hout (by decide) (by decide)).2 (by decide) (by decide) (by decide)
  have hnext : ((outForced.setOut true 15).finish setOutDone).flush = (u.finish setOutDone).flush := by
    injection exec_setOutOn.symm.trans hexec
  have hfio : u.fio = (outForced.setOut true 15).fio := by simpa using (congrArg State.fio hnext).symm
  have hunrouted := congrArg (fun t : State => (t.hif.ports.nth 0).unrouted) hnext
  rw [hu, hfio] at hunrouted
  exact absurd (unrouted_setOutOn.symm.trans (hunrouted.trans unrouted_silent)) (by decide)

end Sys2Proof.Machine
end

section
/-! What the commands between ticks leave of the commands that wait (O1, O59): most keep the whole engine, and all keep the queue. -/

namespace Sys2Proof.Machine

/-- Settles O1: both halves are what the step does on a queue with a front command and on an empty one. -/
theorem stepRunsFrontCommand : Obligations.StepRunsFrontCommand := by
  refine ⟨fun c rest s => rfl, fun s hempty => ?_⟩
  rw [step, hempty]

theorem State.pending_of_engine {s t : State} (h : t.engine = s.engine) : t.pending = s.pending := congrArg Engine.pending h

/-! The guards of the rows -/

@[simp] theorem State.flush_engine (s : State) : s.flush.engine = s.engine := (State.flush_posted s).engine

section
variable {f : State → State} (h : ∀ s, (f s).engine = s.engine) (port : Nat) (s : State)
include h

theorem State.guards_engine : (s.inCore f).engine = s.engine ∧ (s.inStage f).engine = s.engine ∧ (s.whenUp f).engine = s.engine ∧
    (s.fromPort port f).engine = s.engine :=
  State.guards_keep (fun s t => t.engine = s.engine) (fun _ => rfl) (fun _ t e => (State.flush_engine t).trans e) f h port s

@[simp] theorem State.inCore_engine : (s.inCore f).engine = s.engine := (State.guards_engine h 0 s).1
@[simp] theorem State.inStage_engine : (s.inStage f).engine = s.engine := (State.guards_engine h 0 s).2.1
@[simp] theorem State.whenUp_engine : (s.whenUp f).engine = s.engine := (State.guards_engine h 0 s).2.2.1
@[simp] theorem State.fromPort_engine : (s.fromPort port f).engine = s.engine := (State.guards_engine h port s).2.2.2

end

@[simp] theorem State.portalRow_engine (p : Nat) (f : SeqCtx → PSt → PSt) (s : State) :
    (s.portalRow p f).engine = s.engine := State.seqOut_engine _ s
@[simp] theorem State.pendRow_engine (p : Nat) (f : SeqCtx → Pend → SeqOut → SeqOut) (s : State) :
    (s.pendRow p f).engine = s.engine := State.seqOut_engine _ s
@[simp] theorem State.seqCmdNow_engine (code : Nat) (job : Job) (s : State) : (s.seqCmdNow code job).engine = s.engine :=
  State.seqOut_engine _ s
@[simp] theorem State.memRow_engine (m : Nat) (f : MemUnit → MemUnit × List Finish) (s : State) :
    (s.memRow m f).engine = s.engine := by simp [State.memRow]
@[simp] theorem State.ilkRow_engine (f : IlkIn → Ilk → Ilk × List Ev) (s : State) : (s.ilkRow f).engine = s.engine := by
  simp [State.ilkRow]

/-! Dies, drives, feedback, records -/

@[simp] theorem State.carrierPeriod_engine (b half : Nat) (valid : Bool) (s : State) :
    (s.carrierPeriod b half valid).engine = s.engine := by simp [State.carrierPeriod]
@[simp] theorem State.onSwitch_engine (f : SwitchDie → SwitchDie) (s : State) : (s.onSwitch f).engine = s.engine := by
  simp [State.onSwitch]
@[simp] theorem State.onField_engine (f : FieldDie → FieldDie) (s : State) : (s.onField f).engine = s.engine := by
  simp [State.onField]
@[simp] theorem State.injectionOver_engine (leaf : Nat) (aborted : Bool) (s : State) :
    (s.injectionOver leaf aborted).engine = s.engine := by
  unfold State.injectionOver
  split <;> simp

@[simp] theorem State.drainDone_engine (port : Nat) (s : State) : (s.drainDone port).engine = s.engine := by
  unfold State.drainDone
  split <;> simp

/-! The CAN controllers -/

@[simp] theorem State.canStart_engine (ctl clk n : Nat) (s : State) : (s.canStart ctl clk n).engine = s.engine := by
  induction n generalizing s with
  | zero => rfl
  | succ n ih =>
    unfold State.canStart
    dsimp only
    repeat' split
    all_goals simp [ih]

@[simp] theorem State.canStore_engine (ctl o : Nat) (f : CanFrame) (sof : Nat) (s : State) :
    (s.canStore ctl o f sof).engine = s.engine := rfl
@[simp] theorem State.refReceived_engine (f : CanFrame) (sof : Nat) (s : State) : (s.refReceived f sof).engine = s.engine := by
  simp only [State.refReceived, Time.reference]
  repeat' split
  all_goals simp

@[simp] theorem State.canReceive_engine (ctl : Nat) (f : CanFrame) (sof : Nat) (s : State) :
    (s.canReceive ctl f sof).engine = s.engine := by
  unfold State.canReceive
  dsimp only
  split
  · rfl
  · split
    · rfl
    · split
      · simp
      · split <;> simp

@[simp] theorem State.canSent_engine (ctl tdcv : Nat) (s : State) : (s.canSent ctl tdcv).engine = s.engine := by
  unfold State.canSent
  dsimp only
  split <;> simp

@[simp] theorem State.canMode_engine (ctl : Nat) (s : State) : (s.canMode ctl).engine = s.engine := rfl

/-! The host interface -/

@[simp] theorem State.ringError_engine (port r cause : Nat) (s : State) : (s.ringError port r cause).engine = s.engine := by
  simp [State.ringError]
@[simp] theorem State.jetIgnored_engine (port : Nat) (s : State) : (s.jetIgnored port).engine = s.engine := rfl
@[simp] theorem State.jetTail_engine (port r : Nat) (value : Word) (s : State) : (s.jetTail port r value).engine = s.engine := by
  simp [State.jetTail]
@[simp] theorem State.jetCq_engine (port r : Nat) (value : Word) (s : State) : (s.jetCq port r value).engine = s.engine := by
  simp [State.jetCq]
@[simp] theorem State.ringEnable_engine (port r : Nat) (s : State) : (s.ringEnable port r).engine = s.engine := by
  simp [State.ringEnable]
@[simp] theorem State.ringDisable_engine (port r : Nat) (s : State) : (s.ringDisable port r).engine = s.engine := rfl
@[simp] theorem State.track_engine (port r : Nat) (s : State) (d : List Word) : (s.track port r d).engine = s.engine := rfl
@[simp] theorem State.fetch_engine (port r : Nat) (s : State) : (s.fetch port r).engine = s.engine := by simp [State.fetch]
@[simp] theorem State.fetched_engine (port r : Nat) (descs : List (List Word)) (failed : Bool) (us : Nat) (s : State) :
    (s.fetched port r descs failed us).engine = s.engine := by
  unfold State.fetched
  extract_lets x late tell s1 s2 s3
  have h1 : s1.engine = s.engine := by simp only [s1]; split <;> rfl
  have h2 : s2.engine = s.engine := by rw [← h1]; simp only [s2]; split <;> simp
  split
  · rfl
  · split
    · rw [State.ringError_engine, h2]
    · exact (State.foldl_engine _ (State.track_engine port r) _ s3).trans h2

@[simp] theorem State.readTimeout_engine (port : Nat) (isPageIn : Bool) (which : Nat) (s : State) :
    (s.readTimeout port isPageIn which).engine = s.engine := by
  unfold State.readTimeout
  repeat' split
  all_goals simp

@[simp] theorem State.msixMask_engine (port v : Nat) (masked : Bool) (s : State) : (s.msixMask port v masked).engine = s.engine := by
  simp [State.msixMask]
@[simp] theorem State.msixSend_engine (port : Nat) (s : State) : (s.msixSend port).engine = s.engine := rfl
@[simp] theorem State.tellUp_engine (port : Nat) (s : State) : (s.tellUp port).engine = s.engine := by simp [State.tellUp]
@[simp] theorem State.portUp_engine (port width speed : Nat) (s : State) : (s.portUp port width speed).engine = s.engine := by
  simp [State.portUp]
@[simp] theorem State.pcieConfig_engine (port : Nat) (req : CfgReq) (s : State) : (s.pcieConfig port req).engine = s.engine := by
  cases req <;> simp [State.pcieConfig]
@[simp] theorem State.portResetRec_engine (port : Nat) (s : State) : (s.portResetRec port).engine = s.engine := by
  unfold State.portResetRec
  dsimp only
  split <;> simp

@[simp] theorem State.portResetHif_engine (port : Nat) (kind : PortResetKind) (s : State) :
    (s.portResetHif port kind).engine = s.engine := (State.post_engine _ _).trans rfl
@[simp] theorem State.portReset_engine (port : Nat) (kind : PortResetKind) (s : State) :
    (s.portReset port kind).engine = s.engine := by simp [State.portReset]
@[simp] theorem State.restoreGuarantee_engine (g port : Nat) (s : State) : (s.restoreGuarantee g port).engine = s.engine := by
  simp [State.restoreGuarantee]
@[simp] theorem State.violation_engine (port page : Nat) (s : State) : (s.violation port page).engine = s.engine := rfl
@[simp] theorem State.bar2Write_engine (port addr : Nat) (data : List Byte) (s : State) :
    (s.bar2Write port addr data).engine = s.engine := by simp [State.bar2Write]
@[simp] theorem State.bar2Read_engine (port addr len : Nat) (s : State) : (s.bar2Read port addr len).engine = s.engine := by
  simp [State.bar2Read]
@[simp] theorem State.pageData_engine (port page offset : Nat) (data : List Byte) (ep : Bool) (s : State) :
    (s.pageData port page offset data ep).engine = s.engine := by
  unfold State.pageData
  split <;> simp

@[simp] theorem State.pageDone_engine (port page : Nat) (s : State) : (s.pageDone port page).engine = s.engine := by
  unfold State.pageDone
  repeat' split
  all_goals simp

@[simp] theorem State.jobTimeout_engine (id : Nat) (s : State) : (s.jobTimeout id).engine = s.engine := by
  unfold State.jobTimeout
  extract_lets s1 s2 s3 s4 s5 s6
  have h1 : s1.engine = s.engine := State.foldl_engine _ (by simp) _ _
  have h2 : s2.engine = s.engine := (State.seqOut_engine _ _).trans h1
  have h3 : s3.engine = s.engine := (State.foldl_engine _ (by simp) _ _).trans h2
  have h4 : s4.engine = s.engine := (State.foldl_engine _ (fun s port => by split <;> simp) _ _).trans h3
  have h5 : s5.engine = s.engine := (State.foldl_engine _ (fun s m => by simp) _ _).trans h4
  have h6 : s6.engine = s.engine := by rw [← h5]; simp only [s6]; split <;> simp
  split
  · split <;> simp [h6]
  · exact h6

/-! The control registers -/

@[simp] theorem State.clrLinks_engine (s : State) : s.clrLinks.engine = s.engine := rfl
@[simp] theorem State.clrSlots_engine (s : State) : s.clrSlots.engine = s.engine := rfl
@[simp] theorem State.clrCycleCounts_engine (s : State) : s.clrCycleCounts.engine = s.engine := rfl
@[simp] theorem State.askLatchClear_engine (s : State) : s.askLatchClear.engine = s.engine := rfl
@[simp] theorem State.clrTripCounts_engine (s : State) : s.clrTripCounts.engine = s.engine := rfl
@[simp] theorem State.clrStepCounts_engine (s : State) : s.clrStepCounts.engine = s.engine := rfl
@[simp] theorem State.clrFbkCounts_engine (s : State) : s.clrFbkCounts.engine = s.engine := rfl
@[simp] theorem State.clearRef_engine (p : Nat) (s : State) : (s.clearRef p).engine = s.engine := rfl
@[simp] theorem State.clrHallFault_engine (s : State) (l : Nat) : (s.clrHallFault l).engine = s.engine := by
  unfold State.clrHallFault
  extract_lets b stands ok s1 s2
  have h2 : s2.engine = s.engine := by
    simp only [s2, s1]
    repeat' split
    all_goals simp
  exact (State.says_engine _ _).trans h2

@[simp] theorem State.clrEncFault_engine (s : State) (e : Nat) : (s.clrEncFault e).engine = s.engine := by
  simp [State.clrEncFault]
@[simp] theorem State.clrLeafOc_engine (s : State) (l : Nat) : (s.clrLeafOc l).engine = s.engine := by simp [State.clrLeafOc]
@[simp] theorem State.clrStepOc_engine (s : State) (p : Nat) : (s.clrStepOc p).engine = s.engine := by simp [State.clrStepOc]
@[simp] theorem State.clrAlarms_engine (s : State) : s.clrAlarms.engine = s.engine := rfl
@[simp] theorem State.askSave_engine (s : State) : s.askSave.engine = s.engine := rfl
@[simp] theorem State.clrChanCounts_engine (s : State) : s.clrChanCounts.engine = s.engine := rfl
@[simp] theorem State.clrFieldCounts_engine (s : State) : s.clrFieldCounts.engine = s.engine := rfl
@[simp] theorem State.clrTrackHwm_engine (s : State) : s.clrTrackHwm.engine = s.engine := rfl
@[simp] theorem State.clrPortStat_engine (port : Nat) (s : State) : (s.clrPortStat port).engine = s.engine := rfl
@[simp] theorem State.clrMemCounts_engine (s : State) : s.clrMemCounts.engine = s.engine := rfl
@[simp] theorem State.clrRecCount_engine (s : State) : s.clrRecCount.engine = s.engine := rfl
@[simp] theorem State.groupOpen_engine (port : Nat) (s : State) : (s.groupOpen port).engine = s.engine := rfl
@[simp] theorem State.groupCommit_engine (port clk : Nat) (s : State) : (s.groupCommit port clk).engine = s.engine := rfl
@[simp] theorem State.disarm_engine (a clk : Nat) (s : State) : (s.disarm a clk).engine = s.engine := rfl
@[simp] theorem State.askReset_engine (port : Nat) (w : Word) (s : State) : (s.askReset port w).engine = s.engine := by
  simp [State.askReset]
@[simp] theorem State.askResync_engine (s : State) : s.askResync.engine = s.engine := rfl
@[simp] theorem State.answerRead_engine (port v : Nat) (s : State) : (s.answerRead port v).engine = s.engine := rfl

/-- A release of the safe hold that is asked for is the one action of a register that the engine sees. -/
@[simp] theorem State.askClear_pending (s : State) : s.askClear.pending = s.pending := rfl

/-! Register writes -/

@[simp] theorem State.wordClears_engine (r : RegRow) (i : Nat) (w : Word) (s : State) : (s.wordClears r i w).engine = s.engine := by
  simp [State.wordClears]

theorem State.shadowWord_engine {port off clk : Nat} {w : Word} {s t : State} (h : s.shadowWord port off clk w = some t) :
    t.engine = s.engine := by
  unfold State.shadowWord at h
  dsimp only at h
  split at h
  · split at h
    · cases h
    · cases h; rfl
  · cases h; rfl

@[simp] theorem State.wordFields_engine (r : RegRow) (i port clk : Nat) (w : Word) (s : State) :
    (s.wordFields r i port clk w).engine = s.engine := by
  unfold State.wordFields
  extract_lets off mask g old new new' held take f t
  have htaken : ∀ u, t = some u → u.engine = s.engine := by
    intro u hu
    simp only [t] at hu
    split at hu
    · exact State.shadowWord_engine hu
    · cases hu; simp
  clear_value t
  repeat' split
  all_goals simp [htaken]

theorem State.wordActs_pending (r : RegRow) (i port clk : Nat) (w : Word) (s : State) :
    (s.wordActs r i port clk w).pending = s.pending := by
  by_cases hclear : r.base = Reg.TCK_CTRL.base
  · have hacts : s.wordActs r i port clk w = (fun u => if w.getLsbD 0 then State.askClear u else u)
        (if w.getLsbD 1 then s.clrSlots else s) := by
      unfold State.wordActs
      rw [hclear]
      rfl
    rw [hacts]
    dsimp only
    split <;> split <;> rfl
  · exact State.pending_of_engine (by simp [State.wordActs, hclear])

theorem State.regWrite_pending (port off : Nat) (w : Word) (be clk : Nat) (s : State) :
    (s.regWrite port off w be clk).pending = s.pending := by
  unfold State.regWrite
  split
  · rfl
  · split
    · rfl
    · next r i _ =>
      have h : (((s.wordActs r i port clk w).wordClears r i w).wordFields r i port clk w).engine =
          (s.wordActs r i port clk w).engine := by simp
      exact (State.pending_of_engine h).trans (State.wordActs_pending r i port clk w s)

/-! Reliefs and images -/

@[simp] theorem State.imgPages_engine (s : State) (q : Install) (n : Nat) : (s.imgPages q n).1.engine = s.engine := by
  induction n generalizing s q with
  | zero => rfl
  | succ n ih => unfold State.imgPages; split <;> simp [ih]

@[simp] theorem State.imgDone_engine (code : Nat) (s : State) : (s.imgDone code).engine = s.engine := by
  unfold State.imgDone
  repeat' split
  all_goals simp

/-! Start-up: the search for the record's head, the load of the configuration, the patina, the commit -/

@[simp] theorem State.loadBlob_engine (b off dst n : Nat) (s : State) : (s.loadBlob b off dst n).engine = s.engine := by
  simp [State.loadBlob]
@[simp] theorem State.applyImage_engine (b : Nat) (m : Image) (s : State) : (s.applyImage b m).engine = s.engine := by
  simp [State.applyImage]
@[simp] theorem State.tryBank_engine (a : State × Bool) (b : Nat) : (State.tryBank a b).1.engine = a.1.engine := by
  unfold State.tryBank
  dsimp only
  repeat' split
  all_goals simp

@[simp] theorem State.bankSeen_engine (b : Nat) (id : Option (Nat × Nat)) (com : Bool) (s : State) :
    (s.bankSeen b id com).engine = s.engine := rfl
@[simp] theorem State.uncommitted_engine (b : Nat) (id : Option (Nat × Nat)) (com : Bool) (s : State) :
    (s.uncommitted b id com).engine = s.engine := by simp [State.uncommitted]
@[simp] theorem State.noImage_engine (bank : Nat) (s : State) : (s.noImage bank).engine = s.engine := by simp [State.noImage]
@[simp] theorem State.loadConfig_engine (s : State) : s.loadConfig.engine = s.engine := by simp [State.loadConfig]
@[simp] theorem State.findHead_engine (s : State) : s.findHead.engine = s.engine := by
  unfold State.findHead
  extract_lets rf z first r k skip next rec s1 s2
  clear_value k next skip
  have h1 : s1.engine = s.engine := rfl
  have h2 : s2.engine = s1.engine := (State.setRecFrom_engine _ _ _).trans (State.setRecFrom_engine _ _ _)
  exact (State.says_engine _ _).trans (h2.trans h1)

@[simp] theorem State.patRestore_engine (s : State) : s.patRestore.engine = s.engine := by
  unfold State.patRestore
  dsimp only
  repeat' split
  all_goals simp

@[simp] theorem State.sendSettings_engine (s : State) : s.sendSettings.engine = s.engine := rfl
@[simp] theorem State.commitConfig_engine (s : State) : s.commitConfig.engine = s.engine := by simp [State.commitConfig]
@[simp] theorem State.initMemory_engine (straps : Nat) (s : State) : (s.initMemory straps).engine = s.engine := by
  simp [State.initMemory]

/-! Resets, supplies and the tick -/

@[simp] theorem State.enterReset_pending (device : Bool) (cause : Nat) (s : State) : (s.enterReset device cause).pending = s.pending := rfl
@[simp] theorem State.deferLines_engine (a : TickIn) (s : State) : (s.deferLines a).engine = s.engine := rfl
@[simp] theorem State.ilkWatch_engine (a : TickIn) (s : State) : (s.ilkWatch a).engine = s.engine := rfl
@[simp] theorem State.deviceReset_pending (cause : Nat) (s : State) : (s.deviceReset cause).pending = s.pending := rfl
@[simp] theorem State.coreReset_pending (cause : Nat) (s : State) : (s.coreReset cause).pending = s.pending := by
  unfold State.coreReset
  split <;> rfl

@[simp] theorem State.rstLow_pending (ns : Nat) (s : State) : (s.rstLow ns).pending = s.pending := by
  unfold State.rstLow
  split <;> rfl

@[simp] theorem State.sampleStraps_pending (straps fillClocks us : Nat) (s : State) :
    (s.sampleStraps straps fillClocks us).pending = s.pending := rfl

@[simp] theorem State.release_pending (straps fillClocks us : Nat) (s : State) : (s.release straps fillClocks us).pending = s.pending := by
  unfold State.release
  split
  · rfl
  · split
    · rfl
    · exact (State.pending_of_engine (by simp)).trans (State.sampleStraps_pending straps fillClocks us s)

@[simp] theorem State.vdrvLow_engine (b mv10 : Nat) (s : State) : (s.vdrvLow b mv10).engine = s.engine := by simp [State.vdrvLow]
@[simp] theorem State.vdrvBack_engine (b mv10 : Nat) (s : State) : (s.vdrvBack b mv10).engine = s.engine := by simp [State.vdrvBack]

theorem State.boundary_pending (s : State) : s.boundary.1.pending = s.pending := by
  rw [← State.engine_pending, State.boundary_engine]
  rfl

theorem State.linkUpTick_pending (n : Nat) (a : TickIn) (s : State) : (s.linkUpTick n a).pending = s.pending := by
  unfold State.linkUpTick
  extract_lets b s0 boot0 s1 s2 s3 s4
  have h0 : b.1.pending = s.pending := State.boundary_pending s
  clear_value b
  have h1 : s1.pending = b.1.pending := by
    simp only [s1]
    split <;> rfl
  have h4 : s4.engine = s1.engine := by simp [s4, s3, s2]
  clear_value s4
  exact (State.pending_of_engine h4).trans (h1.trans h0)

theorem foldl_declare_pending (ov : List Overrun) (e : Engine) : (ov.foldl Engine.declare e).pending = e.pending := by
  induction ov generalizing e with
  | nil => rfl
  | cons o ov ih => exact ih (e.declare o)

theorem State.controlTick_pending (ov : List Overrun) (a : TickIn) (s : State) : (s.controlTick ov a).pending = s.pending := by
  rw [← State.engine_pending, State.controlTick_engine]
  exact foldl_declare_pending ov _

theorem State.tick_pending (ov : List Overrun) (a : TickIn) (s : State) : (s.tick ov a).pending = s.pending := by
  unfold State.tick
  split
  · simp
  · split
    case h_4 => exact State.linkUpTick_pending _ a s
    case h_5 | h_6 => exact State.controlTick_pending ov a s
    all_goals rfl

/-! Every command -/

/-- An outcome whose next state, where it answers one, has the commands of s waiting. -/
def State.KeepsQueue (s : State) (o : Host.Outcome State Fault Refusal) : Prop := ∀ t, o = .next t → t.pending = s.pending

section
variable {s t : State}

theorem State.keepsQueue_next (h : t.pending = s.pending) : s.KeepsQueue (.next t) := by
  intro u hu
  cases hu
  exact h

theorem State.keepsQueue_onObject (n i : Nat) (h : t.pending = s.pending) : s.KeepsQueue (onObject n i t) := by
  intro u hu
  rw [(onObject_next n i t u hu).2, h]

theorem State.keepsQueue_onObjects (n i m j : Nat) (h : t.pending = s.pending) : s.KeepsQueue (onObjects n i m j t) := by
  intro u hu
  rw [(onObjects_next n i m j t u hu).2.2, h]

theorem State.keepsQueue_ite {p : Prop} [Decidable p] {o : Host.Outcome State Fault Refusal} (h : s.KeepsQueue o) :
    s.KeepsQueue (if p then o else .fault .noSuchObject) := by
  intro u hu
  split at hu
  · exact h u hu
  · cases hu

theorem State.whenUp_pending {f : State → State} (h : (f s).pending = s.pending) : (s.whenUp f).pending = s.pending := by
  unfold State.whenUp
  split
  · rw [State.flush_pending, h]
  · rfl

theorem State.regRow_pending (port : Nat) (r : RegRow) (i clk : Nat) (w : Word) : (s.regRow port r i clk w).pending = s.pending := by
  rw [State.regRow, State.flush_pending, State.regWrite_pending]

end

section
variable {s : State} {f : State → State} (h : ∀ s, (f s).engine = s.engine)
include h

theorem State.inCore_pending : (s.inCore f).pending = s.pending := State.pending_of_engine (State.inCore_engine h s)
theorem State.inStage_pending : (s.inStage f).pending = s.pending := State.pending_of_engine (State.inStage_engine h s)
theorem State.whenUp_pending_of_engine : (s.whenUp f).pending = s.pending := State.pending_of_engine (State.whenUp_engine h s)
theorem State.fromPort_pending (port : Nat) : (s.fromPort port f).pending = s.pending :=
  State.pending_of_engine (State.fromPort_engine h port s)

end

theorem reliefApply_engine (s : State) :
    (let a := s.reliefGuard.reliefTake
     let t := a.2.foldl (State.compareAxis a.2) a.1
     match t.cfg.request with
     | none => t
     | some q => if q.applied || q.poison then t.reliefTick else t).engine = s.engine := by
  extract_lets a t
  have ht : t.engine = s.engine := by simp [t, a]
  split
  · exact ht
  · split <;> simp [ht]

/-- No command changes the commands that wait behind it. -/
theorem exec_keepsQueue (c : Instr) (s : State) : s.KeepsQueue (exec c s) := by
  cases c with
  | tick => exact State.keepsQueue_next (State.tick_pending _ _ s)
  | tickOverrun => exact State.keepsQueue_ite (State.keepsQueue_next (State.tick_pending _ _ s))
  | powerOn | vcoreBrownOut | vioBrownOut => exact State.keepsQueue_next (State.deviceReset_pending _ s)
  | rstNLow => exact State.keepsQueue_next (State.rstLow_pending _ s)
  | clockLoss | coreWatchdog | coreReset => exact State.keepsQueue_next (State.coreReset_pending _ s)
  | resetRelease => exact State.keepsQueue_next (State.release_pending _ _ _ s)
  | registerWrite => exact State.keepsQueue_onObject _ _ ((State.flush_pending _).trans (State.regWrite_pending _ _ _ _ _ s))
  | genReset => exact State.keepsQueue_onObject _ _ (State.regRow_pending _ _ _ _ _)
  | canModeWrite | cmpPosWrite => exact State.keepsQueue_onObjects _ _ _ _ (State.regRow_pending _ _ _ _ _)
  | canObjEnWrite => exact State.keepsQueue_ite (State.keepsQueue_onObjects _ _ _ _ (State.regRow_pending _ _ _ _ _))
  | clrOverrun => exact State.keepsQueue_next (State.whenUp_pending rfl)
  | fbkHallFault | fbkEncoderFault =>
    exact State.keepsQueue_ite (State.keepsQueue_next (State.inStage_pending (by simp)))
  -- the remote dies, and the rows of no guard
  | switchLink4Frame | switchAutonomous | switchSupervisorReset | link6Frame | link6FrameMissed | lswEvaluation | channelBTestPulse
  | switchDieLatch | fieldLink5Frame | fieldOutputsOff | fieldDieSupervisorReset | fieldSample | fieldSupplyState | fsRecExpired
  | trainlineSample | chargePumpRunDown =>
    exact State.keepsQueue_next (State.pending_of_engine (by simp))
  | lswComparatorTrip | inrushWindowEnd | pauseEnd | settleExpired | groupUnderVoltage | groupUvRecovered | uvStaggeredRestart
  | openLoadQualified | dimEdge | railDip | senseUpdate | wireBreak | fieldOutputThermal | tlIndeterminate | vdrvLow | vdrvRecovered
  | portUp | pcieConfigRequest | bridgeSafeState | edgeClassChange =>
    exact State.keepsQueue_onObject _ _ (State.pending_of_engine (by simp))
  | carrierPeriodStart | leafComparatorTrip | stepComparatorTrip | jetTail | jetCq | descriptorFetch | msixModerationTimeout
  | completionTimeout | msixTableWrite | fetchCompletion =>
    exact State.keepsQueue_onObjects _ _ _ _ (State.pending_of_engine (by simp))
  -- hardware that the core die controls
  | ntReferenceReceived | ntMasterPeriod | ntTimeout => exact State.keepsQueue_next (State.inCore_pending (by simp))
  | portReset | ldrUvHold | ldrUvResume | ldrRailOv | ldrOvRecovered | canFrameStart | canFrameReceived | canTxDone | canFailedAttempt
  | canReceiveError | canBusoffRecovered | canProtocolException | canMode | sluiceDone | patrolDue | weirLeak =>
    exact State.keepsQueue_onObject _ _ (State.inCore_pending (by simp))
  | ldrOcLatch | stpOcLatch => exact State.keepsQueue_onObjects _ _ _ _ (State.inCore_pending (by simp))
  -- parts of a control stage
  | ilkTestPulse | ilkDiscrepancy | ilkDiscSafe | ilkFeedbackTimeout | patStateSave | recordCommit | reliefTimeout =>
    exact State.keepsQueue_next (State.inStage_pending (by simp))
  | reliefApply => exact State.keepsQueue_next (State.inStage_pending reliefApply_engine)
  | tUnlockExpired | tOpenExpired | tCloseExpired | tLockExpired | tDwellExpired | tWarnExpired | tRecloseExpired | tObsClearExpired
  | tStepExpired | signaturePulse | sigPulseJudged | pendingOpenTaken | pendDeadline | departMsExpired | obsTrip | obsReactionDone
  | injectionRequest | ldrRwindDone | stpStall | standstillReduction | homingTrip | errorWindowClose | fbkZeroSpeed | captureSample
  | cycleCut =>
    exact State.keepsQueue_onObject _ _ (State.inStage_pending (by simp))
  | guaranteeRestored => exact State.keepsQueue_onObjects _ _ _ _ (State.inStage_pending (by simp))
  -- what runs once the configuration is committed, and what a live port asks for
  | commandTimeout | resyncSwitch | clrLinkCnt | tckClrHwm | clrCycles | clrLatch | clrTrips | stpClrCount | fbkClrCnt | clrAlarm | save
  | lswClrCount | fioClrCnt | hifClrHwm | memClrCount | recClrCount | imgWriteDone | imgCommitDone =>
    exact State.keepsQueue_next (State.whenUp_pending_of_engine (by simp))
  | ldrClrOc | disarm | stpClrOc | clrHall | clrEnc | clrStat | drainDone =>
    exact State.keepsQueue_onObject _ _ (State.whenUp_pending_of_engine (by simp))
  | enable | disable | pageTransferDone | pageInReadCompletion =>
    exact State.keepsQueue_onObjects _ _ _ _ (State.whenUp_pending_of_engine (by simp))
  | bar2Write | bar2Read | dtcLoRead | cfgGroupOpen | cfgGroupCommit =>
    exact State.keepsQueue_onObject _ _ (State.fromPort_pending (by simp) _)
  | recSeqLoRead => exact State.keepsQueue_onObjects _ _ _ _ (State.fromPort_pending (by simp) _)
  | seqOpen | seqClose | seqReopen | seqHold | crewClose | isolate | deisolate | clearFault | resetManual | armLoad | armRead | tblLoad
  | tblRead | accept | refuse | thaw | propRead | lswSwitch | lswRestart | setOut | txSend | rxRead | txAbort | nop | pageTake | pageGive
  | pagePass | pageIn | pageOut | sluice | inject | stop | drain | capArm | capTrigger | capStop | reliefSet | imgWrite | imgCommit
  | imgRead =>
    exact State.keepsQueue_onObjects _ _ _ _ (State.whenUp_pending_of_engine (by simp))

/-- Settles O59: the step takes the front command off, and that command leaves the rest of the queue as it is. -/
theorem stepsTakeOneCommand : Obligations.StepsTakeOneCommand := by
  intro s t hstep
  rcases hqueue : s.pending with - | ⟨c, rest⟩
  · rw [stepRunsFrontCommand.2 s hqueue] at hstep
    rw [← Host.Outcome.next.inj hstep, hqueue]
    rfl
  · have hfront : step s = exec c { s with pending := rest } := by rw [step, hqueue]
    exact exec_keepsQueue c _ t (hfront.symm.trans hstep)

end Sys2Proof.Machine
end

section
/-! The gate driver supply and the resets (O23, O24, O26): the whole next state of each row (R431, R432, R436, R442). -/

namespace Sys2Proof.Machine

/-! The gate driver supply -/

theorem State.vdrvLow_of_runs {s : State} (h : s.coreRuns = true) (b mv10 : Nat) : s.vdrvLow b mv10 =
    ({ s with dies := s.dies.upd b (fun d => { d with vdrvOk := false, armed := false })
              boot := { s.boot with vdrvLow := setBit s.boot.vdrvLow b true } } : State).says
      [(0x0005, p1 b ++ p1 1 ++ p2 (mv10 : Nat))] := if_pos h

theorem State.vdrvBack_of_runs {s : State} (h : s.coreRuns = true) (b mv10 : Nat) : s.vdrvBack b mv10 =
    ({ s with dies := s.dies.upd b (fun d => ({ d with vdrvOk := true } : BridgeDie).tryArm)
              boot := { s.boot with vdrvLow := setBit s.boot.vdrvLow b false } } : State).says
      [(0x0005, p1 b ++ p1 0 ++ p2 (mv10 : Nat))] := if_pos h

/-- Settles O26: the core die runs, so each row ends with its event. -/
theorem gateSupply : Obligations.GateSupply := by
  intro s die mv10 hdie hcore
  rw [← State.vdrvLow_of_runs hcore, ← State.vdrvBack_of_runs hcore]
  exact ⟨onObject_of_lt 4 die _ hdie, onObject_of_lt 4 die _ hdie⟩

/-! Device resets -/

theorem State.deviceReset_resetTo (cause : Nat) (s : State) : s.DeviceResetTo (s.deviceReset cause) (2 ^ cause) false :=
  ⟨rfl, fun b hb => Vector.nth_map s.dies BridgeDie.deviceReset b hb⟩

theorem State.rstLow_short {ns : Nat} (h : ns < 1000) (s : State) : s.rstLow ns = s := if_pos h

theorem State.rstLow_resetTo {ns : Nat} (h : 1000 ≤ ns) (s : State) : s.DeviceResetTo (s.rstLow ns) 2 (decide (ns < 10000)) := by
  rw [State.rstLow, if_neg (Nat.not_lt.mpr h)]
  exact ⟨rfl, fun b hb => Vector.nth_map s.dies BridgeDie.deviceReset b hb⟩

/-- Settles O23: each row is a device reset with its own cause, but for a pulse of RST_N that is too short. -/
theorem deviceResets : Obligations.DeviceResets := fun s =>
  ⟨⟨_, rfl, s.deviceReset_resetTo 0⟩, ⟨_, rfl, s.deviceReset_resetTo 2⟩, ⟨_, rfl, s.deviceReset_resetTo 3⟩,
   fun _ h => congrArg Host.Outcome.next (State.rstLow_short h s), fun _ h => ⟨_, rfl, State.rstLow_resetTo h s⟩⟩

/-! Core resets -/

theorem State.coreReset_held {s : State} (h : s.coreRuns = false) (cause : Nat) : s.coreReset cause = s := by
  rw [State.coreReset, if_neg (by simp [h])]

theorem State.coreReset_runs {s : State} (h : s.coreRuns = true) (cause : Nat) : s.coreReset cause = s.enterReset false cause := if_pos h

theorem State.coreReset_resetTo {s : State} (h : s.coreRuns = true) (cause : Nat) : s.CoreResetTo (s.coreReset cause) (2 ^ cause) := by
  rw [State.coreReset_runs h]
  exact ⟨rfl, rfl, fun b hb => Vector.nth_map s.dies BridgeDie.coreReset b hb⟩

/-- A watchdog or clock reset is timed, and the third that stands enters the storm (R436). -/
theorem Boot.enter_timed {cause : Nat} (h : cause = 4 ∨ cause = 5) (b : Boot) :
    (b.enter false cause).stormTimes = 0 :: b.stormTimes ∧
    ((b.enter false cause).storm = true ↔ b.storm = true ∨ 2 ≤ b.stormTimes.length) := by
  rcases h with rfl | rfl <;> simp [Boot.enter]

/-- The reset that GEN_RESET asks for is not timed. -/
theorem Boot.enter_asked (b : Boot) : (b.enter false 6).stormTimes = b.stormTimes ∧ (b.enter false 6).storm = b.storm := by
  simp [Boot.enter]

theorem State.coreReset_boot {s : State} (h : s.coreRuns = true) (cause : Nat) : (s.coreReset cause).boot = s.boot.enter false cause := by
  rw [State.coreReset_runs h]
  rfl

/-- Settles O24: a held core die stays as it is, and one that runs is reset with its cause, timed where the cause counts. -/
theorem coreResets : Obligations.CoreResets := by
  refine fun s => ⟨fun h => ?held, fun h => ⟨⟨_, rfl, s.coreReset_resetTo h 4, ?_⟩, ⟨_, rfl, s.coreReset_resetTo h 5, ?_⟩,
    ⟨_, rfl, s.coreReset_resetTo h 6, ?_⟩⟩⟩
  case held =>
    exact ⟨congrArg Host.Outcome.next (State.coreReset_held h 4), congrArg Host.Outcome.next (State.coreReset_held h 5),
      congrArg Host.Outcome.next (State.coreReset_held h 6)⟩
  · rw [State.coreReset_boot h]
    exact Boot.enter_timed (.inl rfl) s.boot
  · rw [State.coreReset_boot h]
    exact Boot.enter_timed (.inr rfl) s.boot
  · rw [State.coreReset_boot h]
    exact Boot.enter_asked s.boot

end Sys2Proof.Machine
end

section
/-! Reset release (O25): what the load of the configuration leaves of the start-up data, and the portals it may leave without a bank. -/

namespace Sys2Proof.Machine

/-! The start-up data and the time to the commit, which no part of the load changes -/

/-- What reset release notes of itself beside the engine's fields (R433, R437). -/
def State.origin (s : State) : Boot × Nat := (s.boot, s.cfg.loadUs)

@[simp] theorem State.origin_mk (pending freeCount out regs boot time cfg links seq ilk sw field lsw fio leaves encs steps moves dies
    pwrScale pwrNow pwrQuiet pat cans hif mem0 mem1 recd) :
    (⟨pending, freeCount, out, regs, boot, time, cfg, links, seq, ilk, sw, field, lsw, fio, leaves, encs, steps, moves, dies,
      pwrScale, pwrNow, pwrQuiet, pat, cans, hif, mem0, mem1, recd⟩ : State).origin = (boot, cfg.loadUs) := (rfl)

@[simp] theorem State.origin_eta (s : State) : (s.boot, s.cfg.loadUs) = s.origin := (rfl)

@[simp] theorem State.ite_origin (c : Prop) [Decidable c] (s t : State) :
    (if c then s else t).origin = if c then s.origin else t.origin := apply_ite State.origin c s t

@[simp] theorem State.ite_fst_origin {α : Type} (c : Prop) [Decidable c] (a b : State × α) :
    (if c then a else b).1.origin = if c then a.1.origin else b.1.origin := apply_ite (fun x : State × α => x.1.origin) c a b

@[simp] theorem State.foldl_origin {ι : Type} (f : State → ι → State) (h : ∀ s i, (f s i).origin = s.origin) (l : List ι)
    (s : State) : (l.foldl f s).origin = s.origin :=
  (foldl_keeps (fun s t => s.origin = t.origin) (fun _ => rfl) Eq.trans f (fun s i => (h s i).symm) l s).symm

@[simp] theorem State.foldl_fst_origin {α ι : Type} (f : State × α → ι → State × α) (h : ∀ a i, (f a i).1.origin = a.1.origin)
    (l : List ι) (a : State × α) : (l.foldl f a).1.origin = a.1.origin :=
  (foldl_keeps (fun a b => a.1.origin = b.1.origin) (fun _ => rfl) Eq.trans f (fun a i => (h a i).symm) l a).symm

theorem State.Posted.origin {u t : State} (h : u.Posted t) : t.origin = u.origin := by
  rw [State.origin, State.origin, h.boot, h.cfg]

@[simp] theorem State.says_origin (l : List (Nat × List Byte)) (s : State) : (s.says l).origin = s.origin := (State.says_posted l s).origin
@[simp] theorem State.can_origin (ctl : Nat) (f : CanCtl → CanCtl) (s : State) : (s.can ctl f).origin = s.origin := rfl
@[simp] theorem State.link_origin (n : Nat) (f : Link → Link) (s : State) : (s.link n f).origin = s.origin := rfl
@[simp] theorem State.bankState_origin (b : Nat) (f : BankState → BankState) (s : State) : (s.bankState b f).origin = s.origin := rfl
@[simp] theorem State.setRecFrom_origin (port n : Nat) (s : State) : (s.setRecFrom port n).origin = s.origin := rfl
@[simp] theorem State.patMod_origin (f : Pat → Pat) (s : State) : (s.patMod f).origin = s.origin := rfl
@[simp] theorem State.noteRemote_origin (off : Nat) (w : Word) (s : State) : (s.noteRemote off w).origin = s.origin := rfl
@[simp] theorem State.takeWord_origin (r : RegRow) (i : Nat) (w : Word) (s : State) : (s.takeWord r i w).origin = s.origin := by
  simp [State.takeWord]
@[simp] theorem State.judgeField_origin (r : RegRow) (i : Nat) (w : Word) (s : State) : (s.judgeField r i w).origin = s.origin :=
  State.says_origin _ _
@[simp] theorem State.reliefWord_origin (es : List CfgEntry) (check : Bool) (a : State × List Nat) (off : Nat) :
    (State.reliefWord es check a off).1.origin = a.1.origin := by
  unfold State.reliefWord
  split <;> simp

@[simp] theorem State.changeRelief_origin (new : Nat) (s : State) : (s.changeRelief new).1.origin = s.origin := by
  simp [State.changeRelief]
@[simp] theorem State.loadBlob_origin (b off dst n : Nat) (s : State) : (s.loadBlob b off dst n).origin = s.origin := by
  simp [State.loadBlob]
@[simp] theorem State.applyImage_origin (b : Nat) (m : Image) (s : State) : (s.applyImage b m).origin = s.origin := by
  simp [State.applyImage]
@[simp] theorem State.tryBank_origin (a : State × Bool) (b : Nat) : (State.tryBank a b).1.origin = a.1.origin := by
  unfold State.tryBank
  dsimp only
  repeat' split
  all_goals simp

@[simp] theorem State.bankSeen_origin (b : Nat) (id : Option (Nat × Nat)) (com : Bool) (s : State) :
    (s.bankSeen b id com).origin = s.origin := rfl
@[simp] theorem State.uncommitted_origin (b : Nat) (id : Option (Nat × Nat)) (com : Bool) (s : State) :
    (s.uncommitted b id com).origin = s.origin := by simp [State.uncommitted]
@[simp] theorem State.noImage_origin (bank : Nat) (s : State) : (s.noImage bank).origin = s.origin := by simp [State.noImage]
@[simp] theorem State.loadConfig_origin (s : State) : s.loadConfig.origin = s.origin := by simp [State.loadConfig]
@[simp] theorem State.findHead_origin (s : State) : s.findHead.origin = s.origin := by
  unfold State.findHead
  extract_lets rf z first r k skip next rec s1 s2
  clear_value k next skip
  have h1 : s1.origin = s.origin := rfl
  have h2 : s2.origin = s1.origin := (State.setRecFrom_origin _ _ _).trans (State.setRecFrom_origin _ _ _)
  exact (State.says_origin _ _).trans (h2.trans h1)

@[simp] theorem State.initMemory_origin (straps : Nat) (s : State) : (s.initMemory straps).origin = s.origin := by
  simp [State.initMemory]

/-! The patina's own restore changes neither registers nor configuration -/

/-- Registers and configuration of two states agree. -/
def State.SameSetup (s t : State) : Prop := t.regs = s.regs ∧ t.cfg = s.cfg ∧ t.boot = s.boot

theorem State.SameSetup.trans {s t u : State} (h : s.SameSetup t) (k : t.SameSetup u) : s.SameSetup u :=
  ⟨k.1.trans h.1, k.2.1.trans h.2.1, k.2.2.trans h.2.2⟩

theorem State.Posted.sameSetup {s t : State} (h : s.Posted t) : s.SameSetup t := ⟨h.regs, h.cfg, h.boot⟩

theorem State.armStore_sameSetup (l dir b w : Nat) (s : State) : s.SameSetup (s.armStore l dir b w) := by
  unfold State.armStore
  dsimp only
  split <;> exact ⟨rfl, rfl, rfl⟩

theorem State.patRestore_sameSetup (s : State) : s.SameSetup s.patRestore := by
  unfold State.patRestore
  extract_lets s1 fresh bad s2
  have h1 : s.SameSetup s1 := ⟨rfl, rfl, rfl⟩
  have hfresh : ∀ u : State, u.SameSetup (fresh u) := fun _ => ⟨rfl, rfl, rfl⟩
  split
  · exact h1.trans (hfresh s1)
  · split
    · exact h1.trans (hfresh s1)
    · next x _ =>
      have h2 : s.SameSetup s2 := ⟨rfl, rfl, rfl⟩
      have hsays : ∀ l, s.SameSetup ((fresh s2).says l) := fun l => (h2.trans (hfresh s2)).trans (State.says_posted l _).sameSetup
      split
      · exact hsays _
      · split
        · exact hsays _
        · exact State.SameSetup.trans (t := s2.patMod _) h2 (foldl_keeps State.SameSetup (fun _ => ⟨rfl, rfl, rfl⟩)
            State.SameSetup.trans _ (fun u a => State.armStore_sameSetup _ _ _ _ u) x.arms _)

/-! Portals without a bank -/

/-- PORTAL_EN of none (R415, R436). -/
theorem RegFile.noPortals_PORTAL_EN (f : RegFile) : f.noPortals.SEQ_BANK_MAP_PORTAL_EN = 0 := by
  have hdiffers : f.word Reg.SEQ_BANK_MAP 0 &&& 0xFF00FFFF ≠ Reg.SEQ_BANK_MAP.resetWord 0 := fun h => by
    have hbit : (Reg.SEQ_BANK_MAP.resetWord 0).getLsbD 16 = false := by rw [← h]; simp
    exact absurd hbit (by decide)
  show fldW (f.noPortals.word Reg.SEQ_BANK_MAP 0) 23 16 = 0
  rw [RegFile.noPortals, RegFile.word_setWord_same _ _ _ _ hdiffers, fldW, bitsOf, BitVec.toNat_and, Nat.shiftRight_and_distrib,
    Nat.and_mod_two_pow]
  exact Nat.and_zero _

/-! The commit -/

/-- The commit changes nothing of the configuration but that it is committed, and the registers only in a storm (R416, R436). -/
theorem State.commitConfig_frame (s : State) : s.commitConfig.regs = (if s.boot.storm then s.regs.noPortals else s.regs) ∧
    s.commitConfig.boot = s.boot ∧ s.commitConfig.cfg = { s.cfg with committed := true } := by
  unfold State.commitConfig
  extract_lets s1 k mode exp cfg1 s2 s3 s4
  have h2 : State.SameSetup { s1 with ilk := k.1, cfg := { s1.cfg with committed := true } } s2 := (State.says_posted k.2 _).sameSetup
  have h3 := h2.trans (State.says_posted (wiringEvents s2.regs) s2).sameSetup
  have h4 : State.SameSetup { s1 with ilk := k.1, cfg := { s1.cfg with committed := true } } s4 := by
    simp only [s4]
    split
    · exact h3.trans (State.says_posted _ s3).sameSetup
    · exact h3
  obtain ⟨hregs, hcfg, hboot⟩ := State.SameSetup.trans (t := s4.sendSettings) h4 (State.says_posted _ s4.sendSettings).sameSetup
  exact ⟨hregs, hboot, hcfg⟩

/-- With CFG_SKIP the load takes no image (R455). -/
theorem State.loadConfig_skipped {s : State} (h : s.boot.straps.testBit 7 = true) : ∃ (u : State) (bank : Nat), s.loadConfig = u.noImage bank := by
  unfold State.loadConfig
  extract_lets p0 p1' order s1 s2 r
  rw [if_pos (show s1.boot.straps.testBit 7 = true from h)]
  exact ⟨s2, _, rfl⟩

theorem State.noImage_frame (bank : Nat) (s : State) : (s.noImage bank).regs = RegFile.reset.safetyClasses.noPortals ∧
    (s.noImage bank).cfg.noImage = true ∧ (s.noImage bank).cfg.relief = 0x1F := by
  simp [State.noImage]

/-! The release -/

/-- Reset release up to the search for the record's head (R433, R437). -/
def State.released (straps fillClocks us : Nat) (s : State) : State :=
  let t := (s.sampleStraps straps fillClocks us).initMemory straps
  { t with boot := { t.boot with stormTimes := (t.boot.stormTimes.map (· + us / 50)).filter (fun x => decide (x < stormSpan)) } }

theorem State.release_of_held {s : State} (hheld : s.boot.phase = .deviceReset ∨ s.boot.phase = .coreReset) {straps : Nat}
    (htest : straps.testBit 8 = false) (fillClocks us : Nat) : s.release straps fillClocks us =
    ((s.released straps fillClocks us).link 7 (fun l => { l with up := true })).findHead.loadConfig.patRestore.commitConfig := by
  have hphase : ¬(s.boot.phase ≠ .deviceReset ∧ s.boot.phase ≠ .coreReset) := fun h => hheld.elim h.1 h.2
  rw [State.release, if_neg hphase, if_neg (by simp [htest])]
  rfl

theorem State.released_engine (straps fillClocks us : Nat) (s : State) : (s.released straps fillClocks us).engine =
    { pending := s.pending, phase := .linkUp 0, tick := us / 50, armed := false, overrun := false, ovrCount := 0, lastSlot := 0,
      sinceOvr := 0, holdStart := 0, clrAsked := false } :=
  (State.initMemory_engine straps (s.sampleStraps straps fillClocks us) :)

theorem State.released_origin (straps fillClocks us : Nat) (s : State) : (s.released straps fillClocks us).origin =
    ({ s.boot with phase := .linkUp 0, straps := straps % 512, fillClocks := if straps.testBit 0 then 0 else fillClocks
                   stormTimes := (s.boot.stormTimes.map (· + us / 50)).filter (fun x => decide (x < stormSpan)) }, us) := by
  have hboot := congrArg Prod.fst (State.initMemory_origin straps (s.sampleStraps straps fillClocks us))
  have hus := congrArg Prod.snd (State.initMemory_origin straps (s.sampleStraps straps fillClocks us))
  simp only [State.origin] at hboot hus
  simp only [State.released, State.origin, hboot, hus]
  rfl

/-- The state in which the loaded configuration is committed. -/
def State.loaded (straps fillClocks us : Nat) (s : State) : State :=
  ((s.released straps fillClocks us).link 7 (fun l => { l with up := true })).findHead.loadConfig

theorem State.loaded_origin (straps fillClocks us : Nat) (s : State) :
    (s.loaded straps fillClocks us).origin = (s.released straps fillClocks us).origin := by simp [State.loaded]

theorem State.loaded_boot (straps fillClocks us : Nat) (s : State) : (s.loaded straps fillClocks us).boot =
    { s.boot with phase := .linkUp 0, straps := straps % 512, fillClocks := if straps.testBit 0 then 0 else fillClocks
                  stormTimes := (s.boot.stormTimes.map (· + us / 50)).filter (fun x => decide (x < stormSpan)) } :=
  congrArg Prod.fst ((State.loaded_origin straps fillClocks us s).trans (State.released_origin straps fillClocks us s))

theorem State.loaded_loadUs (straps fillClocks us : Nat) (s : State) : (s.loaded straps fillClocks us).cfg.loadUs = us :=
  congrArg Prod.snd ((State.loaded_origin straps fillClocks us s).trans (State.released_origin straps fillClocks us s))

/-- With CFG_SKIP no image is loaded, whatever the banks hold (R455). -/
theorem State.loaded_skipped {straps : Nat} (h : straps.testBit 7 = true) (fillClocks us : Nat) (s : State) :
    ∃ (u : State) (bank : Nat), s.loaded straps fillClocks us = u.noImage bank := by
  have horigin : ((s.released straps fillClocks us).link 7 (fun l => { l with up := true })).findHead.origin =
      (s.released straps fillClocks us).origin := by simp
  refine State.loadConfig_skipped ?_
  have hstraps : ((s.released straps fillClocks us).link 7 (fun l => { l with up := true })).findHead.boot.straps = straps % 512 :=
    congrArg (fun o => o.1.straps) (horigin.trans (State.released_origin straps fillClocks us s))
  rw [hstraps]
  simpa [Nat.testBit_mod_two_pow (j := 9)] using h

/-- Settles O25: a release where no reset stands does nothing, one with the test strap stops there, and one that loads keeps what it has
noted while the parts of the load follow each other. -/
theorem resetReleased : Obligations.ResetReleased := by
  intro straps fillClocks us s
  refine ⟨fun hdevice hcore => ?none, fun hheld => ⟨fun htest => ?test, fun htest => ?load⟩⟩
  case none => exact congrArg Host.Outcome.next (if_pos ⟨hdevice, hcore⟩)
  case test =>
    have hphase : ¬(s.boot.phase ≠ .deviceReset ∧ s.boot.phase ≠ .coreReset) := fun h => hheld.elim h.1 h.2
    show Host.Outcome.next (s.release straps fillClocks us) = _
    rw [State.release, if_neg hphase, if_pos htest]
  case load =>
    have hrelease : s.release straps fillClocks us = (s.loaded straps fillClocks us).patRestore.commitConfig :=
      State.release_of_held hheld htest fillClocks us
    have hengine : (s.release straps fillClocks us).engine = (s.released straps fillClocks us).engine := by
      rw [hrelease]
      simp [State.loaded]
    rw [State.released_engine] at hengine
    obtain ⟨hregsP, hcfgP, hbootP⟩ := State.patRestore_sameSetup (s.loaded straps fillClocks us)
    obtain ⟨hregs, hboot, hcfg⟩ := State.commitConfig_frame (s.loaded straps fillClocks us).patRestore
    rw [← hrelease] at hregs hboot hcfg
    rw [hregsP, hbootP] at hregs
    rw [hbootP] at hboot
    rw [hcfgP] at hcfg
    refine ⟨_, rfl, congrArg Engine.phase hengine, ?_, congrArg Engine.tick hengine, congrArg Engine.overrun hengine,
      congrArg Engine.armed hengine, ?_, ?_, ?_, congrArg Engine.pending hengine, fun hskip => ?_, fun hstorm => ?_⟩
    · rw [hboot, State.loaded_boot]
    · rw [hcfg]
    · rw [hcfg]
      exact State.loaded_loadUs straps fillClocks us s
    · rw [hboot, State.loaded_boot]
    · obtain ⟨u, bank, hnone⟩ := State.loaded_skipped hskip fillClocks us s
      obtain ⟨hnoRegs, hnoImage, hnoRelief⟩ := State.noImage_frame bank u
      rw [hregs, hcfg, hnone]
      refine ⟨hnoImage, hnoRelief, ?_⟩
      rw [hnoRegs]
      split <;> exact RegFile.noPortals_PORTAL_EN _
    · rw [hregs, State.loaded_boot, if_pos hstorm]
      exact RegFile.noPortals_PORTAL_EN _

end Sys2Proof.Machine
end

section
/-! The field die (O17, O18): its supply, its wire breaks and outputs, and one sample through an input's filter (R294 to R301). -/

namespace Sys2Proof.Machine

/-! Rows of the field die -/

theorem State.onField_of (f : FieldDie → FieldDie) {s : State} (h : s.boot.phase ≠ .deviceReset) :
    s.onField f = { s with field := f s.field } := if_neg h

theorem State.onField_up {f : FieldDie → FieldDie} {s : State} (h : s.boot.phase ≠ .deviceReset) (hup : s.field.up = true) :
    s.onField (fun d => if d.up then f d else d) = { s with field := f s.field } := by
  rw [State.onField_of _ h]
  exact congrArg (fun d => { s with field := d }) (if_pos hup)

/-! The supply -/

theorem FieldDie.supplyTo_same {st : Nat} {d : FieldDie} (h : d.supply = st) (v : Nat) : d.supplyTo st v = d := if_pos h

theorem FieldDie.supplyTo_new {st : Nat} {d : FieldDie} (h : d.supply ≠ st) (v : Nat) : d.supplyTo st v =
    { d with supply := st, ins := if st = 0 then d.ins.map (fun x => { x with wbRun := 0 }) else d.ins
             reports := d.reports ++ [(0x0B01, p1 st ++ p2 (v : Nat))] } := if_neg h

theorem FieldDie.declareSupply_missing (low : Bool) (v : Nat) (d : FieldDie) : d.declareSupply true low v = d.supplyTo 2 v := if_pos rfl

theorem FieldDie.declareSupply_low {d : FieldDie} (h : d.supply ≠ 1) (v : Nat) : d.declareSupply false true v = d.supplyTo 1 v := by
  simp [FieldDie.declareSupply, h]

theorem FieldDie.recovered_of_low {d : FieldDie} (h : d.supply = 1) (v : Nat) : d.recovered v = d.supplyTo 0 v := if_pos h

theorem FieldDie.unknown_of_bad_supply {d : FieldDie} (h : d.supply ≠ 0) : d.unknown = 0xFFFFFFFFFFFFFFFF := if_pos h

theorem FieldDie.unknown_of_wireBreak {d : FieldDie} {i : Nat} (hi : i < 64) (hgood : d.supply = 0) (hwb : (d.ins.nth i).wb = true) :
    d.unknown.testBit i = true := by
  rw [FieldDie.unknown, if_neg (by simp [hgood]), testBit_maskOf]
  simp [hi, hwb]

theorem FieldDie.outOn_of_missing {d : FieldDie} (h : d.supply = 2) (j : Nat) : d.outOn j = false := by
  simp [FieldDie.outOn, FieldDie.outputsLive, h]

theorem FieldDie.outOn_of_hot {d : FieldDie} {j : Nat} (h : (d.outs.nth j).hot = true) : d.outOn j = false := by
  simp [FieldDie.outOn, h]

section
variable {s : State} (hreset : s.boot.phase ≠ .deviceReset) (hup : s.field.up = true)
include hreset hup

theorem exec_fieldSupplyState (missing low : Bool) (v : Nat) : exec (.fieldSupplyState missing low v) s =
    .next { s with field := s.field.declareSupply missing low v } :=
  congrArg Host.Outcome.next (State.onField_up (f := FieldDie.declareSupply missing low v) hreset hup)

theorem exec_fsRecExpired (v : Nat) : exec (.fsRecExpired v) s = .next { s with field := s.field.recovered v } :=
  congrArg Host.Outcome.next (State.onField_up (f := FieldDie.recovered v) hreset hup)

theorem exec_fieldOutputThermal {j : Nat} (hj : j < 16) (hot : Bool) : exec (.fieldOutputThermal j hot) s =
    .next { s with field := s.field.thermal j hot } := by
  rw [← State.onField_up (f := FieldDie.thermal j hot) hreset hup]
  exact onObject_of_lt 16 j _ hj

theorem exec_wireBreak {i : Nat} (hi : i < 64) (hgood : s.field.supply = 0) (hen : s.field.settings.FIO_F_CFG_WB_EN i ≠ 0)
    (broken : Bool) (ua : Nat) : exec (.wireBreak i broken ua) s = .next { s with field := { s.field with
      ins := s.field.ins.put i ((s.field.ins.nth i).wire i broken ua).1
      reports := s.field.reports ++ ((s.field.ins.nth i).wire i broken ua).2 } } := by
  refine (onObject_of_lt 64 i _ hi).trans ?_
  rw [State.onField_of _ hreset, if_neg (by simp [hup, hgood, hen])]
  rfl

end

theorem FieldIn.wire_changed {x : FieldIn} {broken : Bool} (h : x.wb ≠ broken) (i ua : Nat) : x.wire i broken ua =
    ({ x with wb := broken, wbRun := 0, wbEvents := if broken then satInc 16 x.wbEvents else x.wbEvents },
     [(0x0B02, p1 i ++ p1 (b2n broken) ++ p2 (ua : Nat))]) := if_neg h

/-- Settles O17: each row is its operation on the field die, and the supply, the wire break or the shutdown it leaves holds inputs
unknown and outputs off. -/
theorem fieldSupply : Obligations.FieldSupply := by
  intro s hreset hup
  refine ⟨fun low v hsupply => ?missing, fun v hsupply => ?low, fun v hsupply => ?recovered,
    fun i broken ua hi hgood hen hwb => ?wire, fun j hot hj => ?thermal⟩
  case missing =>
    refine ⟨_, exec_fieldSupplyState hreset hup true low v, rfl, ?_⟩
    rw [FieldDie.declareSupply_missing, FieldDie.supplyTo_new hsupply]
    exact ⟨rfl, FieldDie.unknown_of_bad_supply (Nat.succ_ne_zero 1), FieldDie.outOn_of_missing rfl, rfl⟩
  case low =>
    refine ⟨_, exec_fieldSupplyState hreset hup false true v, rfl, ?_⟩
    rw [FieldDie.declareSupply_low hsupply, FieldDie.supplyTo_new hsupply]
    exact ⟨rfl, FieldDie.unknown_of_bad_supply Nat.one_ne_zero, rfl⟩
  case recovered =>
    refine ⟨_, exec_fsRecExpired hreset hup v, rfl, ?_⟩
    rw [FieldDie.recovered_of_low hsupply, FieldDie.supplyTo_new (by simp [hsupply])]
    exact ⟨rfl, rfl, rfl⟩
  case wire =>
    refine ⟨_, exec_wireBreak hreset hup hi hgood hen broken ua, rfl, ?_⟩
    rw [FieldIn.wire_changed hwb]
    dsimp only
    rw [Vector.nth_put_same _ _ _ hi]
    refine ⟨rfl, rfl, fun k hk => Vector.nth_put_ne _ _ _ _ hk, rfl, fun hbroken => ?_⟩
    exact FieldDie.unknown_of_wireBreak hi hgood ((congrArg FieldIn.wb (Vector.nth_put_same _ i _ hi)).trans hbroken)
  case thermal =>
    refine ⟨_, exec_fieldOutputThermal hreset hup hj hot, rfl, ?_⟩
    have hhot : ((s.field.thermal j hot).outs.nth j).hot = hot := congrArg FieldOut.hot (Vector.nth_upd_same _ j _ hj)
    exact ⟨hhot, fun k hk => Vector.nth_upd_ne _ _ _ _ hk, fun h => FieldDie.outOn_of_hot (hhot.trans h)⟩

/-! One sample of an input -/

/-- Two inputs read alike: level, filter and counted changes. What the supply monitor and the wire break change is beside them. -/
structure FieldIn.ReadsAs (x y : FieldIn) : Prop where
  raw : y.raw = x.raw
  c : y.c = x.c
  filt : y.filt = x.filt
  changes : y.changes = x.changes

theorem FieldIn.ReadsAs.refl (x : FieldIn) : x.ReadsAs x := ⟨rfl, rfl, rfl, rfl⟩

theorem FieldIn.wire_readsAs (i : Nat) (broken : Bool) (ua : Nat) (x : FieldIn) : x.ReadsAs (x.wire i broken ua).1 := by
  unfold FieldIn.wire
  split <;> exact ⟨rfl, rfl, rfl, rfl⟩

/-- An input through the filter of R296, the wire break apart. -/
def FieldIn.filtered (f : RegFile) (i v : Nat) (x : FieldIn) : FieldIn :=
  let raw := rawLevel f i v x.raw
  let r := integrate (f.FIO_F_CFG_FILT i) x.c x.filt raw
  { x with raw := raw, c := r.1, filt := r.2, changes := if r.2 != x.filt then satInc 16 x.changes else x.changes }

theorem FieldIn.sample_readsAs (f : RegFile) (i v ua : Nat) (good : Bool) (x : FieldIn) :
    (x.filtered f i v).ReadsAs (x.sample f i v ua good).1 := by
  unfold FieldIn.sample
  extract_lets raw r chg below run y
  have hy : (x.filtered f i v).ReadsAs y := ⟨rfl, rfl, rfl, rfl⟩
  have htrans : ∀ {z w : FieldIn}, (x.filtered f i v).ReadsAs z → z.ReadsAs w → (x.filtered f i v).ReadsAs w := fun h k =>
    ⟨k.raw.trans h.raw, k.c.trans h.c, k.filt.trans h.filt, k.changes.trans h.changes⟩
  split
  · exact htrans (z := { y with wbRun := 0 }) ⟨rfl, rfl, rfl, rfl⟩ (FieldIn.wire_readsAs _ _ _ _)
  · split
    · exact htrans hy (FieldIn.wire_readsAs _ _ _ _)
    · exact hy

/-- What a sample of the supply leaves of the die's settings, its outputs and its inputs' readings (R299). -/
structure FieldDie.SupplyOnly (d e : FieldDie) : Prop where
  settings : e.settings = d.settings
  outs : e.outs = d.outs
  ins : ∀ i, i < 64 → (d.ins.nth i).ReadsAs (e.ins.nth i)

theorem FieldDie.supplyTo_supplyOnly (st v : Nat) (d : FieldDie) : d.SupplyOnly (d.supplyTo st v) := by
  by_cases hsame : d.supply = st
  · rw [FieldDie.supplyTo_same hsame]
    exact ⟨rfl, rfl, fun i _ => FieldIn.ReadsAs.refl _⟩
  · rw [FieldDie.supplyTo_new hsame]
    refine ⟨rfl, rfl, fun i hi => ?_⟩
    dsimp only
    split
    · rw [Vector.nth_map _ _ _ hi]
      exact ⟨rfl, rfl, rfl, rfl⟩
    · exact FieldIn.ReadsAs.refl _

theorem FieldDie.supplySample_supplyOnly (v : Nat) (d : FieldDie) : d.SupplyOnly (d.supplySample v) := by
  unfold FieldDie.supplySample FieldDie.recovered
  extract_lets e
  have he : d.SupplyOnly e := ⟨rfl, rfl, fun i _ => FieldIn.ReadsAs.refl _⟩
  have hto : ∀ st, d.SupplyOnly (e.supplyTo st v) := fun st =>
    have h := FieldDie.supplyTo_supplyOnly st v e
    ⟨h.settings, h.outs, h.ins⟩
  split
  · split
    · exact hto 1
    · exact he
  · split
    · exact hto 2
    · split
      · split
        · exact hto 1
        · exact he
      · split
        · split
          · exact hto 0
          · exact he
        · exact he

theorem FieldDie.sample_input {i : Nat} (hi : i < 64) {d : FieldDie} (hup : d.up = true) (volts microamps : List Nat) (fsup : Nat)
    (outVolts : List Nat) :
    ((d.ins.nth i).filtered d.settings i (volts.nth i)).ReadsAs ((d.sample volts microamps fsup outVolts).ins.nth i) := by
  have h := FieldDie.supplySample_supplyOnly fsup d
  have hin := h.ins i hi
  have hsample := FieldIn.sample_readsAs (d.supplySample fsup).settings i (volts.nth i) (microamps.nth i)
    (decide ((d.supplySample fsup).supply = 0)) ((d.supplySample fsup).ins.nth i)
  have hentry : (d.sample volts microamps fsup outVolts).ins.nth i = (((d.supplySample fsup).ins.nth i).sample
      (d.supplySample fsup).settings i (volts.nth i) (microamps.nth i) (decide ((d.supplySample fsup).supply = 0))).1 := by
    rw [FieldDie.sample, if_neg (by simp [hup])]
    simp [Vector.nth_ofFn _ _ hi, List.nth]
  rw [hentry]
  rw [h.settings] at hsample ⊢
  refine ⟨hsample.raw.trans ?_, hsample.c.trans ?_, hsample.filt.trans ?_, hsample.changes.trans ?_⟩ <;>
    simp [FieldIn.filtered, hin.raw, hin.c, hin.filt, hin.changes]

theorem FieldDie.sample_cmd {d : FieldDie} (hup : d.up = true) (volts microamps : List Nat) (fsup : Nat) (outVolts : List Nat) (j : Nat) :
    ((d.sample volts microamps fsup outVolts).outs.nth j).cmd = (d.outs.nth j).cmd := by
  rw [← (FieldDie.supplySample_supplyOnly fsup d).outs, FieldDie.sample, if_neg (by simp [hup])]
  dsimp only
  by_cases hj : j < 16
  · rw [Vector.nth_mapIdx _ _ _ hj]
    rfl
  · rw [Vector.nth_of_le _ _ (Nat.not_lt.mp hj), Vector.nth_of_le _ _ (Nat.not_lt.mp hj)]

/-! Thresholds and filter (R294, R296) -/

theorem rawLevel_on {f : RegFile} {i v : Nat} (h : (if f.FIO_F_CFG_TYPE i = 0 then 1500 else 1100) ≤ v) (old : Bool) :
    rawLevel f i v old = true := if_pos h

theorem rawLevel_off {v : Nat} (h : v ≤ 500) (f : RegFile) (i : Nat) (old : Bool) : rawLevel f i v old = false := by
  have hbelow : ¬(if f.FIO_F_CFG_TYPE i = 0 then 1500 else 1100) ≤ v := by split <;> omega
  exact (if_neg hbelow).trans (if_pos h)

theorem rawLevel_between {f : RegFile} {i v : Nat} (hlo : 500 < v) (hhi : v < if f.FIO_F_CFG_TYPE i = 0 then 1500 else 1100)
    (old : Bool) : rawLevel f i v old = old := (if_neg (Nat.not_le.mpr hhi)).trans (if_neg (Nat.not_le.mpr hlo))

theorem integrate_zero (c : Nat) (state raw : Bool) : integrate 0 c state raw = (0, raw) := rfl

theorem integrate_fst {filt : Nat} (h : filt ≠ 0) (c : Nat) (state raw : Bool) :
    (integrate filt c state raw).1 = if raw = true then min (c + 1) filt else c - 1 := by
  simp only [integrate, h, if_false]
  cases raw
  · rfl
  · simp only [if_true]
    split <;> omega

theorem integrate_snd {filt : Nat} (h : filt ≠ 0) (c : Nat) (state raw : Bool) : (integrate filt c state raw).2 = true ↔
    (integrate filt c state raw).1 = filt ∨ state = true ∧ (integrate filt c state raw).1 ≠ 0 := by
  simp only [integrate, h, if_false]
  generalize (if raw = true then if c < filt then c + 1 else filt else c - 1) = k
  by_cases hfull : k = filt
  · simp [hfull]
  · by_cases hempty : k = 0 <;> simp [hfull, hempty, and_comm]

/-- Settles O18: a sample reads each input through its filter, whatever the supply monitor and the wire break make of it beside. -/
theorem fieldSampleFilters : Obligations.FieldSampleFilters := by
  intro s volts microamps outVolts fsup i hreset hup hi
  have hread := FieldDie.sample_input hi hup volts microamps fsup outVolts
  refine ⟨_, congrArg Host.Outcome.next (State.onField_of _ hreset), rfl, ?_⟩
  dsimp only
  rw [hread.raw, hread.c, hread.filt, hread.changes]
  dsimp only [FieldIn.filtered]
  refine ⟨fun hon => ?_, fun hoff => ?_, fun hlo hhi => ?_, fun hzero => ?_, fun hfilt => ⟨?_, ?_⟩, fun hchanged => ?_,
    FieldDie.sample_cmd hup volts microamps fsup outVolts⟩
  · exact rawLevel_on hon _
  · exact rawLevel_off hoff _ _ _
  · exact rawLevel_between hlo hhi _
  · rw [hzero, integrate_zero]
  · exact integrate_fst hfilt _ _ _
  · exact integrate_snd hfilt _ _ _
  · exact if_pos (by simpa using hchanged)

end Sys2Proof.Machine
end

section
/-! Errors, bus-off and modes of a CAN controller (O45): each row is its operation on one controller (R310, R313, R314, R319 to R324). -/

namespace Sys2Proof.Machine

/-! What the reports of a controller leave of it -/

/-- Two controllers differ in ALONE and in the happenings noted alone (R323, R331). -/
def CanCtl.Reported (c d : CanCtl) : Prop := d = { c with alone := d.alone, happen := d.happen }

theorem CanCtl.Reported.trans {c d e : CanCtl} (h : c.Reported d) (k : d.Reported e) : c.Reported e := by
  unfold CanCtl.Reported at *
  rw [k, h]

theorem CanCtl.note_reported (code : Nat) (body : List Byte) (c : CanCtl) : c.Reported (c.note code body) := rfl

theorem CanCtl.watch_reported (ctl : Nat) (old c : CanCtl) : c.Reported (CanCtl.watch ctl old c) := by
  unfold CanCtl.watch
  split <;> rfl

theorem CanCtl.notAlone_reported (ctl : Nat) (c : CanCtl) : c.Reported (c.notAlone ctl) := by
  unfold CanCtl.notAlone
  split <;> rfl

theorem CanCtl.watch_alone (ctl : Nat) (old c : CanCtl) : (CanCtl.watch ctl old c).alone = c.alone := by
  unfold CanCtl.watch
  split <;> rfl

theorem CanCtl.notAlone_alone (ctl : Nat) (c : CanCtl) : (c.notAlone ctl).alone = false := by
  unfold CanCtl.notAlone
  split
  · rfl
  · next h => exact Bool.not_eq_true _ ▸ h

section
variable {c d : CanCtl} (h : c.Reported d)
include h

theorem CanCtl.Reported.mode : d.mode = c.mode := (congrArg CanCtl.mode h :)
theorem CanCtl.Reported.asked : d.asked = c.asked := (congrArg CanCtl.asked h :)
theorem CanCtl.Reported.tec : d.tec = c.tec := (congrArg CanCtl.tec h :)
theorem CanCtl.Reported.recv : d.recv = c.recv := (congrArg CanCtl.recv h :)
theorem CanCtl.Reported.busOff : d.busOff = c.busOff := (congrArg CanCtl.busOff h :)
theorem CanCtl.Reported.lec : d.lec = c.lec := (congrArg CanCtl.lec h :)
theorem CanCtl.Reported.recover : d.recover = c.recover := (congrArg CanCtl.recover h :)
theorem CanCtl.Reported.tx : d.tx = c.tx := (congrArg CanCtl.tx h :)
theorem CanCtl.Reported.failed : d.failed = c.failed := (congrArg CanCtl.failed h :)
theorem CanCtl.Reported.txreq : d.txreq = c.txreq := (congrArg CanCtl.txreq h :)
theorem CanCtl.Reported.retries : d.retries = c.retries := (congrArg CanCtl.retries h :)

end

/-! The operations -/

/-- A failed attempt is counted for its object and changes no error counter (R319). -/
theorem CanCtl.failed'_frame (rf : RegFile) (ctl o lec : Nat) (c : CanCtl) : (c.failed' rf ctl o lec).tx = c.tx ∧
    (c.failed' rf ctl o lec).lec = lec ∧ (c.failed' rf ctl o lec).failed = satInc 16 c.failed ∧
    (c.failed' rf ctl o lec).tec = c.tec ∧ (c.failed' rf ctl o lec).recv = c.recv ∧ (c.failed' rf ctl o lec).busOff = c.busOff := by
  unfold CanCtl.failed'
  extract_lets n d lim
  split <;> exact ⟨rfl, rfl, rfl, rfl, rfl, rfl⟩

/-- Bus-off begins where TEC has passed 255, and takes the frame off the bus (R321). -/
theorem CanCtl.checkOff_frame (ctl tick : Nat) (c : CanCtl) : ((c.checkOff ctl tick).busOff = true ↔ c.busOff = true ∨ 255 < c.tec) ∧
    (c.tx = none → (c.checkOff ctl tick).tx = none) ∧ (c.checkOff ctl tick).lec = c.lec ∧ (c.checkOff ctl tick).failed = c.failed ∧
    (c.checkOff ctl tick).tec = c.tec ∧ (c.checkOff ctl tick).recv = c.recv := by
  unfold CanCtl.checkOff
  split
  · next h =>
    have k := CanCtl.notAlone_reported ctl
      { c with busOff := true, offSince := tick, recover := 0, tx := none, busOffs := satInc 16 c.busOffs }
    exact ⟨by simp [k.busOff, h.1], fun _ => k.tx, k.lec, k.failed, k.tec, k.recv⟩
  · next h =>
    have hstays (hpassed : 255 < c.tec) : c.busOff = true := by
      cases hoff : c.busOff with
      | true => rfl
      | false => exact absurd ⟨hpassed, by simp [hoff]⟩ h
    exact ⟨⟨.inl, fun hoff => hoff.elim id hstays⟩, id, rfl, rfl, rfl, rfl⟩

/-- An attempt that counts: TEC rises by 8 and bus-off is judged (R319, R323). -/
theorem CanCtl.txError_counted {tx : CanTx} {c : CanCtl} (h : c.tx = some tx) (rf : RegFile) (ctl tick lec : Nat) :
    c.txError rf ctl tick lec false false = CanCtl.watch ctl c
      (({ ({ c with tx := none } : CanCtl).failed' rf ctl tx.obj lec with
          tec := min ((({ c with tx := none } : CanCtl).failed' rf ctl tx.obj lec).tec + 8) 256 } : CanCtl).checkOff ctl tick) := by
  simp [CanCtl.txError, h]

theorem CanCtl.rxError_restricted {c : CanCtl} (hon : c.onBus = true) (hmode : c.mode = 2) (ctl lec : Nat) (dom : Bool) :
    c.rxError ctl lec dom = { c with lec := lec } := by
  simp [CanCtl.rxError, hon, hmode]

theorem CanCtl.rxError_normal {c : CanCtl} (hon : c.onBus = true) (hmode : c.mode ≠ 2) (ctl lec : Nat) (dom : Bool) :
    c.rxError ctl lec dom = CanCtl.watch ctl c
      { c with tx := none, lec := lec, recv := min (c.recv + (if dom then 8 else 1)) 255 } := by
  simp [CanCtl.rxError, hon, hmode]

theorem CanCtl.recovered_of_busOff {c : CanCtl} (h : c.busOff = true) (ctl tick : Nat) : ({ c with
    busOff := false, tec := 0, recv := 0, retries := [], recover := 128 } : CanCtl).Reported (c.recovered ctl tick) := by
  rw [CanCtl.recovered, if_neg (by simp [h])]
  exact (CanCtl.note_reported _ _ _).trans (CanCtl.watch_reported _ _ _)

theorem CanCtl.exception_on_bus {c : CanCtl} (h : c.onBus = true) : c.exception = { c with px := satInc 16 c.px, pxTick := c.pxTick + 1 } := by
  simp [CanCtl.exception, h]

/-- The requested mode taken, with what CAN_MODE notes of it (R313, R314). -/
theorem CanCtl.toMode_reported (ctl m : Nat) (c : CanCtl) : ({ c with
    mode := m, asked := false, tec := if c.mode = 0 ∨ m = 0 then 0 else c.tec, recv := if c.mode = 0 ∨ m = 0 then 0 else c.recv } :
      CanCtl).Reported (c.toMode ctl m) := by
  unfold CanCtl.toMode
  extract_lets fresh d e
  have hd : d = { c with mode := m, asked := false, tec := if c.mode = 0 ∨ m = 0 then 0 else c.tec
                         recv := if c.mode = 0 ∨ m = 0 then 0 else c.recv } := by simp [d, fresh]
  have he : d.Reported e := by
    simp only [e]
    split
    · exact CanCtl.notAlone_reported _ _
    · rfl
  rw [← hd]
  split
  · exact he.trans (CanCtl.watch_reported _ _ _)
  · exact (he.trans (CanCtl.note_reported _ _ _)).trans (CanCtl.watch_reported _ _ _)

theorem CanCtl.toMode_init_alone (ctl : Nat) (c : CanCtl) : (c.toMode ctl 0).alone = false := by
  unfold CanCtl.toMode
  rw [CanCtl.watch_alone]
  split <;> exact CanCtl.notAlone_alone ctl _

/-! The rows -/

/-- A change of one controller, handed over: it has changed as the operation says, the others stand, and posting alone did the rest. -/
theorem State.can_flush {ctl : Nat} (h : ctl < 4) (f : CanCtl → CanCtl) (s : State) :
    ({ s with cans := (s.can ctl f).flush.cans } : State).Posted (s.can ctl f).flush ∧
    (s.can ctl f).flush.cans.nth ctl = f (s.cans.nth ctl) ∧
    ∀ k, k ≠ ctl → (s.can ctl f).flush.cans.nth k = s.cans.nth k := by
  rw [State.flush_cans]
  exact ⟨State.flush_posted (s.can ctl f), Vector.nth_upd_same _ _ _ h, fun k hk => Vector.nth_upd_ne _ _ _ _ hk⟩

section
variable {s : State} {ctl : Nat} (hctl : ctl < 4) (hcore : s.coreRuns = true)
include hctl hcore

theorem exec_canFailedAttempt (lec : Nat) (noDominant noCount : Bool) : exec (.canFailedAttempt ctl lec noDominant noCount) s =
    .next (s.can ctl (CanCtl.txError s.regs ctl s.time.tick lec noDominant noCount)).flush := onObject_inCore hctl hcore rfl

theorem exec_canReceiveError (lec : Nat) (dom : Bool) : exec (.canReceiveError ctl lec dom) s =
    .next (s.can ctl (CanCtl.rxError ctl lec dom)).flush := onObject_inCore hctl hcore rfl

theorem exec_canBusoffRecovered : exec (.canBusoffRecovered ctl) s = .next (s.can ctl (CanCtl.recovered ctl s.time.tick)).flush :=
  onObject_inCore hctl hcore rfl

theorem exec_canProtocolException : exec (.canProtocolException ctl) s = .next (s.can ctl CanCtl.exception).flush :=
  onObject_inCore hctl hcore rfl

theorem exec_canMode : exec (.canMode ctl) s = .next (s.can ctl (fun c =>
    if c.asked ∧ c.tx.isNone ∧ ¬c.busOff then c.toMode ctl (s.regs.CAN_C_MODE_MODE ctl) else c)).flush :=
  onObject_inCore hctl hcore rfl

end

/-- Settles O45: each row is its operation on the one controller, and the reports beside leave what the statement names. -/
theorem canErrors : Obligations.CanErrors := by
  intro s ctl hctl hcore
  refine ⟨fun tx lec htx => ?attempt, fun lec dom hon => ?receive, fun hoff => ?recovered, fun hon => ?exception,
    fun hasked hidle hbus => ?mode⟩
  case attempt =>
    obtain ⟨hposted, hself, hothers⟩ := State.can_flush hctl (CanCtl.txError s.regs ctl s.time.tick lec false false) s
    refine ⟨_, exec_canFailedAttempt hctl hcore lec false false, hposted, ?_⟩
    rw [hself, CanCtl.txError_counted htx]
    generalize s.cans.nth ctl = c
    obtain ⟨htx, hlec, hfailed, htec, hrecv, hoff⟩ := CanCtl.failed'_frame s.regs ctl tx.obj lec { c with tx := none }
    generalize ({ c with tx := none } : CanCtl).failed' s.regs ctl tx.obj lec = d at *
    obtain ⟨hoff', htx', hlec', hfailed', htec', hrecv'⟩ :=
      CanCtl.checkOff_frame ctl s.time.tick { d with tec := min (d.tec + 8) 256 }
    have k := CanCtl.watch_reported ctl c (({ d with tec := min (d.tec + 8) 256 } : CanCtl).checkOff ctl s.time.tick)
    rw [k.tx, htx' htx, k.lec, k.tec, k.failed, k.recv, k.busOff, hlec', htec', hfailed', hrecv', hoff']
    dsimp only
    rw [hlec, htec, hfailed, hrecv, hoff]
    exact ⟨rfl, rfl, rfl, rfl, rfl, or_congr_right (by dsimp only; omega), hothers⟩
  case receive =>
    obtain ⟨hposted, hself, hothers⟩ := State.can_flush hctl (CanCtl.rxError ctl lec dom) s
    refine ⟨_, exec_canReceiveError hctl hcore lec dom, hposted, ?_⟩
    rw [hself]
    by_cases hmode : (s.cans.nth ctl).mode = 2
    · rw [CanCtl.rxError_restricted hon hmode]
      exact ⟨rfl, rfl, fun h => absurd hmode h, fun _ => rfl, hothers⟩
    · rw [CanCtl.rxError_normal hon hmode]
      have k := CanCtl.watch_reported ctl (s.cans.nth ctl)
        { s.cans.nth ctl with tx := none, lec := lec, recv := min ((s.cans.nth ctl).recv + (if dom then 8 else 1)) 255 }
      exact ⟨k.lec, k.tec, fun _ => ⟨k.tx, k.recv⟩, fun h => absurd h hmode, hothers⟩
  case recovered =>
    obtain ⟨hposted, hself, hothers⟩ := State.can_flush hctl (CanCtl.recovered ctl s.time.tick) s
    refine ⟨_, exec_canBusoffRecovered hctl hcore, hposted, ?_⟩
    rw [hself]
    have k := CanCtl.recovered_of_busOff hoff ctl s.time.tick
    exact ⟨k.busOff, k.tec, k.recv, k.recover, k.retries, k.txreq, hothers⟩
  case exception =>
    rw [exec_canProtocolException hctl hcore, State.can, Vector.upd_congr s.cans ctl CanCtl.exception
      (fun c => { c with px := satInc 16 c.px, pxTick := c.pxTick + 1 }) (CanCtl.exception_on_bus hon)]
  case mode =>
    obtain ⟨hposted, hself, hothers⟩ := State.can_flush hctl (fun c =>
      if c.asked ∧ c.tx.isNone ∧ ¬c.busOff then c.toMode ctl (s.regs.CAN_C_MODE_MODE ctl) else c) s
    refine ⟨_, exec_canMode hctl hcore, hposted, ?_⟩
    rw [hself]
    rw [if_pos ⟨hasked, by simp [hidle], by simp [hbus]⟩]
    have k := CanCtl.toMode_reported ctl (s.regs.CAN_C_MODE_MODE ctl) (s.cans.nth ctl)
    refine ⟨k.mode, k.asked, fun hinit => ⟨k.tec.trans (if_pos (.inr hinit)), k.recv.trans (if_pos (.inr hinit)), ?_⟩, hothers⟩
    rw [hinit]
    exact CanCtl.toMode_init_alone ctl _

end Sys2Proof.Machine
end

section
/-! Port resets, link-up and configuration requests (O27, O28). What posting leaves of a port, then each row (R334, R335, R337, R338,
R406, R418, R438, R454). -/

namespace Sys2Proof.Machine

/-! What posting leaves of a port's link and requests -/

/-- The link of a port and what its requests go by. -/
structure PortLink where
  linkUp : Bool
  width : Nat
  speed : Nat
  inReset : Bool
  bme : Bool

/-- The link of a port. -/
def Port.link (p : Port) : PortLink := ⟨p.linkUp, p.width, p.speed, p.inReset, p.bme⟩

@[simp] theorem Port.give_link (rf : RegFile) (port tick : Nat) (e : Event) (directed : Bool) (p : Port) :
    (p.give rf port tick e directed).link = p.link := by
  unfold Port.give
  split
  · rfl
  · dsimp only
    split <;> rfl

theorem Hif.port_nth_ne {port k : Nat} (h : k ≠ port) (f : Port → Port) (x : Hif) : (x.port port f).ports.nth k = x.ports.nth k :=
  Vector.nth_upd_ne _ _ _ _ h

theorem Hif.port_nth_same {port : Nat} (h : port < 2) (f : Port → Port) (x : Hif) : (x.port port f).ports.nth port = f (x.ports.nth port) :=
  Vector.nth_upd_same _ _ _ h

theorem Hif.port_link {f : Port → Port} (h : ∀ p, (f p).link = p.link) (x : Hif) (port k : Nat) :
    ((x.port port f).ports.nth k).link = (x.ports.nth k).link :=
  Vector.nth_upd_keeps x.ports port k f Port.link h

/-- An event is a matter of the ports alone (R356). -/
theorem State.post_hif (e : Post) (s : State) : s.post e = { s with hif := { s.hif with ports := (s.post e).hif.ports } } := by
  obtain ⟨code, body, dest⟩ := e
  cases dest <;> rfl

theorem State.post_link (e : Post) (s : State) (k : Nat) : ((s.post e).hif.ports.nth k).link = (s.hif.ports.nth k).link := by
  obtain ⟨code, body, dest⟩ := e
  cases dest with
  | none =>
    exact (Hif.port_link (Port.give_link s.regs 1 s.time.tick _ _) _ 1 k).trans
      (Hif.port_link (Port.give_link s.regs 0 s.time.tick _ _) s.hif 0 k)
  | some port => exact Hif.port_link (Port.give_link s.regs port s.time.tick _ _) s.hif port k

/-- An event directed to one port leaves the others. -/
theorem State.post_port_ne {port k : Nat} (h : k ≠ port) (code : Nat) (body : List Byte) (s : State) :
    (s.post ⟨code, body, some port⟩).hif.ports.nth k = s.hif.ports.nth k := Hif.port_nth_ne h _ _

/-! What the record writer gives up with a port -/

/-- t is s but for busy pages, the events given to its ports, and the record writer's units. -/
def State.UnitsEnded (s t : State) : Prop :=
  t = { s with hif := { s.hif with busy := t.hif.busy, ports := t.hif.ports }, recd := { s.recd with units := t.recd.units } } ∧
  ∀ k, (t.hif.ports.nth k).link = (s.hif.ports.nth k).link

theorem State.UnitsEnded.refl (s : State) : s.UnitsEnded s := ⟨rfl, fun _ => rfl⟩

theorem State.UnitsEnded.trans {s t u : State} (h : s.UnitsEnded t) (k : t.UnitsEnded u) : s.UnitsEnded u := by
  refine ⟨?_, fun i => (k.2 i).trans (h.2 i)⟩
  rw [k.1, h.1]

theorem State.says_one (code : Nat) (body : List Byte) (s : State) : s.says [(code, body)] = s.post ⟨code, body, none⟩ := rfl

theorem State.captureEnd_reset (k valid : Nat) (s : State) : s.UnitsEnded (s.captureEnd k 2 valid) := by
  unfold State.captureEnd
  extract_lets u h h'
  rw [State.says_one]
  refine ⟨?_, fun i => State.post_link _ _ i⟩
  rw [State.post_hif]
  rfl

/-- The drain of a port is given up (R338). -/
def State.dropDrain (port : Nat) (s : State) : State :=
  match s.recd.drains.nth port with
  | none => s
  | some d => { s with hif := s.hif.setBusy d.page d.count false, recd := { s.recd with drains := s.recd.drains.put port none } }

theorem State.dropDrain_frame {port : Nat} (h : port < 2) (s : State) :
    s.dropDrain port = { s with hif := { s.hif with busy := (s.dropDrain port).hif.busy }, recd := (s.dropDrain port).recd } ∧
    (s.dropDrain port).recd.drains.nth port = none := by
  unfold State.dropDrain
  split
  · next hnone => exact ⟨rfl, hnone⟩
  · exact ⟨rfl, Vector.nth_put_same _ _ _ h⟩

theorem State.portResetRec_eq (port : Nat) (s : State) : s.portResetRec port = (List.range 4).foldl (fun (s : State) k =>
    let u := s.recd.units.nth k
    if (u.st = 1 ∨ u.st = 2) ∧ u.port = port then s.captureEnd k 2 (s.capHeld k) else s) (s.dropDrain port) := by
  unfold State.portResetRec State.dropDrain
  rfl

/-- What the port's drain and armed units leave: no drain of the port, and the rest but for busy pages and events (R338, R406). -/
theorem State.portResetRec_frame {port : Nat} (h : port < 2) (s : State) :
    s.portResetRec port = { s with hif := { s.hif with busy := (s.portResetRec port).hif.busy, ports := (s.portResetRec port).hif.ports }
                                   recd := (s.portResetRec port).recd } ∧
    (s.portResetRec port).recd.drains.nth port = none ∧
    ∀ k, ((s.portResetRec port).hif.ports.nth k).link = (s.hif.ports.nth k).link := by
  have hunits : (s.dropDrain port).UnitsEnded (s.portResetRec port) := by
    rw [State.portResetRec_eq]
    refine foldl_keeps State.UnitsEnded State.UnitsEnded.refl State.UnitsEnded.trans _ (fun t k => ?_) _ _
    dsimp only
    split
    · exact State.captureEnd_reset _ _ _
    · exact State.UnitsEnded.refl t
  obtain ⟨hdrop, hnone⟩ := State.dropDrain_frame h s
  generalize s.dropDrain port = d at *
  generalize s.portResetRec port = t at *
  obtain ⟨ht, hlink⟩ := hunits
  refine ⟨?_, ?_, fun k => ?_⟩
  · rw [ht, hdrop]
  · rw [ht]
    exact hnone
  · rw [hlink, hdrop]

/-! The port reset -/

/-- The kinds of reset that leave the link as it is (R338). -/
theorem PortResetKind.leaves_link (kind : PortResetKind) : (match kind with
    | .flr | .d3hot => false
    | .hotReset | .linkDown | .perst => true) = !(decide (kind = .flr) || decide (kind = .d3hot)) := by
  cases kind <;> rfl

theorem Hif.setBusy_all (b : Bool) (l : List PageRun) (h : Hif) : ∃ busy,
    l.foldl (fun h r => h.setBusy r.first r.count b) h = { h with busy := busy } :=
  foldl_keeps (fun h k : Hif => ∃ busy, k = { h with busy := busy }) (fun h => ⟨h.busy, rfl⟩)
    (fun ⟨_, hb⟩ ⟨c, hc⟩ => ⟨c, by rw [hc, hb]⟩) (fun (h : Hif) (r : PageRun) => h.setBusy r.first r.count b) (fun _ _ => ⟨_, rfl⟩) l h

/-- What a port reset leaves of the host interface: the reset port, and of the rest what belongs to the other port (R338). -/
theorem State.portResetHif_frame {port : Nat} (h : port < 2) (kind : PortResetKind) (s : State) :
    s.portResetHif port kind = { s with hif := (s.portResetHif port kind).hif, regs := s.regs.resetPort port } ∧
    (s.portResetHif port kind).hif = { s.hif with
      ports := (s.portResetHif port kind).hif.ports
      busy := (s.portResetHif port kind).hif.busy
      tracker := s.hif.tracker.filter (fun t => decide (t.job.cmd.port ≠ port))
      compl := s.hif.compl.filter (fun c => decide (c.port ≠ port))
      pages := s.hif.pages.filter (fun r => decide (r.job.cmd.port ≠ port))
      ownA := if port = 0 then 0 else s.hif.ownA
      ownB := if port = 0 then s.hif.ownB else 0
      bulkBytes := s.hif.bulkBytes.put port 0, bulkTicks := s.hif.bulkTicks.put port 0, bulkHeld := s.hif.bulkHeld.put port false } ∧
    (s.portResetHif port kind).hif.ports.nth port = { Port.reset with
      linkUp := (s.hif.ports.nth port).linkUp && (decide (kind = .flr) || decide (kind = .d3hot))
      width := if kind = .flr ∨ kind = .d3hot then (s.hif.ports.nth port).width else 0
      speed := if kind = .flr ∨ kind = .d3hot then (s.hif.ports.nth port).speed else 0
      inReset := !(decide (kind = .flr) || decide (kind = .d3hot)), upOwed := true } := by
  unfold State.portResetHif
  extract_lets h0 p pages down gone h1 q0 q h2
  obtain ⟨busy, hbusy⟩ := Hif.setBusy_all false gone h0
  have h1eq : h1 = { s.hif with busy := busy } := hbusy
  have hdown : down = !(decide (kind = .flr) || decide (kind = .d3hot)) := PortResetKind.leaves_link kind
  refine ⟨?_, ?_, ?_⟩
  · rw [State.post_hif]
  · rw [State.post_hif]
    simp only [h2, h1eq]
    rfl
  · rw [State.post_port_ne (by omega)]
    simp only [h2]
    rw [Vector.nth_put_same _ _ _ h]
    simp only [q, hdown]
    cases kind <;> rfl

theorem exec_portReset {s : State} {port : Nat} (h : port < 2) (hcore : s.coreRuns = true)
    (hen : portEnabled s.boot.straps port = true) (kind : PortResetKind) :
    exec (.portReset port kind) s = .next (s.portReset port kind).flush := onObject_inCore h hcore (if_pos hen)

/-! Link-up -/

/-- HIF_PORT_UP is a matter of the ports, and leaves their links (R338). -/
theorem State.tellUp_frame (port : Nat) (s : State) : s.tellUp port = { s with hif := { s.hif with ports := (s.tellUp port).hif.ports } } ∧
    ∀ k, ((s.tellUp port).hif.ports.nth k).link = (s.hif.ports.nth k).link := by
  unfold State.tellUp
  dsimp only
  split
  · refine ⟨?_, fun k => (State.post_link _ _ k).trans (Hif.port_link (f := fun p => { p with upOwed := false }) (fun _ => rfl)
      s.hif port k)⟩
    rw [State.post_hif]
    rfl
  · exact ⟨rfl, fun _ => rfl⟩

theorem State.portUp_of {s : State} {port : Nat} (hcore : s.coreRuns = true) (hen : portEnabled s.boot.straps port = true)
    (width speed : Nat) : s.portUp port width speed = ({ s with hif := s.hif.port port (fun p =>
      { p with linkUp := true, width := width, speed := speed, inReset := false }) } : State).tellUp port := by
  unfold State.portUp
  rw [if_neg]
  unfold State.coreRuns at hcore
  split at hcore <;> simp_all

theorem exec_portUp {s : State} {port : Nat} (h : port < 2) (width speed : Nat) :
    exec (.portUp port width speed) s = .next (s.portUp port width speed).flush := onObject_of_lt _ _ _ h

/-- Settles O27: what the record writer, the host interface, the pending OPENs and the open group give up, one after the other; a
link-up is the port's link and the event to the other port. -/
theorem portResetAndUp : Obligations.PortResetAndUp := by
  intro s port hport hcore hen
  refine ⟨fun kind => ⟨s.portReset port kind, exec_portReset hport hcore hen kind, ?_⟩, fun width speed =>
    ⟨s.portUp port width speed, exec_portUp hport width speed, ?_⟩⟩
  · obtain ⟨hrec, hdrain, hlink⟩ := State.portResetRec_frame hport s
    obtain ⟨hstate, hhif, hself⟩ := State.portResetHif_frame hport kind (s.portResetRec port)
    have hup : ((s.portResetRec port).hif.ports.nth port).linkUp = (s.hif.ports.nth port).linkUp :=
      congrArg PortLink.linkUp (hlink port)
    have hwidth : ((s.portResetRec port).hif.ports.nth port).width = (s.hif.ports.nth port).width :=
      congrArg PortLink.width (hlink port)
    have hspeed : ((s.portResetRec port).hif.ports.nth port).speed = (s.hif.ports.nth port).speed :=
      congrArg PortLink.speed (hlink port)
    rw [hup, hwidth, hspeed] at hself
    unfold State.portReset
    generalize s.portResetRec port = r at *
    generalize r.portResetHif port kind = t at *
    rw [hrec] at hhif
    dsimp only at hhif ⊢
    refine ⟨?_, hself, ?_, ?_, ?_, ?_, fun h0 => ⟨?_, ?_⟩, fun h1 => ⟨?_, ?_⟩, ?_, ?_⟩
    · rw [hstate, hrec]
    · rw [hhif]
    · rw [hhif]
      exact fun c hc => of_decide_eq_true (List.mem_filter.mp hc).2
    · rw [hhif]
      exact fun r hr => of_decide_eq_true (List.mem_filter.mp hr).2
    · rw [hstate]
      exact hdrain
    · exact (congrArg Hif.ownA hhif).trans (if_pos h0)
    · exact (congrArg Hif.ownB hhif).trans (if_pos h0)
    · exact (congrArg Hif.ownB hhif).trans (if_neg (by omega))
    · exact (congrArg Hif.ownA hhif).trans (if_neg (by omega))
    · rw [hstate, hrec]
    · rw [hstate, hrec]
  · rw [State.portUp_of hcore hen]
    obtain ⟨hframe, hlink⟩ := State.tellUp_frame port ({ s with hif := s.hif.port port (fun p =>
      { p with linkUp := true, width := width, speed := speed, inReset := false }) } : State)
    have hport' := hlink port
    dsimp only at hport'
    rw [Hif.port_nth_same hport] at hport'
    exact ⟨hframe, congrArg PortLink.linkUp hport', congrArg PortLink.width hport', congrArg PortLink.speed hport',
      congrArg PortLink.inReset hport', congrArg PortLink.bme hport'⟩

/-! Configuration requests -/

/-- The block answers requests with retry status (R438), or is out of reset. -/
def Boot.ready (b : Boot) : Bool :=
  match b.phase with
  | .deviceReset | .coreReset | .testMode => false
  | .linkUp _ | .first | .running => true

theorem State.coreRuns_iff_ready (s : State) : s.coreRuns = s.boot.ready := by
  unfold State.coreRuns Boot.ready
  cases s.boot.phase <;> rfl

/-- What a block out of reset does with a configuration request (R334, R335). -/
def State.configAnswer (port : Nat) (req : CfgReq) (s : State) : State :=
  match req with
  | .readId => { s with out := .config port ((if port = 0 then 0x2480 else 0x2481) * 65536 + 0x1C7E) false :: s.out }
  | .readClass => { s with out := .config port (0x118000 * 256 + revisionId) false :: s.out }
  | .readSubsys => { s with out := .config port (s.regs.HIF_SUBSYS_SSID * 65536 + s.regs.HIF_SUBSYS_SSVID) false :: s.out }
  | .setBme on => (({ s with hif := s.hif.port port (fun p => { p with bme := on }) } : State).msixSend port).tellUp port
  | .setExtTag on => { s with hif := s.hif.port port (fun p => { p with extTag := on }) }
  | .setMps n => if n = 128 ∨ n = 256 ∨ n = 512 then { s with hif := s.hif.port port (fun p => { p with mps := n }) } else s
  | .setMrrs n => if n = 128 ∨ n = 256 ∨ n = 512 then { s with hif := s.hif.port port (fun p => { p with mrrs := n }) }
    else if 512 < n then { s with hif := s.hif.port port (fun p => { p with mrrs := 512 }) } else s
  | .other => s

theorem exec_pcieConfigRequest {port : Nat} (hport : port < 2) {s t : State} {req : CfgReq} (h : s.pcieConfig port req = t) :
    exec (.pcieConfigRequest port req) s = .next t.flush := h ▸ onObject_of_lt _ _ _ hport

section
variable {port : Nat} {s : State} (hlive : s.portLive port = true)
include hlive

theorem State.pcieConfig_retry (hcore : s.coreRuns = false) (req : CfgReq) :
    s.pcieConfig port req = { s with out := .config port 0 true :: s.out } := by
  rw [State.coreRuns_iff_ready] at hcore
  unfold State.pcieConfig
  rw [if_neg (by simp [hlive]), if_pos]
  exact congrArg not hcore

theorem State.pcieConfig_answered (hcore : s.coreRuns = true) (req : CfgReq) : s.pcieConfig port req = s.configAnswer port req := by
  rw [State.coreRuns_iff_ready] at hcore
  unfold State.pcieConfig
  rw [if_neg (by simp [hlive]), if_neg]
  · cases req <;> rfl
  · exact fun hnot => Bool.false_ne_true ((congrArg not hcore).symm.trans hnot)

end

/-- Bus Master Enable with no HIF_PORT_UP owed to the other port: the waiting messages alone go (R334, R361). -/
theorem State.configAnswer_setBme {port : Nat} (hport : port < 2) {s : State} (howed : (s.hif.ports.nth port).upOwed = false) (on : Bool) :
    s.configAnswer port (.setBme on) = ({ s with hif := s.hif.port port (fun p => { p with bme := on }) } : State).msixSend port := by
  unfold State.configAnswer State.tellUp
  dsimp only
  rw [if_neg]
  unfold State.msixSend
  dsimp only
  rw [Hif.port_nth_same hport, Hif.port_nth_same hport]
  simp [howed]

/-- Settles O28: the core's reset decides between retry status and an answer, and each request is its one answer or setting. -/
theorem configRequests : Obligations.ConfigRequests := by
  intro s port hport hlive
  refine ⟨fun hcore req => exec_pcieConfigRequest hport (State.pcieConfig_retry hlive hcore req), fun hcore => ?_⟩
  have hanswer (req : CfgReq) {t : State} (h : s.configAnswer port req = t) : exec (.pcieConfigRequest port req) s = .next t.flush :=
    exec_pcieConfigRequest hport ((State.pcieConfig_answered hlive hcore req).trans h)
  exact ⟨hanswer .readId rfl, hanswer .readClass rfl, hanswer .readSubsys rfl,
    fun on howed => hanswer (.setBme on) (State.configAnswer_setBme hport howed on), fun on => hanswer (.setExtTag on) rfl,
    fun n hn => ⟨hanswer (.setMps n) (if_pos hn), hanswer (.setMrrs n) (if_pos hn)⟩, hanswer .other rfl⟩

end Sys2Proof.Machine
end

section
/-! Rings, jets and descriptor fetches (O48): each row on the ring it names (R342 to R350). -/

namespace Sys2Proof.Machine

/-! Rings of ports -/

theorem Port.ring_nth_same {r : Nat} (h : r < 64) (f : Ring → Ring) (p : Port) : (p.ring r f).rings.nth r = f (p.rings.nth r) :=
  Vector.nth_upd_same _ _ _ h

theorem Hif.ringOf_ring_same {port r : Nat} (hport : port < 2) (hr : r < 64) (f : Ring → Ring) (h : Hif) :
    (h.port port (fun p => p.ring r f)).ringOf port r = f (h.ringOf port r) := by
  rw [Hif.ringOf, Hif.port_nth_same hport]
  exact Port.ring_nth_same hr _ _

/-- Two changes of a port that agree on it are the same change. -/
theorem Hif.port_congr {port : Nat} {f g : Port → Port} {h : Hif} (e : f (h.ports.nth port) = g (h.ports.nth port)) :
    h.port port f = h.port port g := by
  rw [Hif.port, Hif.port, Vector.upd_congr _ _ _ _ e]

/-- Two changes of a ring that agree on it are the same change. -/
theorem Hif.ring_congr {port r : Nat} {f g : Ring → Ring} {h : Hif} (e : f (h.ringOf port r) = g (h.ringOf port r)) :
    h.port port (fun p => p.ring r f) = h.port port (fun p => p.ring r g) := by
  refine Hif.port_congr ?_
  rw [Port.ring, Port.ring, Vector.upd_congr (h.ports.nth port).rings r f g e]

theorem State.ringError_eq (port r cause : Nat) (s : State) : s.ringError port r cause =
    ({ s with hif := s.hif.ringFails port r cause } : State).post ⟨0x0D03, p1 r ++ p1 cause, some port⟩ := by
  unfold State.ringError Hif.ringFails
  simp only [Bool.and_eq_true, decide_eq_true_eq]
  rfl

/-! The jets, for a live port once the configuration is committed -/

section
variable {s : State} {port r : Nat} (hup : s.up = true)
include hup

theorem State.ringEnable_disabled (h : (s.hif.ringOf port r).st = .disabled) : s.ringEnable port r =
    { s with hif := s.hif.port port (fun p => p.ring r (fun _ => { Ring.reset with st := .running })) } := by
  unfold State.ringEnable
  rw [if_neg (by simp [hup]), Hif.ring_congr (f := fun x => if x.st = .disabled then { Ring.reset with st := .running } else x)
    (g := fun _ => { Ring.reset with st := .running }) (if_pos h)]

variable (hlive : s.portLive port = true)
include hlive

theorem State.jets_ignored (h : (s.hif.ringOf port r).st ≠ .running) (v : Word) :
    s.jetTail port r v = s.jetIgnored port ∧ s.jetCq port r v = s.jetIgnored port := by
  simp [State.jetTail, State.jetCq, hup, hlive, h]

theorem State.jetTail_beyond (h : (s.hif.ringOf port r).st = .running) {v : Word} (hv : ringSize s.regs port r ≤ v.toNat) :
    s.jetTail port r v = s.ringError port r 1 := by
  simp [State.jetTail, hup, hlive, h, hv]

theorem State.jetTail_taken (h : (s.hif.ringOf port r).st = .running) (hcmd : ringIsEvent s.regs port r = false) {v : Word}
    (hv : v.toNat < ringSize s.regs port r) :
    s.jetTail port r v = { s with hif := s.hif.port port (fun p => p.ring r (fun x => { x with host := v.toNat })) } := by
  simp [State.jetTail, hup, hlive, h, hcmd, Nat.not_le.mpr hv]

theorem State.jetCq_taken (h : (s.hif.ringOf port r).st = .running) (hcmd : ringIsEvent s.regs port r = false) {v : Word}
    (hv : v.toNat < ringSize s.regs port r)
    (hpasses : passes (ringSize s.regs port r) (s.hif.ringOf port r).cqHost v.toNat (s.hif.ringOf port r).cqDev = false) :
    s.jetCq port r v = { s with hif := s.hif.port port (fun p => p.ring r (fun x => { x with cqHost := v.toNat })) } := by
  simp [State.jetCq, hup, hlive, h, hcmd, Nat.not_le.mpr hv, hpasses]

theorem State.fetch_in_turn (h : s.hif.turn s.regs port = some r) : s.fetch port r = { s with
    out := .fetchRead port r (s.hif.ringOf port r).dev (s.hif.fetchCount s.regs port r) :: s.out
    hif := s.hif.port port (fun p => { (p.ring r (fun x => { x with
      asked := s.hif.fetchCount s.regs port r
      askedRes := min (s.hif.fetchCount s.regs port r) (s.hif.resRoom s.regs port r) })) with
      served := p.served.put (ringClass s.regs port r) r }) } := by
  simp [State.fetch, hup, hlive, h]

end

/-- A running event ring is disabled, a running command ring drains (R342). -/
theorem State.ringDisable_running {s : State} {port r : Nat} (h : (s.hif.ringOf port r).st = .running) : s.ringDisable port r =
    { s with hif := (s.hif.port port (fun p => p.ring r (fun x =>
      { x with st := if ringIsEvent s.regs port r then .disabled else .draining, asked := 0 }))).drained } := by
  unfold State.ringDisable
  dsimp only
  rw [Hif.ring_congr (g := fun x => { x with st := if ringIsEvent s.regs port r then .disabled else .draining, asked := 0 })]
  rw [h]

/-! Fetch completions -/

section
variable {s : State} {port r us : Nat} (hus : us ≤ 8) (hasked : (s.hif.ringOf port r).asked ≠ 0)
  (hrun : (s.hif.ringOf port r).st = .running)
include hus hasked hrun

theorem State.fetched_failed (ds : List (List Word)) : s.fetched port r ds true us = s.ringError port r 2 := by
  simp [State.fetched, hasked, hrun, Nat.not_lt.mpr hus]

theorem State.fetched_one (d : List Word) : s.fetched port r [d] false us =
    ({ s with hif := s.hif.port port (fun p => p.ring r (fun x => { x with asked := 0 })) } : State).track port r d := by
  simp [State.fetched, hasked, hrun, Nat.not_lt.mpr hus, List.take_of_length_le (l := [d]) (Nat.one_le_iff_ne_zero.mpr hasked)]

end

theorem trackerWord_block (id : Nat) : trackerWord id = 8 * (0x10880 + id % 256) := by
  unfold trackerWord
  omega

/-- A descriptor enters the tracker: its entry, its number, its place in the ring, and its four words of memory 0 (R345, R349). -/
theorem State.track_frame {port r : Nat} (hport : port < 2) (hr : r < 64) (s : State) (d : List Word) :
    s.track port r d = { s with mem0 := (s.track port r d).mem0, hif := (s.track port r d).hif } ∧
    (s.track port r d).hif.nextId = s.hif.nextId + 1 ∧
    (s.track port r d).hif.ringOf port r =
      { s.hif.ringOf port r with dev := ((s.hif.ringOf port r).dev + 1) % ringSize s.regs port r } ∧
    (s.track port r d).hif.tracker = s.hif.tracker ++ [⟨⟨s.hif.nextId, s.time.tick, descCmd port r d⟩, descBlock d, descCode d,
      decide (ringClass s.regs port r = 0) && decide (s.hif.reserved + s.hif.bookedRes < 32), !descOk d, false, false, false⟩] ∧
    (s.track port r d).hif.compl = s.hif.compl ∧
    ∀ w, w / 8 ≠ trackerWord s.hif.nextId / 8 → (s.track port r d).mem0.store.word w = s.mem0.store.word w := by
  refine ⟨rfl, rfl, ?_, rfl, rfl, fun w hw => ?_⟩
  · exact Hif.ringOf_ring_same hport hr (fun x => { x with dev := (x.dev + 1) % ringSize s.regs port r }) s.hif
  · refine MemUnit.writeWords_word_outside 0 14 _ s.mem0 (trackerWord s.hif.nextId) ?_
    rw [trackerWord_block] at hw ⊢
    simp only [List.length_map, List.length_range]
    omega

/-! The rows -/

/-- A row on an object and a part of it that runs once the configuration is committed. -/
theorem onObjects_whenUp {n i m j : Nat} {s t : State} {f : State → State} (hi : i < n) (hj : j < m) (hup : s.up = true)
    (h : f s = t) : onObjects n i m j (s.whenUp f) = .next t.flush := by
  rw [onObjects_of_lt _ _ _ _ _ hi hj, State.whenUp_of _ _ hup, h]

section
variable {s : State} {port r : Nat} (hport : port < 2) (hr : r < 64)
include hport hr

theorem exec_enable (hup : s.up = true) : exec (.enable port r) s = .next (s.ringEnable port r).flush :=
  onObjects_whenUp hport hr hup rfl

theorem exec_disable (hup : s.up = true) : exec (.disable port r) s = .next (s.ringDisable port r).flush :=
  onObjects_whenUp hport hr hup rfl

theorem exec_jetTail (v : Word) (clk : Nat) : exec (.jetTail port r v clk) s = .next (s.jetTail port r v).flush :=
  onObjects_of_lt _ _ _ _ _ hport hr

theorem exec_jetCq (v : Word) (clk : Nat) : exec (.jetCq port r v clk) s = .next (s.jetCq port r v).flush :=
  onObjects_of_lt _ _ _ _ _ hport hr

theorem exec_descriptorFetch : exec (.descriptorFetch port r) s = .next (s.fetch port r) := onObjects_of_lt _ _ _ _ _ hport hr

theorem exec_fetchCompletion (ds : List (List Word)) (failed : Bool) (us : Nat) :
    exec (.fetchCompletion port r ds failed us) s = .next (s.fetched port r ds failed us).flush := onObjects_of_lt _ _ _ _ _ hport hr

end

/-- Settles O48: each row is its operation on the ring, in the state of the ring that the statement names. -/
theorem ringsAndJets : Obligations.RingsAndJets := by
  intro s port r hport hr hup
  refine ⟨fun hdisabled => ?enable, fun hrun => ?disable, fun hlive => ⟨fun v clk hrun hcmd hv => ⟨?tail, fun hpasses => ?cq⟩,
    fun v clk hidle => ?ignored, fun v clk hrun hv => ?beyond, fun hturn => ?fetch⟩, fun us hus hasked hrun => ⟨fun d => ?fetched,
    fun ds => ?failed⟩⟩
  case enable => rw [exec_enable hport hr hup, State.ringEnable_disabled hup hdisabled]
  case disable => rw [exec_disable hport hr hup, State.ringDisable_running hrun]
  case tail => rw [exec_jetTail hport hr, State.jetTail_taken hup hlive hrun hcmd hv]
  case cq => rw [exec_jetCq hport hr, State.jetCq_taken hup hlive hrun hcmd hv hpasses]
  case ignored =>
    obtain ⟨htail, hcq⟩ := State.jets_ignored hup hlive hidle v
    rw [exec_jetTail hport hr, exec_jetCq hport hr, htail, hcq]
    exact ⟨rfl, rfl⟩
  case beyond => rw [exec_jetTail hport hr, State.jetTail_beyond hup hlive hrun hv, State.ringError_eq]
  case fetch => rw [exec_descriptorFetch hport hr, State.fetch_in_turn hup hlive hturn]
  case failed => rw [exec_fetchCompletion hport hr, State.fetched_failed hus hasked hrun, State.ringError_eq]
  case fetched =>
    refine ⟨s.fetched port r [d] false us, exec_fetchCompletion hport hr _ _ _, ?_⟩
    rw [State.fetched_one hus hasked hrun]
    obtain ⟨hframe, hid, hring, htracker, hcompl, hwords⟩ := State.track_frame hport hr
      { s with hif := s.hif.port port (fun p => p.ring r (fun x => { x with asked := 0 })) } d
    rw [hring, Hif.ringOf_ring_same hport hr]
    exact ⟨hframe, hid, rfl, rfl, htracker, hcompl, hwords⟩

end Sys2Proof.Machine
end

section
/-! Time limits, completion timeouts, moderated messages and restored guarantees (O49; R336, R342, R347, R361, R362, R364, R368). -/

theorem Vector.nth_replicate_default {α : Type} [Inhabited α] (n i : Nat) : (Vector.replicate n (default : α)).nth i = default := by
  unfold Vector.nth
  split
  · simp
  · rfl

namespace Sys2Proof.Machine

/-! Time limits -/

/-- Nothing that waits outside the tracker: no pending OPEN, page transfer, drain, pass, relief or image command. -/
structure State.NothingWaits (s : State) : Prop where
  pends : s.seq.pends = []
  pages : s.hif.pages = []
  drains : s.recd.drains = Vector.replicate 2 none
  pass0 : s.mem0.sl.running = false
  pass1 : s.mem1.sl.running = false
  request : s.cfg.request = none
  install : s.cfg.install = none

theorem State.finish_hif (f : Finish) (s : State) : s.finish f = { s with hif := (s.finish f).hif } := by
  unfold State.finish
  split <;> rfl

theorem State.NothingWaits.finish {s : State} (h : s.NothingWaits) (f : Finish) : (s.finish f).NothingWaits := by
  have hpages : (s.finish f).hif.pages = s.hif.pages := (State.finish_posted f s).pages
  rw [State.finish_hif]
  exact { h with pages := hpages.trans h.pages }

theorem foldl_unchanged {σ ι : Type} {f : σ → ι → σ} {s : σ} (h : ∀ i, f s i = s) (l : List ι) : l.foldl f s = s := by
  induction l with
  | nil => rfl
  | cons i l ih => rw [List.foldl_cons, h, ih]

/-- A limit of a command that waits in the tracker alone: it completes TIMEOUT (R347). -/
theorem State.jobTimeout_tracked {s : State} (h : s.NothingWaits) {t : Tracked} (htracker : s.hif.tracker = [t])
    (hwaits : t.judged = false) : s.jobTimeout t.job.id = s.finish ⟨t.job, 4, 0⟩ := by
  unfold State.jobTimeout
  extract_lets s1 s2 s3 s4 s5 s6
  have h1 : s1 = s.finish ⟨t.job, 4, 0⟩ := by simp [s1, htracker, hwaits]
  have hw : s1.NothingWaits := h1 ▸ h.finish _
  have h2 : s2 = s1 := by simp only [s2, hw.pends]; rfl
  have h3 : s3 = s1 := by simp only [s3, h2, hw.pages]; rfl
  have h4 : s4 = s1 := by
    simp only [s4, h3]
    refine foldl_unchanged (fun port => ?_) _
    have hnone : s1.recd.drains.nth port = none := by
      rw [hw.drains]
      exact Vector.nth_replicate_default 2 port
    rw [hnone]
  have h5 : s5 = s1 := by
    simp only [s5, h4]
    refine foldl_unchanged (fun m => if_neg fun hpass => ?_) _
    have hidle : (if m = 0 then s1.mem0 else s1.mem1).sl.running = false := by
      split
      · exact hw.pass0
      · exact hw.pass1
    exact Bool.false_ne_true (hidle.symm.trans hpass.1)
  have h6 : s6 = s1 := by simp only [s6, h5, hw.request]
  rw [h6, hw.install]
  exact h1

/-! Completion timeouts, moderated messages, the message table and guarantees -/

section
variable {s : State} {port : Nat}

theorem State.readTimeout_fetch {r : Nat} (hr : r < 64) (hasked : (s.hif.ringOf port r).asked ≠ 0) :
    s.readTimeout port false r = s.ringError port r 3 := by
  simp [State.readTimeout, hasked, Nat.not_le.mpr hr]

theorem State.readTimeout_pageIn {q : PageRun} (hpages : s.hif.pages = [q]) (hport : q.job.cmd.port = port) (hin : q.isIn = true)
    (hopen : q.doneAt = 0) : s.readTimeout port true q.first =
      ({ s with hif := { (s.hif.setBusy q.first q.count false) with pages := [] } } : State).finish ⟨q.job, 4, q.moved % 256⟩ := by
  simp [State.readTimeout, Hif.pageRun, hpages, hport, hin, hopen, State.pageEnd]

variable {r : Nat} (hsince : (s.hif.ringOf port r).sinceMsg ≠ 0) (hst : (s.hif.ringOf port r).st ≠ .disabled)
  (hmod : s.regs.HIF_R_MOD_MOD_US (64 * port + r) ≠ 0)
include hsince hst hmod

theorem State.moderate_due : s.moderate port r = { s with
    out := ((s.hif.ports.nth port).message s.regs port r).2.reverse ++ s.out
    hif := s.hif.port port (fun p => (p.message s.regs port r).1) } := by
  unfold State.moderate
  rw [if_neg (by simpa [State.moderate.rfMod, hmod] using ⟨hsince, hst⟩)]
  dsimp only
  rw [Hif.port_congr (g := fun p => (p.message s.regs port r).1) rfl]

end

theorem Port.message_sent {rf : RegFile} {port r : Nat} {p : Port} (hmasked : p.masked.testBit (rf.HIF_R_CFG_VECTOR (64 * port + r)) = false)
    (hbme : p.bme = true) : p.message rf port r =
      (p.ring r (fun x => { x with sinceMsg := 0 }), [.msix port (rf.HIF_R_CFG_VECTOR (64 * port + r))]) :=
  if_neg (by simp [Port.ring, hmasked, hbme])

theorem Port.message_pending {rf : RegFile} {port r : Nat} {p : Port}
    (h : p.masked.testBit (rf.HIF_R_CFG_VECTOR (64 * port + r)) = true ∨ p.bme = false) : p.message rf port r =
      ({ (p.ring r (fun x => { x with sinceMsg := 0 })) with
         msixPend := setBit p.msixPend (rf.HIF_R_CFG_VECTOR (64 * port + r)) true }, []) :=
  if_pos (by simpa [Port.ring] using h)

section
variable {s : State} {port v : Nat} (hv : v < 32) (hlive : s.portLive port = true)
include hv hlive

theorem State.msixMask_masked : s.msixMask port v true =
    { s with hif := s.hif.port port (fun p => { p with masked := setBit p.masked v true }) } := by
  simp [State.msixMask, hlive, Nat.not_le.mpr hv]

theorem State.msixMask_held (hbme : (s.hif.ports.nth port).bme = false) : s.msixMask port v false =
    { s with hif := s.hif.port port (fun p => { p with masked := setBit p.masked v false }) } := by
  simp [State.msixMask, hlive, Nat.not_le.mpr hv, hbme]

theorem State.msixMask_sent (hbme : (s.hif.ports.nth port).bme = true) (hpend : (s.hif.ports.nth port).msixPend.testBit v = true) :
    s.msixMask port v false = { s with
      out := .msix port v :: s.out
      hif := s.hif.port port (fun p => { p with masked := setBit p.masked v false, msixPend := setBit p.msixPend v false }) } := by
  simp [State.msixMask, hlive, Nat.not_le.mpr hv, hbme, hpend]

end

theorem State.restoreGuarantee_five {s : State} {port : Nat} (h : (s.hif.g5.nth port).suspended = true) : s.restoreGuarantee 5 port =
    ({ s with hif := { s.hif with g5 := s.hif.g5.put port ⟨false, 0, 0⟩ } } : State).posts
      [⟨0x0D02, p1 5 ++ p1 0xFF ++ p4 ((s.time.tick - (s.hif.g5.nth port).since : Nat) : Int), some port⟩] := by
  simp [State.restoreGuarantee, Guarantee.restore, h]

/-! The rows -/

theorem exec_commandTimeout {s : State} (hup : s.up = true) (id : Nat) : exec (.commandTimeout id) s = .next (s.jobTimeout id).flush :=
  congrArg Host.Outcome.next (State.whenUp_of _ s hup)

section
variable {s : State} {port : Nat} (hport : port < 2)
include hport

theorem exec_completionTimeout_fetch {r : Nat} (hr : r < 64) :
    exec (.completionTimeout port false r) s = .next (s.readTimeout port false r).flush := onObjects_of_lt _ _ _ _ _ hport hr

theorem exec_completionTimeout_pageIn {page : Nat} (hpage : page < 1024) :
    exec (.completionTimeout port true page) s = .next (s.readTimeout port true page).flush := onObjects_of_lt _ _ _ _ _ hport hpage

theorem exec_msixModerationTimeout {r : Nat} (hr : r < 64) : exec (.msixModerationTimeout port r) s = .next (s.moderate port r) :=
  onObjects_of_lt _ _ _ _ _ hport hr

theorem exec_msixTableWrite {v : Nat} (hv : v < 32) (masked : Bool) :
    exec (.msixTableWrite port v masked) s = .next (s.msixMask port v masked) := onObjects_of_lt _ _ _ _ _ hport hv

theorem exec_guaranteeRestored {g : Nat} (hg : g < 7) (hstarted : s.started = true) :
    exec (.guaranteeRestored g port) s = .next (s.restoreGuarantee g port).flush :=
  (onObjects_of_lt _ _ _ _ _ hg hport).trans (congrArg Host.Outcome.next (State.inStage_of _ s hstarted))

end

/-- Settles O49: each limit ends what waits on it alone, and each message goes or is kept by the mask and Bus Master Enable. -/
theorem hostTimeouts : Obligations.HostTimeouts := by
  refine ⟨?limit, ?fetch, ?pageIn, ?moderated, ?table, ?restored⟩
  case limit =>
    intro s id t hup htracker hwaits hid hpends hpages hdrains hpass0 hpass1 hrequest hinstall
    rw [exec_commandTimeout hup, ← hid,
      State.jobTimeout_tracked ⟨hpends, hpages, hdrains, hpass0, hpass1, hrequest, hinstall⟩ htracker hwaits]
  case fetch =>
    intro s port r hport hr hasked
    rw [exec_completionTimeout_fetch hport hr, State.readTimeout_fetch hr hasked, State.ringError_eq]
  case pageIn =>
    intro s port page q hport hpage hpages hq hfirst hin hopen
    rw [exec_completionTimeout_pageIn hport hpage, ← hfirst, State.readTimeout_pageIn hpages hq hin hopen]
  case moderated =>
    intro s port r hport hr hsince hst hmod
    refine ⟨fun hmasked hbme => ?_, fun h => ?_⟩
    · rw [exec_msixModerationTimeout hport hr, State.moderate_due hsince hst hmod, Port.message_sent hmasked hbme,
        Hif.port_congr (f := fun p => (p.message s.regs port r).1) (g := fun p => p.ring r (fun x => { x with sinceMsg := 0 }))
          (congrArg Prod.fst (Port.message_sent hmasked hbme))]
      rfl
    · rw [exec_msixModerationTimeout hport hr, State.moderate_due hsince hst hmod, Port.message_pending h,
        Hif.port_congr (f := fun p => (p.message s.regs port r).1) (g := fun p => { (p.ring r (fun x => { x with sinceMsg := 0 })) with
          msixPend := setBit p.msixPend (s.regs.HIF_R_CFG_VECTOR (64 * port + r)) true }) (congrArg Prod.fst (Port.message_pending h))]
      rfl
  case table =>
    intro s port v hport hv hlive hpend
    refine ⟨fun hbme => ?_, fun hbme => ?_, ?_⟩
    · rw [exec_msixTableWrite hport hv, State.msixMask_sent hv hlive hbme hpend]
    · rw [exec_msixTableWrite hport hv, State.msixMask_held hv hlive hbme]
    · rw [exec_msixTableWrite hport hv, State.msixMask_masked hv hlive]
  case restored =>
    intro s port hport hstarted hsuspended
    rw [exec_guaranteeRestored hport (by omega) hstarted, State.restoreGuarantee_five hsuspended]

end Sys2Proof.Machine
end

section
/-! Full-word writes and the accesses through BAR2 (O50, O52). A list that names a word twice is not in the canonical form; a write that
takes the word off the list, for it then equals what an unlisted word holds, uncovers the second entry. -/

namespace Sys2Proof.Machine

/-! A memory that names word 0 twice -/

/-- A filled memory whose list names word 0 twice, each time poisoned. -/
def namedTwice : Memory := ⟨true, false, false, [(0, .poison 0), (0, .poison 0)]⟩

/-- Eight zero bytes: the word that every unlisted address of a filled memory holds. -/
def zeroBytes : List Byte := List.replicate 8 0

theorem namedTwice_not_canonical : namedTwice.wf = false := by decide

theorem namedTwice_write_uncovers :
    ((MemUnit.reset namedTwice).writeBytes RegFile.reset 0 0 (8 * 0) zeroBytes).store.word 0 = .poison 0 := by decide

/-- Refutes O52: of a list that names word 0 twice, a write of zeros to the filled memory takes away the first entry and the second is
read. Where the list is canonical the word reads as written (`MemUnit.writeBytes_full_word`). -/
theorem not_fullWordWrite : ¬ Obligations.FullWordWrite := by
  intro h
  obtain ⟨hword, -⟩ := h RegFile.reset 0 0 0 zeroBytes (MemUnit.reset namedTwice) (by decide) (by decide)
  exact absurd (hword.symm.trans namedTwice_write_uncovers) (by decide)

/-! What O52 says of a canonical list -/

theorem zipWith_getD_some {α : Type} : ∀ (l d : List α), l.length = d.length →
    d.zipWith (fun o b => Option.getD b o) (l.map some) = l
  | [], [], _ => rfl
  | x :: l, _ :: d, h => by
    rw [List.map_cons, List.zipWith_cons_cons, zipWith_getD_some l d (Nat.succ.inj h)]
    rfl

theorem mergeBytes_some {bytes : List Byte} (h : bytes.length = 8) (d : DWord) :
    mergeBytes d (bytes.map some) = BitVec.ofNat 64 (ofLe bytes) := by
  rw [mergeBytes, zipWith_getD_some]
  rw [h]
  rfl

theorem bytes_of_word {bytes : List Byte} (h : bytes.length = 8) : (List.range 8).map (fun i => bytes[i]?) = bytes.map some := by
  refine List.ext_getElem (by simp [h]) (fun i hi _ => ?_)
  have hlt : i < bytes.length := by simpa [h] using hi
  simp [hlt]

/-- A write of eight bytes of one word is the write of that word (R376). -/
theorem MemUnit.writeBytes_word_eq {bytes : List Byte} (h : bytes.length = 8) (rf : RegFile) (m agent w : Nat) (u : MemUnit) :
    u.writeBytes rf m agent (8 * w) bytes = u.place m agent w (.encode (BitVec.ofNat 64 (ofLe bytes))) := by
  have hword : (List.range 8).map (fun i => if 8 * 0 + i < 8 * w % 8 then none else bytes[8 * 0 + i - 8 * w % 8]?) = bytes.map some := by
    simpa using bytes_of_word h
  rw [MemUnit.writeBytes, MemUnit.writeData]
  have hone : (8 * w % 8 + bytes.length + 7) / 8 = 1 := by omega
  have hall : (bytes.map some).all Option.isSome = true := by simp
  simp only [hone, List.range_one, List.foldl_cons, List.foldl_nil, hword, MemUnit.writeWordBytes, if_pos hall, mergeBytes_some h,
    MemUnit.writeCopy, Nat.mul_div_cancel_left w (Nat.succ_pos 7), Nat.add_zero]
  rfl

/-- In the canonical form, with no injection armed, a full-word write makes a clean word whatever stood there, and changes nothing
else (R376). -/
theorem MemUnit.writeBytes_full_word {bytes : List Byte} (h : bytes.length = 8) (rf : RegFile) (m agent w : Nat) {u : MemUnit}
    (hwf : u.store.wf = true) (hinj : u.activity ≠ .injection) :
    (u.writeBytes rf m agent (8 * w) bytes).store.word w = .encode (BitVec.ofNat 64 (ofLe bytes)) ∧
    (∀ v, v ≠ w → (u.writeBytes rf m agent (8 * w) bytes).store.word v = u.store.word v) ∧
    u.writeBytes rf m agent (8 * w) bytes = { u with store := (u.writeBytes rf m agent (8 * w) bytes).store } := by
  rw [MemUnit.writeBytes_word_eq h]
  refine ⟨?_, fun v hv => MemUnit.place_word_ne hv m agent _ u, ?_⟩
  · rw [MemUnit.place, if_neg (fun hmet => hinj hmet.1), Memory.word_setWord _ _ _ _ hwf, if_pos rfl]
  · rw [MemUnit.place, if_neg (fun hmet => hinj hmet.1)]

/-! The host's write through BAR2 (O50) -/

/-- Host A's port up, its page 0 of the filled memory that names word 0 twice. -/
def pageNamedTwice : State :=
  { State.reset with
    boot := { Boot.reset with straps := 32 }
    cfg := { Cfg.reset with committed := true }
    hif := { Hif.reset with ports := Hif.reset.ports.upd 0 (fun p => { p with linkUp := true }), ownA := 1 }
    mem0 := .reset namedTwice }

theorem exec_bar2Write {s : State} {port : Nat} (hport : port < 2) (hup : s.up = true) (hlive : s.portLive port = true) (addr : Nat)
    (data : List Byte) : exec (.bar2Write port addr data) s = .next (s.bar2Write port addr data).flush :=
  (onObject_of_lt _ _ _ hport).trans (congrArg Host.Outcome.next (State.fromPort_of port _ s hup hlive))

theorem pageNamedTwice_write_uncovers : (pageNamedTwice.bar2Write 0 0 zeroBytes).mem0.store.word 0 = .poison 0 := by decide

/-- Refutes O50: host A writes eight zero bytes to word 0 of its page, of a filled memory whose list names the word twice; the word then
reads as the second entry, poisoned, in place of the zeros. -/
theorem not_cisternAccess : ¬ Obligations.CisternAccess := by
  intro h
  obtain ⟨hwrite, -⟩ := h pageNamedTwice 0 0 (by decide) (by decide) (by decide)
  obtain ⟨u, hexec, -, -, hdata⟩ := (hwrite zeroBytes (by decide) (by decide) (by decide)).2 (by decide) (by decide)
  have hflush : (pageNamedTwice.bar2Write 0 0 zeroBytes).flush = u.flush :=
    Host.Outcome.next.inj ((exec_bar2Write (by decide) (by decide) (by decide) 0 zeroBytes).symm.trans hexec)
  have hstore : (pageNamedTwice.bar2Write 0 0 zeroBytes).mem0.store = u.mem0.store := by
    simpa using congrArg (fun t : State => t.mem0.store) hflush
  have hread : u.mem0.store.word 0 = .poison 0 := hstore ▸ pageNamedTwice_write_uncovers
  exact absurd (hread.symm.trans (hdata (by decide) (by decide) (by decide))) (by decide)

end Sys2Proof.Machine
end

section
/-! NOP, the page commands and the transfers of pages (O51; R365, R368, R369). -/

namespace Sys2Proof.Machine

/-! Bits set and cleared -/

theorem testBit_sub_two_pow {n i : Nat} (h : n.testBit i = true) (j : Nat) :
    (n - 2 ^ i).testBit j = if j = i then false else n.testBit j := by
  obtain ⟨a, ha⟩ : ∃ a, n / 2 ^ i = 2 * a + 1 := ⟨n / 2 ^ i / 2, by
    rw [Nat.testBit_eq_decide_div_mod_eq, decide_eq_true_eq] at h
    omega⟩
  have hlow : n % 2 ^ i < 2 ^ i := Nat.mod_lt _ (Nat.two_pow_pos i)
  have hn : n = 2 ^ i * (2 * a + 1) + n % 2 ^ i := by rw [← ha, Nat.div_add_mod]
  have hsub : n - 2 ^ i = 2 ^ i * (2 * a) + n % 2 ^ i := by
    rw [Nat.mul_add, Nat.mul_one] at hn
    omega
  rw [hsub]
  conv => rhs; rw [hn]
  rw [Nat.testBit_two_pow_mul_add _ hlow, Nat.testBit_two_pow_mul_add _ hlow]
  by_cases hj : j < i
  · simp [hj, Nat.ne_of_lt hj]
  · rcases hk : j - i with - | k
    · have hji : j = i := by omega
      simp [hji]
    · have hji : j ≠ i := by omega
      simp [hj, hji, Nat.testBit_succ]
      congr 1
      omega

theorem testBit_setBit (n i : Nat) (b : Bool) (j : Nat) : (setBit n i b).testBit j = if j = i then b else n.testBit j := by
  unfold setBit
  cases b with
  | true =>
    rw [if_pos rfl, Nat.testBit_or, Nat.testBit_two_pow]
    by_cases h : j = i
    · simp [h]
    · simp [h, Ne.symm h]
  | false =>
    rw [if_neg Bool.false_ne_true]
    split
    · next h => exact testBit_sub_two_pow h j
    · next h =>
      split
      · next e => exact e ▸ Bool.eq_false_iff.mpr h
      · rfl

/-! Owners of pages -/

theorem Hif.owner_setOwner {o : Nat} (ho : o < 3) (i k : Nat) (h : Hif) : (h.setOwner i o).owner k = if k = i then o else h.owner k := by
  unfold Hif.owner Hif.setOwner
  dsimp only
  rw [testBit_setBit, testBit_setBit]
  by_cases hk : k = i
  · rw [if_pos hk, if_pos hk, if_pos hk]
    match o, ho with
    | 0, _ => rfl
    | 1, _ => rfl
    | 2, _ => rfl
  · rw [if_neg hk, if_neg hk, if_neg hk]

theorem Hif.owner_setOwners {o : Nat} (ho : o < 3) (first count k : Nat) (h : Hif) :
    (h.setOwners first count o).owner k = if first ≤ k ∧ k < first + count then o else h.owner k := by
  unfold Hif.setOwners
  induction count with
  | zero => rw [if_neg (by omega)]; rfl
  | succ n ih =>
    rw [List.range_succ, List.foldl_append, List.foldl_cons, List.foldl_nil, Hif.owner_setOwner ho, ih]
    by_cases hlast : k = first + n
    · rw [if_pos hlast, if_pos (by omega)]
    · rw [if_neg hlast]
      congr 1
      exact propext ⟨fun hin => by omega, fun hin => by omega⟩

theorem Hif.setOwners_frame (first count o : Nat) (h : Hif) :
    h.setOwners first count o = { h with ownA := (h.setOwners first count o).ownA, ownB := (h.setOwners first count o).ownB } :=
  foldl_keeps (fun h k : Hif => k = { h with ownA := k.ownA, ownB := k.ownB }) (fun _ => rfl)
    (fun hab hbc => by rw [hbc, hab]) (fun (h : Hif) i => h.setOwner (first + i) o) (fun _ _ => rfl) (List.range count) h

/-! The parameter -/

theorem bitsOf_pagesParam {first count : Nat} (hcount : count < 256) (hfirst : first < 1024) {x : Word}
    (hx : x = BitVec.ofNat 32 (4096 * first + 2 ^ 24 * count)) :
    bitsOf x.toNat 11 0 = 0 ∧ bitsOf x.toNat 23 22 = 0 ∧ bitsOf x.toNat 21 12 = first ∧ bitsOf x.toNat 31 24 = count := by
  have hval : x.toNat = 4096 * first + 16777216 * count := by
    rw [hx, BitVec.toNat_ofNat]
    omega
  simp only [hval, bitsOf, Nat.shiftRight_eq_div_pow]
  omega

/-! The commands -/

/-- A HIF command of a ring of a port, once the configuration is committed, on the device (R368, log 9). -/
structure State.TakesHif (s : State) (c : Cmd) : Prop where
  port : c.port < 2
  ring : c.ring < 64
  up : s.up = true
  level : c.level = 4
  index : c.index = 0

theorem State.TakesHif.hostCmd_hifCmd {s : State} {c : Cmd} (h : s.TakesHif c) (code : Nat) :
    hostCmd (fun j => State.hifCmd j code) c s = .next (s.hifCmd ⟨0, s.time.tick, c⟩ code).flush := hostCmd_of _ c s h.port h.ring h.up

theorem State.TakesHif.nop {s : State} {c : Cmd} (h : s.TakesHif c) :
    s.Answered (exec (.nop c) s) c (if c.param.toNat = 0 then 0 else 2) 0 := by
  refine (h.hostCmd_hifCmd 1).trans ?_
  rw [State.hifCmd, if_neg (by simp [h.level, h.index]), if_pos rfl]
  split <;> rfl

/-- A HIF command that names pages (R368): the range lies within the cistern. -/
structure State.TakesPages (s : State) (c : Cmd) (first count : Nat) : Prop extends s.TakesHif c where
  pos : 0 < count
  fits : first + count ≤ 1024
  low : bitsOf c.param.toNat 11 0 = 0
  high : bitsOf c.param.toNat 23 22 = 0
  first_eq : bitsOf c.param.toNat 21 12 = first
  count_eq : bitsOf c.param.toNat 31 24 = count

section
variable {s : State} {c : Cmd} {first count : Nat} (h : s.TakesPages c first count)
include h

theorem State.TakesPages.pageTake_busy (howned : s.hif.allOwned first count 0 = true) (hbusy : s.hif.anyBusy first count = true) :
    s.Answered (exec (.pageTake c) s) c 1 0 :=
  (h.hostCmd_hifCmd 2).trans (by
    simp [State.hifCmd, h.level, h.index, h.low, h.high, h.first_eq, h.count_eq, Nat.ne_of_gt h.pos, Nat.not_lt.mpr h.fits, howned, hbusy])

/-- PAGE_TAKE, PAGE_GIVE and PAGE_PASS of pages that are not busy (R369). -/
theorem State.TakesPages.pageTake (hbusy : s.hif.anyBusy first count = false) (howned : s.hif.allOwned first count 0 = true) :
    exec (.pageTake c) s = .next (({ s with hif := s.hif.setOwners first count (hostOf c.port) } : State).finish
      ⟨⟨0, s.time.tick, c⟩, 0, 0⟩).flush :=
  (h.hostCmd_hifCmd 2).trans (by
    simp [State.hifCmd, h.level, h.index, h.low, h.high, h.first_eq, h.count_eq, Nat.ne_of_gt h.pos, Nat.not_lt.mpr h.fits, howned, hbusy])

variable (hbusy : s.hif.anyBusy first count = false) (howned : s.hif.allOwned first count (hostOf c.port) = true)
include hbusy howned

theorem State.TakesPages.pageGive : exec (.pageGive c) s = .next (({ s with hif := s.hif.setOwners first count 0 } : State).finish
      ⟨⟨0, s.time.tick, c⟩, 0, 0⟩).flush :=
  (h.hostCmd_hifCmd 3).trans (by
    simp [State.hifCmd, h.level, h.index, h.low, h.high, h.first_eq, h.count_eq, Nat.ne_of_gt h.pos, Nat.not_lt.mpr h.fits, howned, hbusy])

theorem State.TakesPages.pagePass (hlink : (s.hif.ports.nth (1 - c.port)).linkUp = true)
    (hreset : (s.hif.ports.nth (1 - c.port)).inReset = false) :
    exec (.pagePass c) s = .next (({ s with hif := s.hif.setOwners first count (3 - hostOf c.port) } : State).finish
      ⟨⟨0, s.time.tick, c⟩, 0, 0⟩).flush :=
  (h.hostCmd_hifCmd 4).trans (by
    simp [State.hifCmd, h.level, h.index, h.low, h.high, h.first_eq, h.count_eq, Nat.ne_of_gt h.pos, Nat.not_lt.mpr h.fits, howned, hbusy,
      hlink, hreset])

/-- PAGE_IN and PAGE_OUT hold their pages busy while they run (R365, R368). -/
theorem State.TakesPages.pageIn (haddr : c.addr % 4096 = 0) : exec (.pageIn c) s = .next ({ s with
    hif := { (s.hif.setBusy first count true) with
      pages := s.hif.pages ++ [⟨⟨0, s.time.tick, c⟩, true, first, count, 0, 0, false, 0⟩] } } : State).flush :=
  (h.hostCmd_hifCmd 5).trans (by
    simp [State.hifCmd, h.level, h.index, h.low, h.high, h.first_eq, h.count_eq, Nat.ne_of_gt h.pos, Nat.not_lt.mpr h.fits, howned, hbusy, haddr])

omit howned in
theorem State.TakesPages.pageOut (haddr : c.addr % 4096 = 0) : exec (.pageOut c) s = .next ({ s with
    hif := { (s.hif.setBusy first count true) with
      pages := s.hif.pages ++ [⟨⟨0, s.time.tick, c⟩, false, first, count, 0, 0, false, 0⟩] } } : State).flush :=
  (h.hostCmd_hifCmd 6).trans (by
    simp [State.hifCmd, h.level, h.index, h.low, h.high, h.first_eq, h.count_eq, Nat.ne_of_gt h.pos, Nat.not_lt.mpr h.fits, hbusy, haddr])

end

/-! The data of a PAGE_IN -/

theorem MemUnit.writeWordBytes_word_ne {k w : Nat} (h : k ≠ w) (rf : RegFile) (m agent : Nat) (bs : List (Option Byte)) (bad : Bool)
    (u : MemUnit) : (u.writeWordBytes rf m agent w bs bad).store.word k = u.store.word k := by
  unfold MemUnit.writeWordBytes
  split
  · exact MemUnit.place_word_ne h m agent _ u
  · exact (MemUnit.place_word_ne h m agent _ _).trans (congrArg (fun x : Memory => x.word k) (MemUnit.target_store rf m agent w u))

/-- Bytes written leave the words before the first and after the last that they meet. -/
theorem MemUnit.writeData_word_outside (rf : RegFile) (m agent : Nat) {addr k : Nat} {bytes : List Byte}
    (h : 8 * k + 8 ≤ addr ∨ addr + bytes.length ≤ 8 * k) (bad : Bool) (u : MemUnit) :
    (u.writeData rf m agent addr bytes bad).store.word k = u.store.word k := by
  have hfold (l : List Nat) (hl : ∀ i ∈ l, k ≠ addr / 8 + i) (u : MemUnit) : (l.foldl (fun (u : MemUnit) i =>
      u.writeWordBytes rf m agent (addr / 8 + i)
        ((List.range 8).map (fun j => if 8 * i + j < addr % 8 then none else bytes[8 * i + j - addr % 8]?)) bad) u).store.word k =
      u.store.word k := by
    induction l generalizing u with
    | nil => rfl
    | cons i l ih =>
      exact (ih (fun j hj => hl j (List.mem_cons_of_mem _ hj)) _).trans
        (MemUnit.writeWordBytes_word_ne (hl i List.mem_cons_self) rf m agent _ bad u)
  refine hfold _ (fun i hi => ?_) u
  have hlt := List.mem_range.mp hi
  omega

section
variable {s : State} {port page : Nat} {q : PageRun} (hpages : s.hif.pages = [q]) (hin : q.isIn = true) (hport : q.job.cmd.port = port)
include hpages hin hport

/-- A read completion of the one PAGE_IN that runs stores its bytes and moves the transfer on (R368). -/
theorem State.pageData_moved (hopen : q.doneAt = 0) (hfirst : q.first ≤ page) (hlast : page < q.first + q.count) {offset : Nat}
    {data : List Byte} (hdata : data ≠ []) (hfits : offset + data.length ≤ 4096) :
    ∃ bulk, s.pageData port page offset data false = { s with
      mem0 := s.mem0.writeData s.regs 0 14 (4096 * page + offset) data false
      hif := { s.hif with
        pages := [{ q with moved := q.moved + (q.got + data.length) / 4096, got := (q.got + data.length) % 4096
                           doneAt := if q.count ≤ q.moved + (q.got + data.length) / 4096 then s.time.tick + 1 else 0 }]
        bulkBytes := bulk } } := by
  have hfind : s.hif.pages.find? (fun r => r.isIn && decide (r.job.cmd.port = port) && decide (r.doneAt = 0) && decide (r.first ≤ page) &&
      decide (page < r.first + r.count)) = some q := by simp [hpages, hin, hport, hopen, hfirst, hlast]
  unfold State.pageData
  rw [hfind]
  dsimp only
  rw [if_neg (by simp [hdata, Nat.not_lt.mpr hfits])]
  exact ⟨_, by simp [Hif.putPage, hpages]; rfl⟩

/-- A PAGE_IN with all its data completes, and frees its pages (R368). -/
theorem State.pageDone_in (hfirst : q.first = page) (hall : q.count ≤ q.moved) : s.pageDone port page =
    ({ s with hif := { (s.hif.setBusy q.first q.count false) with pages := [] } } : State).finish
      ⟨q.job, if q.poison then 3 else 0, q.moved % 256⟩ := by
  have hrun : s.hif.pageRun port page = some q := by simp [Hif.pageRun, hpages, hport, hfirst]
  unfold State.pageDone
  rw [hrun]
  simp [hin, hall, State.pageFinish, State.pageEnd, hpages]

end

/-- Settles O51: each command is judged by its parameter, the pages' owners and what holds them, and a PAGE_IN by what it has moved. -/
theorem pageCommands : Obligations.PageCommands := by
  refine ⟨fun s c hport hring hup hlevel hindex => ?commands, fun s port page q hport hpage hup hpages hin hq => ?transfers⟩
  case commands =>
    have htakes : s.TakesHif c := ⟨hport, hring, hup, hlevel, hindex⟩
    refine ⟨fun hzero => ?_, fun hne => ?_, fun first count hpos hcount hfits hparam => ?pages⟩
    · have hnop := htakes.nop
      rwa [if_pos (by rw [hzero]; rfl)] at hnop
    · have hnop := htakes.nop
      have hvalue : c.param.toNat ≠ 0 := fun hzero => hne (BitVec.eq_of_toNat_eq hzero)
      rwa [if_neg hvalue] at hnop
    case pages =>
      obtain ⟨hlow, hhigh, hfirst, hnumber⟩ := bitsOf_pagesParam hcount (by omega) hparam
      have h : s.TakesPages c first count := ⟨htakes, hpos, hfits, hlow, hhigh, hfirst, hnumber⟩
      have hhost : hostOf c.port < 3 := by unfold hostOf; omega
      have hpassed (o : Nat) (ho : o < 3) := And.intro (Hif.setOwners_frame first count o s.hif)
        (fun k => Hif.owner_setOwners ho first count k s.hif)
      refine ⟨fun howned hbusy => h.pageTake_busy howned hbusy, fun hbusy => ⟨fun howned => ?_, fun howned => ⟨?_, fun hlink hreset => ?_,
        fun haddr => ⟨h.pageIn hbusy howned haddr, h.pageOut hbusy haddr⟩⟩⟩⟩
      · exact ⟨_, h.pageTake hbusy howned, hpassed _ hhost⟩
      · exact ⟨_, h.pageGive hbusy howned, hpassed 0 (by omega)⟩
      · exact ⟨_, h.pagePass hbusy howned hlink hreset, hpassed _ (by unfold hostOf; omega)⟩
  case transfers =>
    refine ⟨fun offset data hopen hfirst hlast hdata hfits => ?data, fun hfirst hall => ?done⟩
    case data =>
      obtain ⟨bulk, hmoved⟩ := State.pageData_moved hpages hin hq hopen hfirst hlast hdata hfits
      exact ⟨_, onObjects_whenUp hport hpage hup hmoved, rfl, rfl, fun w hw => MemUnit.writeData_word_outside _ 0 14 hw false s.mem0⟩
    case done => exact onObjects_whenUp hport hpage hup (State.pageDone_in hpages hin hq hfirst hall)

end Sys2Proof.Machine
end

section
/-! SLUICE, INJECT, STOP, the end of a pass, the patrol and the weir (O53; R384 to R389), on one memory's unit. -/

namespace Sys2Proof.Machine

/-! One memory of the two -/

/-- The unit of memory m. -/
def State.memOf (m : Nat) (s : State) : MemUnit := if m = 0 then s.mem0 else s.mem1

/-- The state with the unit of memory m changed. -/
def State.setMem (m : Nat) (s : State) (v : MemUnit) : State := if m = 0 then { s with mem0 := v } else { s with mem1 := v }

theorem State.setMem_memOf (m : Nat) (s : State) : s.setMem m (s.memOf m) = s := by
  unfold State.setMem State.memOf
  split <;> rfl

/-- A command that leaves the unit as it is, is answered and nothing else (R389). -/
theorem State.setMem_answered {s : State} {c : Cmd} {m status : Nat} {r : Host.Outcome State Fault Refusal} {u : MemUnit × List Finish}
    (hr : r = .next ((s.setMem m u.1).finishes u.2).flush) (hu : u = (s.memOf m, [⟨⟨0, s.time.tick, c⟩, status, 0⟩])) :
    s.Answered r c status 0 := by
  rw [hr, hu, State.Answered, State.setMem_memOf]
  rfl

theorem State.memRow_eq (m : Nat) (f : MemUnit → MemUnit × List Finish) (s : State) :
    s.memRow m f = (s.setMem m (f (s.memOf m)).1).finishes (f (s.memOf m)).2 := rfl

/-! The commands on a unit (R389) -/

section
variable {rf : RegFile} {m : Nat} {u : MemUnit} (job : Job)

theorem MemUnit.sluiceCmd_idle (hlo : rf.MEM_M_RANGE_LO_ADDR m ≤ rf.MEM_M_RANGE_HI_ADDR m)
    (hhi : rf.MEM_M_RANGE_HI_ADDR m < 8 * memWords m) (hidle : u.activity = .none) : u.sluiceCmd rf m job =
      (u.startPass job.cmd.port (rf.MEM_M_RANGE_LO_ADDR m) (rf.MEM_M_RANGE_HI_ADDR m) (some job), []) := by
  simp [MemUnit.sluiceCmd, Nat.not_lt.mpr hlo, Nat.not_le.mpr hhi, hidle]

theorem MemUnit.sluiceCmd_busy (hlo : rf.MEM_M_RANGE_LO_ADDR m ≤ rf.MEM_M_RANGE_HI_ADDR m)
    (hhi : rf.MEM_M_RANGE_HI_ADDR m < 8 * memWords m) (hbusy : u.activity ≠ .none) : u.sluiceCmd rf m job = (u, [⟨job, 1, 0⟩]) := by
  simp [MemUnit.sluiceCmd, Nat.not_lt.mpr hlo, Nat.not_le.mpr hhi, hbusy]

theorem MemUnit.injectCmd_idle (hmask : flipMask rf m ≠ 0) (haddr : rf.MEM_M_INJ_ADDR_ADDR m < 8 * memWords m)
    (hidle : u.activity = .none) : u.injectCmd rf m job = ({ u with
      activity := .injection, injMask := flipMask rf m, injAny := decide (rf.MEM_M_INJ_CFG_ANY m = 1)
      injAddr := rf.MEM_M_INJ_ADDR_ADDR m }, [⟨job, 0, 0⟩]) := by
  simp [MemUnit.injectCmd, hmask, Nat.not_le.mpr haddr, hidle]

theorem MemUnit.injectCmd_busy (hmask : flipMask rf m ≠ 0) (haddr : rf.MEM_M_INJ_ADDR_ADDR m < 8 * memWords m)
    (hbusy : u.activity ≠ .none) : u.injectCmd rf m job = (u, [⟨job, 1, 0⟩]) := by
  simp [MemUnit.injectCmd, hmask, Nat.not_le.mpr haddr, hbusy]

theorem MemUnit.stopCmd_idle (hidle : u.activity = .none) : u.stopCmd m job = (u, [⟨job, 2, 0⟩]) := by
  simp [MemUnit.stopCmd, hidle]

theorem MemUnit.stopCmd_injection (h : u.activity = .injection) : u.stopCmd m job = ({ u with activity := .none }, [⟨job, 0, 0⟩]) := by
  simp [MemUnit.stopCmd, h]

end

/-- A host command that names memory m with the right to it (R389, log 9). -/
structure State.TakesMem (s : State) (c : Cmd) (m : Nat) : Prop where
  port : c.port < 2
  ring : c.ring < 64
  up : s.up = true
  target : memTarget s.regs c = some m

theorem memTarget_of {rf : RegFile} {c : Cmd} {m : Nat} (hm : m < 2) (hlevel : c.level = 4) (hindex : c.index = 0)
    (hparam : c.param = BitVec.ofNat 32 m) (hauth : memAuth rf c.port = true) : memTarget rf c = some m := by
  have hval : c.param.toNat = m := by
    rw [hparam, BitVec.toNat_ofNat]
    omega
  rw [memTarget, hval, if_pos ⟨hlevel, hindex, hm, hauth⟩]

section
variable {s : State} {c : Cmd} {m : Nat} (h : s.TakesMem c m)
include h

theorem State.TakesMem.exec_sluice {r : MemUnit × List Finish}
    (hr : (s.memOf m).sluiceCmd s.regs m ⟨0, s.time.tick, c⟩ = r) : exec (.sluice c) s = .next ((s.setMem m r.1).finishes r.2).flush := by
  refine (hostCmd_of (fun j => State.memCmd j 1) c s h.port h.ring h.up).trans ?_
  rw [State.memCmd, h.target, ← hr]
  rfl

theorem State.TakesMem.exec_inject {r : MemUnit × List Finish}
    (hr : (s.memOf m).injectCmd s.regs m ⟨0, s.time.tick, c⟩ = r) : exec (.inject c) s = .next ((s.setMem m r.1).finishes r.2).flush := by
  refine (hostCmd_of (fun j => State.memCmd j 2) c s h.port h.ring h.up).trans ?_
  rw [State.memCmd, h.target, ← hr]
  rfl

theorem State.TakesMem.exec_stop {r : MemUnit × List Finish} (hr : (s.memOf m).stopCmd m ⟨0, s.time.tick, c⟩ = r) :
    exec (.stop c) s = .next ((s.setMem m r.1).finishes r.2).flush := by
  refine (hostCmd_of (fun j => State.memCmd j 3) c s h.port h.ring h.up).trans ?_
  rw [State.memCmd, h.target, ← hr]
  rfl

end

/-! A pass reads its words -/

theorem MemUnit.countCe_sl (rf : RegFile) (m w : Nat) (u : MemUnit) : (u.countCe rf m w).sl = u.sl := by
  unfold MemUnit.countCe
  dsimp only
  split <;> rfl

theorem MemUnit.read_sl (rf : RegFile) (m agent w : Nat) (u : MemUnit) : (u.read rf m agent w).1.sl = u.sl := by
  unfold MemUnit.read
  dsimp only
  split
  case h_3 => exact MemUnit.countCe_sl rf m w _
  all_goals rfl

theorem MemUnit.sluiceWord_job (rf : RegFile) (m w : Nat) (u : MemUnit) : (u.sluiceWord rf m w).sl.job = u.sl.job := by
  unfold MemUnit.sluiceWord
  dsimp only
  split <;> exact (congrArg Sluice.job (MemUnit.read_sl rf m 13 w u) :)

theorem MemUnit.sluiceSpan_job (rf : RegFile) (m n : Nat) (u : MemUnit) : (u.sluiceSpan rf m n).sl.job = u.sl.job :=
  foldl_keeps (fun u v : MemUnit => v.sl.job = u.sl.job) (fun _ => rfl) (fun hab hbc => hbc.trans hab)
    (fun (u : MemUnit) (c : Nat × MemWord) => u.sluiceWord rf m c.1) (fun u c => MemUnit.sluiceWord_job rf m c.1 u) _ u

/-- A pass that ends complete: nothing holds the memory, and its command, where it has one, ends OK (R384, R389). -/
theorem MemUnit.endPass_complete (m : Nat) (u : MemUnit) :
    (u.endPass m 0).1.activity = .none ∧ (u.endPass m 0).1.sl.running = false ∧ (u.endPass m 0).1.sl.outcome = 0 ∧
    (u.endPass m 0).1.sl.job = none ∧ (u.sl.job = none → (u.endPass m 0).2 = []) ∧
    ∀ j, u.sl.job = some j → ∃ n, (u.endPass m 0).2 = [⟨j, 0, n⟩] := by
  refine ⟨rfl, rfl, rfl, rfl, fun hnone => ?_, fun j hj => ⟨u.sl.result, ?_⟩⟩
  · simp [MemUnit.endPass, hnone]
  · simp [MemUnit.endPass, hj]

/-! The rows of the core -/

section
variable {s : State} {m : Nat} (hm : m < 2) (hcore : s.coreRuns = true)
include hm hcore

theorem exec_sluiceDone (hrun : (s.memOf m).sl.running = true) : exec (.sluiceDone m) s =
    .next ((s.setMem m (((s.memOf m).sluiceSpan s.regs m (memWords m)).endPass m 0).1).finishes
      (((s.memOf m).sluiceSpan s.regs m (memWords m)).endPass m 0).2).flush :=
  onObject_inCore hm hcore (by rw [State.memRow_eq, MemUnit.sluiceDone, if_pos hrun])

theorem exec_patrolDue (hper : s.regs.MEM_M_PATROL_PERIOD m ≠ 0) :
    exec (.patrolDue m) s = .next (s.setMem m ((s.memOf m).startPatrol m)).flush :=
  onObject_inCore hm hcore (if_neg hper)

theorem exec_weirLeak : exec (.weirLeak m) s = .next (s.setMem m (s.memOf m).leak).flush := onObject_inCore hm hcore rfl

end

/-- Settles O53: the rows are the unit's operations, in the activity that the statement names. -/
theorem memoryEngines : Obligations.MemoryEngines := by
  intro s m u set hm hu hset
  obtain rfl : set = s.setMem m := funext hset
  obtain rfl : u = s.memOf m := hu
  refine ⟨fun c hport hring hup hlevel hindex hparam hauth => ?commands, fun hcore => ⟨fun hrun => ?done, fun hper => ?patrol, ?leak⟩⟩
  case commands =>
    have h : s.TakesMem c m := ⟨hport, hring, hup, memTarget_of hm hlevel hindex hparam hauth⟩
    refine ⟨fun hidle => ⟨fun hlo hhi => ?sluice, fun hmask haddr => ?inject, ?stop⟩, fun hbusy => ⟨fun hlo hhi => ?sluiceBusy,
      fun hmask haddr => ?injectBusy⟩, fun hinj => ?stopInjection⟩
    case sluice =>
      refine ⟨(s.memOf m).startPass c.port (s.regs.MEM_M_RANGE_LO_ADDR m) (s.regs.MEM_M_RANGE_HI_ADDR m)
        (some ⟨0, s.time.tick, c⟩), ?_, ?_⟩
      · rw [h.exec_sluice (MemUnit.sluiceCmd_idle _ hlo hhi hidle)]
        rfl
      · have hhost : c.port ≠ 2 := by omega
        simp [MemUnit.startPass, hhost]
    case inject =>
      rw [h.exec_inject (MemUnit.injectCmd_idle _ hmask haddr hidle)]
      rfl
    case stopInjection =>
      rw [h.exec_stop (MemUnit.stopCmd_injection _ hinj)]
      rfl
    case stop => exact State.setMem_answered (h.exec_stop rfl) (MemUnit.stopCmd_idle _ hidle)
    case sluiceBusy => exact State.setMem_answered (h.exec_sluice rfl) (MemUnit.sluiceCmd_busy _ hlo hhi hbusy)
    case injectBusy => exact State.setMem_answered (h.exec_inject rfl) (MemUnit.injectCmd_busy _ hmask haddr hbusy)
  case done =>
    have hjob := MemUnit.sluiceSpan_job s.regs m (memWords m) (s.memOf m)
    have hend := MemUnit.endPass_complete m ((s.memOf m).sluiceSpan s.regs m (memWords m))
    rw [hjob] at hend
    exact ⟨_, _, exec_sluiceDone hm hcore hrun, hend⟩
  case patrol =>
    rw [exec_patrolDue hm hcore hper]
    refine ⟨fun hidle => ⟨_, rfl, ?_⟩, fun hbusy => ?_⟩
    · rw [MemUnit.startPatrol, if_pos hidle]
      exact ⟨rfl, rfl, rfl, rfl, rfl, rfl, rfl⟩
    · rw [MemUnit.startPatrol, if_neg hbusy]
  case leak => exact exec_weirLeak hm hcore

end Sys2Proof.Machine
end

section
/-! Reliefs asked for, applied and given up; images written, committed and read (O56; R419, R423, R424, R455). -/

namespace Sys2Proof.Machine

/-! What applying a relief leaves of the configuration's state -/

theorem State.noteRemote_cfg (off : Nat) (w : Word) (s : State) : (s.noteRemote off w).cfg = s.cfg := rfl

theorem State.takeWord_cfg (r : RegRow) (i : Nat) (w : Word) (s : State) : (s.takeWord r i w).cfg = s.cfg := by
  unfold State.takeWord
  extract_lets old f s0 b ctl
  split
  · rfl
  · split
    · rfl
    · split
      · split <;> rfl
      · rfl

theorem State.judgeField_cfg (r : RegRow) (i : Nat) (w : Word) (s : State) : (s.judgeField r i w).cfg = s.cfg := State.says_cfg _ _

theorem State.reliefWord_cfg (es : List CfgEntry) (check : Bool) (a : State × List Nat) (off : Nat) :
    (State.reliefWord es check a off).1.cfg = a.1.cfg := by
  unfold State.reliefWord
  extract_lets s
  split
  · rfl
  · extract_lets w t u
    have ht : t.cfg = a.1.cfg := by
      simp only [t]
      split
      · rfl
      · exact State.takeWord_cfg _ _ _ _
    have hu : u.cfg = a.1.cfg := by
      rw [← ht]
      simp only [u]
      split
      · exact State.judgeField_cfg _ _ _ _
      · rfl
    split
    · rfl
    · exact hu

theorem State.reliefWords_cfg (es : List CfgEntry) (check : Bool) (l : List Nat) (a : State × List Nat) :
    (l.foldl (State.reliefWord es check) a).1.cfg = a.1.cfg :=
  foldl_keeps (fun a b : State × List Nat => b.1.cfg = a.1.cfg) (fun _ => rfl) (fun hab hbc => hbc.trans hab)
    (State.reliefWord es check) (State.reliefWord_cfg es check) l a

theorem State.changeRelief_cfg (new : Nat) (s : State) : ∃ saved, (s.changeRelief new).1.cfg = { s.cfg with saved := saved, relief := new } := by
  unfold State.changeRelief
  extract_lets a es
  have ha : a.1.cfg = s.cfg := State.reliefWords_cfg _ _ _ _
  exact ⟨savedValues a.1.regs es, (State.reliefWords_cfg _ _ _ _).trans
    (congrArg (fun c : Cfg => { c with saved := savedValues a.1.regs es, relief := new }) ha)⟩

theorem State.reliefPoison_frame (r : Nat) (s : State) : (s.reliefPoison r).1 = { s with mem1 := (s.reliefPoison r).1.mem1 } := by
  unfold State.reliefPoison
  split <;> rfl

/-- The loader's reading of a relief's section goes by the memory, the registers and the bank in force. -/
theorem State.reliefPoison_request (f : ReliefReq → ReliefReq) (r : Nat) (s : State) :
    ((s.reliefReq f).reliefPoison r).2 = (s.reliefPoison r).2 := by
  unfold State.reliefPoison
  split <;> rfl

theorem State.compareAxis_cfg (armed : List Nat) (s : State) (a : Nat) : (State.compareAxis armed s a).cfg = s.cfg := by
  unfold State.compareAxis
  extract_lets m pos cmp r1 r2 s2
  split
  · exact State.says_cfg _ _
  · refine (State.says_cfg _ _).trans ?_
    change s2.cfg = s.cfg
    simp only [s2]
    split <;> rfl

theorem State.compareAxes_cfg (armed l : List Nat) (s : State) : (l.foldl (State.compareAxis armed) s).cfg = s.cfg :=
  foldl_keeps (fun s t : State => t.cfg = s.cfg) (fun _ => rfl) (fun hab hbc => hbc.trans hab) (State.compareAxis armed)
    (State.compareAxis_cfg armed) l s

/-- A request that passed the check and whose section is sound is applied: its relief is in force (R419). -/
theorem State.reliefTake_applied {s : State} {q : ReliefReq} (hreq : s.cfg.request = some q) (hgo : q.go = true)
    (happlied : q.applied = false) (hpoison : q.poison = false) (hclean : (s.reliefPoison q.relief).2 = false) :
    ∃ saved was, s.reliefTake.1.cfg =
      { s.cfg with saved := saved, relief := q.relief, request := some { q with applied := true, was := was } } := by
  obtain ⟨saved, hchange⟩ := State.changeRelief_cfg q.relief (s.reliefPoison q.relief).1
  have hframe := State.reliefPoison_frame q.relief s
  unfold State.reliefTake
  rw [hreq]
  dsimp only
  rw [if_neg (by simp [hgo, happlied, hpoison]), if_neg (by simp [hclean])]
  refine ⟨saved, (s.reliefPoison q.relief).1.cfg.relief, ?_⟩
  unfold State.reliefReq
  dsimp only
  rw [hchange, hframe]
  dsimp only
  rw [hreq]
  rfl

/-! The relief that is asked for, in its stage -/

/-- What RELIEF_APPLY does of the boundary guard and of stage 11 (R419, R423). -/
def State.applyRequest (s : State) : State :=
  let a := s.reliefGuard.reliefTake
  let t := a.2.foldl (State.compareAxis a.2) a.1
  match t.cfg.request with
  | none => t
  | some q => if q.applied || q.poison then t.reliefTick else t

theorem exec_reliefApply {s : State} (hstarted : s.started = true) : exec .reliefApply s = .next s.applyRequest.flush :=
  congrArg Host.Outcome.next (State.inStage_of _ s hstarted)

theorem exec_reliefTimeout {s : State} (hstarted : s.started = true) : exec .reliefTimeout s = .next s.reliefTimeout.flush :=
  congrArg Host.Outcome.next (State.inStage_of _ s hstarted)

theorem State.reliefTick_applied {s : State} {q : ReliefReq} (hreq : s.cfg.request = some q) (happlied : q.applied = true) :
    s.reliefTick.cfg = { s.cfg with request := none } := by
  unfold State.reliefTick
  rw [hreq]
  dsimp only
  rw [if_pos happlied, State.reliefEnd, State.finish_cfg, State.says_cfg]

section
variable {s : State} {q : ReliefReq} (hreq : s.cfg.request = some q) (happlied : q.applied = false) (hpoison : q.poison = false)
include hreq happlied hpoison

theorem State.reliefTimeout_waits : s.reliefTimeout = ({ s with cfg := { s.cfg with request := none } } : State).finish ⟨q.job, 4, 0⟩ := by
  unfold State.reliefTimeout
  rw [hreq]
  dsimp only
  rw [if_neg (by simp [happlied, hpoison]), State.reliefEnd]

/-- A request that may not be applied waits (R423). -/
theorem State.applyRequest_waits (hgo : q.go = false) (hfree : s.reliefFree q.relief = false) : s.applyRequest = s := by
  have hguard : s.reliefGuard = s := by
    unfold State.reliefGuard
    rw [hreq]
    exact if_neg (by simp [hfree])
  have htake : s.reliefTake = (s, []) := by
    unfold State.reliefTake
    rw [hreq]
    exact if_pos (.inl (by simp [hgo]))
  unfold State.applyRequest
  rw [hguard, htake]
  dsimp only [List.foldl_nil]
  rw [hreq]
  exact if_neg (by simp [happlied, hpoison])

/-- A request that may be applied becomes the relief in force, and leaves (R419, R423). -/
theorem State.applyRequest_applied (hfree : s.reliefFree q.relief = true) (hclean : (s.reliefPoison q.relief).2 = false) :
    ∃ saved, s.applyRequest.cfg = { s.cfg with saved := saved, relief := q.relief, request := none } := by
  have hguard : s.reliefGuard = s.reliefReq (fun q => { q with go := true }) := by
    unfold State.reliefGuard
    rw [hreq]
    exact if_pos ⟨by simp [happlied], by simp [hpoison], hfree⟩
  have hasked : (s.reliefReq (fun q => { q with go := true })).cfg.request = some { q with go := true } := by
    simp [State.reliefReq, hreq]
  obtain ⟨saved, was, htaken⟩ := State.reliefTake_applied hasked rfl happlied hpoison
    ((State.reliefPoison_request _ _ s).trans hclean)
  unfold State.applyRequest
  rw [hguard]
  extract_lets a t
  have ht : t.cfg = { s.cfg with saved := saved, relief := q.relief, request := some { q with go := true, applied := true, was := was } } :=
    (State.compareAxes_cfg a.2 a.2 a.1).trans htaken
  have hreq' : t.cfg.request = some { q with go := true, applied := true, was := was } := (congrArg Cfg.request ht :)
  clear_value t
  rw [hreq']
  dsimp only
  rw [Bool.true_or, if_pos rfl, State.reliefTick_applied hreq' rfl, ht]
  exact ⟨saved, rfl⟩

end

/-! RELIEF_SET (R423) -/

/-- A CFG command of a ring of a port that has the right, once the configuration is committed (R424, log 9). -/
structure State.TakesCfg (s : State) (c : Cmd) (install : Bool) : Prop where
  port : c.port < 2
  ring : c.ring < 64
  up : s.up = true
  level : c.level = 4
  index : c.index = 0
  auth : cfgAuth s.regs c.port install = true

section
variable {s : State} {c : Cmd} {r : Nat} (h : s.TakesCfg c false) (hr : r < 16) (himage : r < s.cfg.reliefs.length)
  (hparam : c.param = BitVec.ofNat 32 r)
include h

theorem State.TakesCfg.exec_reliefSet : exec (.reliefSet c) s = .next (s.reliefCmd ⟨0, s.time.tick, c⟩).flush :=
  hostCmd_of (fun j => State.cfgCmd j 1) c s h.port h.ring h.up

include hr himage hparam

/-- A relief of the image: BUSY while one is asked for, OK where it is the one in force, else it is the request (R423). -/
theorem State.TakesCfg.reliefCmd_eq : s.reliefCmd ⟨0, s.time.tick, c⟩ =
    if s.cfg.request.isSome then s.finish ⟨⟨0, s.time.tick, c⟩, 1, 0⟩
    else if s.cfg.relief = r then s.finish ⟨⟨0, s.time.tick, c⟩, 0, 0⟩
    else { s with cfg := { s.cfg with request := some ⟨r, ⟨0, s.time.tick, c⟩, s.time.tick,
      if c.limit = 0 then 20 * max s.regs.CFG_RELIEF_WAIT_WAIT_MS 1 else s.time.tick + 20 * c.limit - s.time.tick, false, false, 0, false⟩ } } := by
  have hval : c.param.toNat = r := by
    rw [hparam, BitVec.toNat_ofNat]
    omega
  have hlow : r % 32 = r := by omega
  unfold State.reliefCmd
  dsimp only
  rw [hval, hlow, if_neg (by simp [h.level, h.index, h.auth, himage]; omega)]

end

/-! The image commands (R424) -/

theorem bitsOf_imageParam {b off page count : Nat} (hb : b < 2) (hoff : off < 256) (hpage : page < 1024) (hcount : count < 256) {x : Word}
    (hx : x = BitVec.ofNat 32 (b + 16 * off + 4096 * page + 2 ^ 24 * count)) :
    x.toNat % 2 = b ∧ bitsOf x.toNat 3 1 = 0 ∧ bitsOf x.toNat 23 22 = 0 ∧ bitsOf x.toNat 11 4 = off ∧ bitsOf x.toNat 21 12 = page ∧
    bitsOf x.toNat 31 24 = count := by
  have hval : x.toNat = b + 16 * off + 4096 * page + 16777216 * count := by
    rw [hx, BitVec.toNat_ofNat]
    omega
  simp only [hval, bitsOf, Nat.shiftRight_eq_div_pow]
  omega

section
variable {s : State} {c : Cmd} (h : s.TakesCfg c true)
include h

theorem State.TakesCfg.hostCmd_imgCmd {code : Nat} (hcode : code = 2 ∨ code = 3 ∨ code = 4) :
    hostCmd (fun j => State.cfgCmd j code) c s = .next (s.imgCmd ⟨0, s.time.tick, c⟩ code).flush := by
  refine (hostCmd_of _ c s h.port h.ring h.up).trans ?_
  rw [State.cfgCmd, if_neg (by omega), if_pos hcode]

variable (hinstall : s.cfg.install = none)
include hinstall

theorem State.TakesCfg.exec_imgCommit (hparam : c.param = 0) : exec (.imgCommit c) s = .next ({ s with cfg := { s.cfg with
    install := some ⟨⟨0, s.time.tick, c⟩, 3, 1 - s.cfg.bank, 0, 0, 0, 0, false⟩ } } : State).flush :=
  (h.hostCmd_imgCmd (.inr (.inl rfl))).trans (by
    simp [State.imgCmd, h.level, h.index, h.auth, hinstall, hparam, bitsOf, Cfg.idle])

variable {page count off : Nat} (hpos : 0 < count) (hcount : count ≤ 160) (hoff : off + count ≤ 160) (hpage : page + count ≤ 1024)
  (hbusy : s.hif.anyBusy page count = false)
include hpos hcount hoff hpage hbusy

/-- IMG_WRITE starts on the idle bank, whose COMMIT it clears (R424). -/
theorem State.TakesCfg.exec_imgWrite (howned : s.hif.allOwned page count (hostOf c.port) = true)
    (hparam : c.param = BitVec.ofNat 32 (16 * off + 4096 * page + 2 ^ 24 * count)) :
    exec (.imgWrite c) s = .next ((({ s with hif := s.hif.setBusy page count true, cfg := { s.cfg with
      install := some ⟨⟨0, s.time.tick, c⟩, 2, 1 - s.cfg.bank, page, count, off, 0, false⟩ } } : State).bankPut (1 - s.cfg.bank) 8
        0).bankState (1 - s.cfg.bank) (fun x => { x with committed := false })).flush := by
  obtain ⟨hbank, hlow, hhigh, hfield, hfirst, hnumber⟩ := bitsOf_imageParam (b := 0) (off := off) (page := page) (count := count)
    (by omega) (by omega) (by omega) (by omega) (hparam.trans (by rw [Nat.zero_add]))
  exact (h.hostCmd_imgCmd (.inl rfl)).trans (by
    simp [State.imgCmd, h.level, h.index, h.auth, hinstall, hbank, hlow, hhigh, hfield, hfirst, hnumber, Nat.ne_of_gt hpos, Nat.not_lt.mpr hcount,
      Nat.not_lt.mpr hoff, Nat.not_lt.mpr hpage, hbusy, howned, Cfg.idle])

theorem State.TakesCfg.exec_imgRead {b : Nat} (hb : b < 2) (howned : s.hif.allOwned page count 0 = true)
    (hparam : c.param = BitVec.ofNat 32 (b + 16 * off + 4096 * page + 2 ^ 24 * count)) :
    exec (.imgRead c) s = .next ({ s with hif := s.hif.setBusy page count true, cfg := { s.cfg with
      install := some ⟨⟨0, s.time.tick, c⟩, 4, b, page, count, off, 0, false⟩ } } : State).flush := by
  obtain ⟨hbank, hlow, hhigh, hfield, hfirst, hnumber⟩ := bitsOf_imageParam hb (by omega) (by omega) (by omega) hparam
  exact (h.hostCmd_imgCmd (.inr (.inr rfl))).trans (by
    simp [State.imgCmd, h.level, h.index, h.auth, hinstall, hbank, hlow, hhigh, hfield, hfirst, hnumber, Nat.ne_of_gt hpos, Nat.not_lt.mpr hcount,
      Nat.not_lt.mpr hoff, Nat.not_lt.mpr hpage, hbusy, howned])

end

/-- A word of COMMIT written touches the second word of the bank alone (R409). -/
theorem State.bankPut_commit_word {b w : Nat} (hw : w ≠ bankWord b + 1) (v : Nat) (s : State) :
    (s.bankPut b 8 v).mem1.store.word w = s.mem1.store.word w := by
  refine MemUnit.writeData_word_outside s.regs 1 14 ?_ false s.mem1
  rw [show (leBytes 4 v).length = 4 from rfl]
  omega

/-- COMMIT of a bank cleared is a matter of one word of memory 1 and of the bank's state (R424). -/
theorem State.clearCommit_frame (b : Nat) (s : State) : ∃ m banks, (s.bankPut b 8 0).bankState b (fun x => { x with committed := false }) =
    { s with mem1 := m, cfg := { s.cfg with banks := banks } } ∧ ∀ w, w ≠ bankWord b + 1 → m.store.word w = s.mem1.store.word w :=
  ⟨(s.bankPut b 8 0).mem1, _, rfl, fun _ hw => State.bankPut_commit_word hw 0 s⟩

/-! The pages of an image command -/

/-- Pages have moved by an image command q, which stands as r: the memories, and of the configuration's state the bank it names. -/
structure State.ImgMoved (q : Install) (s t : State) (r : Install) : Prop where
  frame : t = { s with mem0 := t.mem0, mem1 := t.mem1, cfg := { s.cfg with banks := t.cfg.banks } }
  others : ∀ b, b ≠ q.bank → t.cfg.banks.nth b = s.cfg.banks.nth b
  command : r = { q with moved := r.moved, poison := r.poison }

theorem State.ImgMoved.trans {q r x : Install} {s t u : State} (h : s.ImgMoved q t r) (k : t.ImgMoved r u x) : s.ImgMoved q u x where
  frame := by rw [k.frame, h.frame]
  others b hb := by
    have hbank : r.bank = q.bank := (congrArg Install.bank h.command :)
    rw [k.others b (hbank ▸ hb), h.others b hb]
  command := by rw [k.command, h.command]

theorem State.headWritten_frame (q : Install) (ws : List (DWord × Bool)) (s : State) :
    s.headWritten q ws = { s with cfg := { s.cfg with banks := (s.headWritten q ws).cfg.banks } } ∧
    ∀ b, b ≠ q.bank → (s.headWritten q ws).cfg.banks.nth b = s.cfg.banks.nth b := by
  unfold State.headWritten
  split
  · exact ⟨rfl, fun b hb => Vector.nth_upd_ne _ _ _ _ hb⟩
  · exact ⟨rfl, fun _ _ => rfl⟩

theorem State.imgMoved_written (q : Install) (x y : MemUnit) (ws : List (DWord × Bool)) (s : State) :
    s.ImgMoved q (({ s with mem0 := x, mem1 := y } : State).headWritten q ws)
      { q with moved := q.moved + 1, poison := q.poison || anyBad ws } := by
  obtain ⟨hframe, hothers⟩ := State.headWritten_frame q ws { s with mem0 := x, mem1 := y }
  exact ⟨by rw [hframe], hothers, rfl⟩

theorem State.imgMoved_read (q : Install) (x y : MemUnit) (ws : List (DWord × Bool)) (s : State) :
    s.ImgMoved q { s with mem1 := x, mem0 := y } { q with moved := q.moved + 1, poison := q.poison || anyBad ws } :=
  ⟨rfl, fun _ _ => rfl, rfl⟩

theorem State.imgPage_moved (q : Install) (s : State) : s.ImgMoved q (s.imgPage q).1 (s.imgPage q).2 := by
  unfold State.imgPage
  dsimp only
  split
  · exact State.imgMoved_written q _ _ _ s
  · exact State.imgMoved_read q _ _ _ s

theorem State.imgPages_moved (n : Nat) (q : Install) (s : State) : s.ImgMoved q (s.imgPages q n).1 (s.imgPages q n).2 := by
  induction n generalizing s q with
  | zero => exact ⟨rfl, fun _ _ => rfl, rfl⟩
  | succ n ih =>
    unfold State.imgPages
    split
    · exact ⟨rfl, fun _ _ => rfl, rfl⟩
    · exact (State.imgPage_moved q s).trans (ih _ _)

theorem exec_imgWriteDone {s : State} (hup : s.up = true) : exec .imgWriteDone s = .next (s.imgDone 2).flush :=
  congrArg Host.Outcome.next (State.whenUp_of _ s hup)

theorem exec_imgCommitDone {s : State} (hup : s.up = true) : exec .imgCommitDone s = .next (s.imgDone 3).flush :=
  congrArg Host.Outcome.next (State.whenUp_of _ s hup)

theorem State.imgDone_pages {s : State} {q : Install} (hinstall : s.cfg.install = some q) (hcode : q.code = 2) :
    s.imgDone 2 = (s.imgPages q 160).1.imgMoved (s.imgPages q 160).2 := by
  unfold State.imgDone
  rw [hinstall]
  dsimp only
  rw [if_neg (fun hne => hne hcode), if_neg (by omega)]

theorem State.imgMoved_write {q : Install} (hcode : q.code = 2) (s : State) : s.imgMoved q =
    ({ s with hif := s.hif.setBusy q.page q.count false, cfg := { s.cfg with install := none } } : State).finish
      ⟨q.job, if q.poison then 3 else 0, 0⟩ := by
  have h3 : q.code ≠ 3 := by omega
  have h4 : q.code ≠ 4 := by omega
  simp [State.imgMoved, State.imgEnd, h3, h4]

theorem State.imgDone_commit {s : State} {q : Install} (hinstall : s.cfg.install = some q) (hcode : q.code = 3) :
    s.imgDone 3 = s.imgCommit q := by
  unfold State.imgDone
  rw [hinstall]
  dsimp only
  rw [if_neg (fun hne => hne hcode), if_pos rfl]

/-! IMG_COMMIT (R424, R455) -/

theorem State.imgEnd_cfg (q : Install) (status result : Nat) (s : State) : (s.imgEnd q status result).cfg = { s.cfg with install := none } :=
  State.finish_cfg _ _

theorem State.topGen_cfg (s : State) : s.topGen.1.cfg = s.cfg := rfl

/-- The generation that a commit follows: of the banks where no image is in force by strap, else of the image in force (R455). -/
theorem State.committedGen_frame (s : State) : (if s.boot.straps.testBit 7 then s.topGen else (s, s.cfg.gen)).1.cfg = s.cfg ∧
    (s.boot.straps.testBit 7 = false → (if s.boot.straps.testBit 7 then s.topGen else (s, s.cfg.gen)).2 = s.cfg.gen) := by
  refine ⟨?_, fun h => ?_⟩
  · split
    · exact State.topGen_cfg s
    · rfl
  · rw [if_neg (by simp [h])]

section
variable {s : State} {q : Install} {v : MemUnit × Nat × Option Image} (hv : s.mem1.imgVerify s.regs q.bank = v)
include hv

/-- A bank whose check fails is not valid, and names the cause (R413, R424). -/
theorem State.imgCommit_refused (h : v.2.2 = none) : (s.imgCommit q).cfg = { s.cfg with
    banks := s.cfg.banks.upd q.bank (fun x => { x with cause := v.2.1, valid := false }), install := none } := by
  unfold State.imgCommit
  rw [hv]
  dsimp only
  rw [h]
  exact State.imgEnd_cfg _ _ _ _

/-- A bank whose check passes is valid and committed, with the next generation (R424, R455). -/
theorem State.imgCommit_done {m : Image} (h : v.2.2 = some m) : ∃ gen, (s.imgCommit q).cfg = { s.cfg with
      banks := s.cfg.banks.upd q.bank (fun _ => ⟨0, true, true, gen, m.id⟩), install := none } ∧
    (s.boot.straps.testBit 7 = false → gen = (s.cfg.gen + 1) % 2 ^ 32) := by
  unfold State.imgCommit
  rw [hv]
  extract_lets r s1 g s2 gen s3 s4
  rw [h]
  dsimp only
  obtain ⟨hcfg, hgen⟩ := State.committedGen_frame s1
  have h4 : s4.cfg = g.1.cfg := rfl
  refine ⟨gen, ?_, fun hstrap => ?_⟩
  · rw [State.imgEnd_cfg, State.says_cfg]
    exact congrArg (fun x : Cfg => { x with
      banks := x.banks.upd q.bank (fun _ => ⟨0, true, true, gen, m.id⟩), install := none }) (h4.trans hcfg)
  · exact congrArg (fun n => (n + 1) % 4294967296) (hgen hstrap)

end

/-- Settles O56: a request is kept, waits, is applied or given up by the boundary guard's check; an image command starts by its
parameter, moves its pages, and a commit ends as the check of the bank tells. -/
theorem reliefAndImages : Obligations.ReliefAndImages := by
  refine ⟨fun s c r hport hring hup hlevel hindex hr himage hparam hauth => ?set, fun s q hstarted hreq happlied hpoison => ?request,
    fun s c hport hring hup hlevel hindex hauth hinstall => ?images, fun s q hup hinstall => ⟨fun hcode => ?written,
      fun hcode hbank => ?committed⟩⟩
  case set =>
    have h : s.TakesCfg c false := ⟨hport, hring, hup, hlevel, hindex, hauth⟩
    have heq := h.reliefCmd_eq hr himage hparam
    rw [State.Answered, State.Answered, h.exec_reliefSet, heq]
    refine ⟨fun hreq => ?_, fun hreq hin => ?_, fun hreq hout => ?_⟩
    · rw [if_pos (Option.isSome_iff_ne_none.mpr hreq)]
    · rw [if_neg (by simp [hreq]), if_pos hin]
    · rw [if_neg (by simp [hreq]), if_neg hout]
      exact ⟨_, rfl, rfl, rfl, rfl, rfl, rfl⟩
  case request =>
    refine ⟨?_, fun hgo hfree => ?_, fun hfree hclean => ⟨s.applyRequest.flush, exec_reliefApply hstarted, ?_⟩⟩
    · rw [exec_reliefTimeout hstarted, State.reliefTimeout_waits hreq happlied hpoison]
    · rw [exec_reliefApply hstarted, State.applyRequest_waits hreq happlied hpoison hgo hfree]
    · obtain ⟨saved, hcfg⟩ := State.applyRequest_applied hreq happlied hpoison hfree hclean
      rw [State.flush_cfg, hcfg]
      exact ⟨rfl, rfl, rfl, exec_keepsQueue .reliefApply s _ (exec_reliefApply hstarted)⟩
  case images =>
    have h : s.TakesCfg c true := ⟨hport, hring, hup, hlevel, hindex, hauth⟩
    refine ⟨h.exec_imgCommit hinstall, fun page count off hpos hcount hoff hpage hbusy => ⟨fun howned hparam => ?_,
      fun b hb howned hparam => h.exec_imgRead hinstall hpos hcount hoff hpage hbusy hb howned hparam⟩⟩
    obtain ⟨m, banks, hcleared, hwords⟩ := State.clearCommit_frame (1 - s.cfg.bank) { s with
      hif := s.hif.setBusy page count true
      cfg := { s.cfg with install := some ⟨⟨0, s.time.tick, c⟩, 2, 1 - s.cfg.bank, page, count, off, 0, false⟩ } }
    rw [h.exec_imgWrite hinstall hpos hcount hoff hpage hbusy howned hparam, hcleared]
    exact ⟨_, rfl, rfl, rfl, rfl, hwords⟩
  case written =>
    obtain ⟨hframe, hothers, hcommand⟩ := State.imgPages_moved 160 q s
    rw [exec_imgWriteDone hup, State.imgDone_pages hinstall hcode]
    generalize (s.imgPages q 160).1 = t at *
    generalize (s.imgPages q 160).2 = r at *
    have hwrite : r.code = 2 := (congrArg Install.code hcommand :).trans hcode
    have hjob : r.job = q.job := (congrArg Install.job hcommand :)
    have hpage : r.page = q.page := (congrArg Install.page hcommand :)
    have hcount : r.count = q.count := (congrArg Install.count hcommand :)
    rw [State.imgMoved_write hwrite, hjob, hpage, hcount]
    refine ⟨_, _, rfl, ?_, ?_, hothers⟩
    · split
      · exact .inr rfl
      · exact .inl rfl
    · rw [hframe]

  case committed =>
    refine ⟨(s.imgDone 3).flush, exec_imgCommitDone hup, ?_⟩
    rw [State.flush_cfg, State.imgDone_commit hinstall hcode]
    generalize hverify : s.mem1.imgVerify s.regs q.bank = v
    cases hcheck : v.2.2 with
    | none =>
      rw [State.imgCommit_refused hverify hcheck]
      dsimp only
      rw [Vector.nth_upd_same _ _ _ hbank]
      exact ⟨rfl, fun _ => ⟨rfl, rfl⟩, fun hne => absurd rfl hne⟩
    | some m =>
      obtain ⟨gen, hcfg, hgen⟩ := State.imgCommit_done hverify hcheck
      rw [hcfg]
      dsimp only
      rw [Vector.nth_upd_same _ _ _ hbank]
      exact ⟨rfl, nofun, fun _ => ⟨rfl, rfl, hgen⟩⟩

end Sys2Proof.Machine
end

section
/-! What happens on the bridge dies themselves (O2, O3): a carrier period, the safe state, comparator trips, the classes of the sensitive
edges (R24, R45, R144, R146, R161, R175, R222). -/

namespace Sys2Proof.Machine

/-! One die. -/

/-- What a period with a valid word makes of the die before it may arm (R45, R146, R175). -/
def BridgeDie.load (half : Nat) (d : BridgeDie) : BridgeDie :=
  ({ d with half := half % 2, leafTrip := Vector.replicate 4 false, stepTrip := Vector.replicate 4 false
            loaded := d.now.nth (half % 2), good := d.good + 1, missed := 0 } : BridgeDie).overrides

theorem BridgeDie.period_valid (half : Nat) (d : BridgeDie) : d.period half true = (d.load half).tryArm := rfl

theorem BridgeDie.tryArm_eq (d : BridgeDie) :
    d.tryArm = { d with armed := d.tryArm.armed, armedOnce := d.tryArm.armedOnce, safe := d.tryArm.safe } := by
  unfold BridgeDie.tryArm
  split <;> rfl

theorem BridgeDie.tryArm_armed (d : BridgeDie) :
    d.tryArm.armed = true ↔ d.armed = true ∨ d.vdrvOk = true ∧ 16 ≤ d.good ∧ d.loaded.arm = true := by
  unfold BridgeDie.tryArm
  split <;> simp_all

theorem BridgeDie.tryArm_safe (d : BridgeDie) :
    d.tryArm.safe = true ↔ d.safe = true ∧ ¬(d.vdrvOk = true ∧ 16 ≤ d.good ∧ d.loaded.arm = true) := by
  unfold BridgeDie.tryArm
  split <;> simp_all

theorem BridgeDie.makeSafe_of_missed {d : BridgeDie} (h : 2 ≤ d.missed) : d.makeSafe = { d with safe := true } := if_pos h

/-- What a period without a valid word leaves of the die: the second in a row makes it safe (R24, R45). -/
theorem BridgeDie.period_missed (half : Nat) (d : BridgeDie) : d.period half false = { d with
    half := half % 2, leafTrip := Vector.replicate 4 false, stepTrip := Vector.replicate 4 false
    good := 0, missed := d.missed + 1, safe := d.safe || decide (1 ≤ d.missed) } := by
  simp only [BridgeDie.period, Bool.false_eq_true, if_false, BridgeDie.makeSafe]
  split
  · next h => simp [show 1 ≤ d.missed by omega]
  · next h => simp [show d.missed = 0 by omega]

/-- A tripped leaf is gated off, whatever else its die does (R175). -/
theorem BridgeDie.leg_leafTripped {j h : Nat} (hj : j < 4) (hh : h / 3 = j) (phase : Nat) (d : BridgeDie) :
    (d.leafTripped j phase).leg h = .off := by
  have hleg : h < 12 := by omega
  have htrip : (d.leafTripped j phase).leafTrip.nth (h / 3) = true := by
    rw [hh]
    exact Vector.nth_put_same _ _ _ hj
  simp [BridgeDie.leg, hleg, htrip]

theorem BridgeDie.edgeMeasured_short {ns : Nat} (h : ns < 1000) (j ohms : Nat) (d : BridgeDie) : d.edgeMeasured j ohms ns = d :=
  if_neg (Nat.not_le.mpr h)

theorem BridgeDie.edgeMeasured_same {j ohms : Nat} {d : BridgeDie} (h : d.edge.nth j = edgeClass ohms) (ns : Nat) :
    d.edgeMeasured j ohms ns = d := by
  rw [BridgeDie.edgeMeasured, BridgeDie.edgeTo, if_pos h, ite_self]

/-- What a new class makes of the die: it is reported, and one other than NORMAL sets the override of an armed leaf (R144, R146, R147). -/
def BridgeDie.newClass (j cls : Nat) (d : BridgeDie) : BridgeDie :=
  { d with edge := d.edge.put j cls, seen := d.seen.upd j (fun l => l ++ [cls])
           override := d.override.upd j (fun o => o || (d.loaded.edgeArm.testBit j && decide (cls ≠ 0))) }

theorem BridgeDie.edgeMeasured_new {j ohms ns : Nat} {d : BridgeDie} (hns : 1000 ≤ ns) (h : d.edge.nth j ≠ edgeClass ohms) :
    d.edgeMeasured j ohms ns = d.newClass j (edgeClass ohms) := by
  rw [BridgeDie.edgeMeasured, if_pos hns, BridgeDie.edgeTo, if_neg h]
  rfl

/-! The classes of a loop resistance (R144). -/

theorem edgeClass_eq_one_iff (ohms : Nat) : edgeClass ohms = 1 ↔ ohms < 2000 := by
  unfold edgeClass
  split_ifs <;> simp <;> omega

theorem edgeClass_eq_two_iff (ohms : Nat) : edgeClass ohms = 2 ↔ 20000 < ohms := by
  unfold edgeClass
  split_ifs <;> simp <;> omega

theorem edgeClass_eq_zero_iff (ohms : Nat) : edgeClass ohms = 0 ↔ 6500 ≤ ohms ∧ ohms ≤ 10500 := by
  unfold edgeClass
  split_ifs <;> simp <;> omega

/-! A change of one die. -/

theorem Vector.nth_replicate_false (n i : Nat) : (Vector.replicate n false).nth i = false := by
  rcases Nat.lt_or_ge i n with h | h
  · exact Vector.nth_replicate false i h
  · exact Vector.nth_of_le _ i h

theorem Vector.upd_of_fixed {α : Type} [Inhabited α] {n : Nat} {v : Vector α n} {i : Nat} {f : α → α} (h : f (v.nth i) = v.nth i) :
    v.upd i f = v := by
  rw [Vector.upd_congr v i f id h]
  unfold Vector.upd
  split <;> simp

theorem State.die_of_fixed {s : State} {b : Nat} {f : BridgeDie → BridgeDie} (h : f (s.dies.nth b) = s.dies.nth b) : s.die b f = s := by
  rw [State.die, Vector.upd_of_fixed h]

theorem State.die_nth_same (s : State) {b : Nat} (h : b < 4) (f : BridgeDie → BridgeDie) : (s.die b f).dies.nth b = f (s.dies.nth b) :=
  Vector.nth_upd_same _ _ _ h

theorem State.die_nth_ne (s : State) {b k : Nat} (h : k ≠ b) (f : BridgeDie → BridgeDie) : (s.die b f).dies.nth k = s.dies.nth k :=
  Vector.nth_upd_ne _ _ _ _ h

/-! The rows. -/

theorem State.ne_deviceReset_of_sendsWords {s : State} (h : s.sendsWords = true) : s.boot.phase ≠ .deviceReset := by
  intro hphase
  simp [State.sendsWords, hphase] at h

theorem exec_carrierPeriodStart {s : State} {die half : Nat} (hdie : die < 4) (hhalf : half < 2) (hsends : s.sendsWords = true)
    (valid : Bool) : exec (.carrierPeriodStart die half valid) s = .next (s.die die (BridgeDie.period half valid)) := by
  show onObjects 4 die 2 half _ = _
  rw [onObjects_of_lt _ _ _ _ _ hdie hhalf, State.carrierPeriod, if_neg (State.ne_deviceReset_of_sendsWords hsends), hsends,
    Bool.and_true]

/-- Settles O2: with a word the die loads it and tries to arm, without one it counts the miss; no other die is named. -/
theorem carrierPeriod : Obligations.CarrierPeriod := by
  intro s die half hdie hhalf hsends
  refine ⟨⟨_, exec_carrierPeriodStart hdie hhalf hsends true, rfl, fun b hb => State.die_nth_ne s hb _, ?loaded⟩,
    ⟨_, exec_carrierPeriodStart hdie hhalf hsends false, rfl, fun b hb => State.die_nth_ne s hb _, ?missed⟩⟩
  case loaded =>
    have hmod : half % 2 = half := Nat.mod_eq_of_lt hhalf
    have hgood : 16 ≤ (s.dies.nth die).good + 1 ↔ 15 ≤ (s.dies.nth die).good := Nat.succ_le_succ_iff
    have harmed := ((s.dies.nth die).load half).tryArm_armed
    have hsafe := ((s.dies.nth die).load half).tryArm_safe
    rw [State.die_nth_same s hdie, BridgeDie.period_valid]
    rw [BridgeDie.tryArm_eq]
    simp only [BridgeDie.load, BridgeDie.overrides, hmod, hgood] at harmed hsafe ⊢
    exact ⟨trivial, trivial, trivial, trivial, Vector.nth_replicate_false 4, Vector.nth_replicate_false 4, harmed, hsafe⟩
  case missed =>
    rw [State.die_nth_same s hdie, BridgeDie.period_missed]
    simp

theorem exec_bridgeSafeState {s : State} {die : Nat} (hdie : die < 4) :
    exec (.bridgeSafeState die) s = .next (s.die die BridgeDie.makeSafe) := onObject_of_lt _ _ _ hdie

theorem exec_edgeClassChange {s : State} {leaf : Nat} (hleaf : leaf < 16) (ohms ns : Nat) :
    exec (.edgeClassChange leaf ⟨ohms, ns⟩) s = .next (s.die (leaf / 4) (BridgeDie.edgeMeasured (leaf % 4) ohms ns)) :=
  onObject_of_lt _ _ _ hleaf

/-- Settles O3: each row is its operation on the one die. -/
theorem bridgeDieEvents : Obligations.BridgeDieEvents := by
  refine ⟨fun s die hdie hmissed => ?safe, fun s leaf phase hleaf hphase => ?leafTrip, fun s step phase hstep hphase => ?stepTrip,
    fun s leaf ohms ns hleaf => ⟨fun hns => ?short, fun hns hsame => ?same, fun hns hnew => ?new, edgeClass_eq_one_iff ohms,
      edgeClass_eq_two_iff ohms, edgeClass_eq_zero_iff ohms⟩⟩
  case safe =>
    rw [exec_bridgeSafeState hdie, State.die,
      Vector.upd_congr _ _ _ (fun d => { d with safe := true }) (BridgeDie.makeSafe_of_missed hmissed)]
  case leafTrip =>
    have hdie : leaf / 4 < 4 := by omega
    refine ⟨_, onObjects_of_lt _ _ _ _ _ hleaf hphase, rfl, fun b hb => State.die_nth_ne s hb _, ?_⟩
    rw [State.die_nth_same s hdie]
    exact ⟨rfl, fun h hh => BridgeDie.leg_leafTripped (Nat.mod_lt _ (by decide)) hh phase _,
      fun j hj => Vector.nth_upd_ne _ _ _ _ hj⟩
  case stepTrip =>
    refine ⟨_, onObjects_of_lt _ _ _ _ _ hstep hphase, rfl, fun b hb => State.die_nth_ne s hb _, ?_⟩
    rw [State.die_nth_same s (by omega)]
    rfl
  case short => rw [exec_edgeClassChange hleaf, State.die_of_fixed (BridgeDie.edgeMeasured_short hns _ _ _)]
  case same => rw [exec_edgeClassChange hleaf, State.die_of_fixed (BridgeDie.edgeMeasured_same hsame ns)]
  case new =>
    rw [exec_edgeClassChange hleaf, State.die,
      Vector.upd_congr _ _ _ (BridgeDie.newClass (leaf % 4) (edgeClass ohms)) (BridgeDie.edgeMeasured_new hns hnew)]
    rfl

end Sys2Proof.Machine
end

section
/-! Links 4 and 6 on the switch die (O8, O9): a slot without a frame, autonomous mode, a valid frame, and the supervisor's reset (R20, R25,
R26, R291). -/

namespace Sys2Proof.Machine

/-! What channel B's decision and comparisons leave alone. -/

/-- The die in autonomous mode keeps channel B off (R25). -/
theorem SwitchDie.driveB_auto {d : SwitchDie} (h : d.auto = true) : d.driveB = { d with chB := { d.chB with cond := false } } := by
  simp [SwitchDie.driveB, h]

/-- e is d but for channel B, which has kept its test pulse. -/
structure SwitchDie.ChBOnly (d e : SwitchDie) : Prop where
  frame : e = { d with chB := e.chB }
  pulse : e.chB.pulse = d.chB.pulse

theorem SwitchDie.ChBOnly.refl (d : SwitchDie) : d.ChBOnly d := ⟨rfl, rfl⟩

theorem SwitchDie.ChBOnly.trans {a b c : SwitchDie} (h : a.ChBOnly b) (k : b.ChBOnly c) : a.ChBOnly c :=
  ⟨by rw [k.frame, h.frame], k.pulse.trans h.pulse⟩

theorem SwitchDie.driveB_chBOnly (d : SwitchDie) : d.ChBOnly d.driveB := ⟨rfl, rfl⟩
theorem SwitchDie.decideB_chBOnly (d : SwitchDie) : d.ChBOnly d.decideB := ⟨rfl, rfl⟩

theorem SwitchDie.latchOwn_chBOnly (d : SwitchDie) : d.ChBOnly d.latchOwn := by
  unfold SwitchDie.latchOwn
  split
  · exact ⟨rfl, rfl⟩
  · exact SwitchDie.ChBOnly.refl d

theorem SwitchDie.latchOwn_off {d : SwitchDie} (h : d.chB.cond = false) : d.latchOwn.chB.cond = false := by
  unfold SwitchDie.latchOwn
  split
  · rw [SwitchDie.driveB_held (.inl (by rfl))]
  · exact h

/-- What a comparison ends with: the die latches, or it does not. -/
theorem SwitchDie.latchIf_chBOnly (c : Prop) [Decidable c] (d : SwitchDie) : d.ChBOnly (if c then d.latchOwn else d) := by
  split
  · exact SwitchDie.latchOwn_chBOnly d
  · exact SwitchDie.ChBOnly.refl d

theorem SwitchDie.latchIf_off (c : Prop) [Decidable c] {d : SwitchDie} (h : d.chB.cond = false) :
    (if c then d.latchOwn else d).chB.cond = false := by
  split
  · exact SwitchDie.latchOwn_off h
  · exact h

theorem SwitchDie.compareB_chBOnly (d : SwitchDie) : d.ChBOnly d.compareB := by
  by_cases hpass : (!d.passA) = true
  · rw [SwitchDie.compareB, if_pos hpass]
    exact ⟨rfl, rfl⟩
  · rw [SwitchDie.compareB, if_neg hpass]
    refine SwitchDie.ChBOnly.trans ?_ (SwitchDie.latchIf_chBOnly _ _)
    exact ⟨rfl, rfl⟩

/-- The comparisons never close the switch. -/
theorem SwitchDie.compareB_off {d : SwitchDie} (h : d.chB.cond = false) : d.compareB.chB.cond = false := by
  by_cases hpass : (!d.passA) = true
  · rw [SwitchDie.compareB, if_pos hpass]
    exact h
  · rw [SwitchDie.compareB, if_neg hpass]
    exact SwitchDie.latchIf_off _ h

theorem SwitchDie.decideB_auto {d : SwitchDie} (h : d.auto = true) : d.decideB.chB.cond = false := by
  rw [SwitchDie.decideB, SwitchDie.driveB_auto (by exact h)]

/-! The rows. -/

theorem exec_switchAutonomous {s : State} (hreset : s.boot.phase ≠ .deviceReset) :
    exec .switchAutonomous s = .next { s with sw := s.sw.enterAuto } := congrArg Host.Outcome.next (State.onSwitch_of _ hreset)

theorem exec_switchSupervisorReset {s : State} (hreset : s.boot.phase ≠ .deviceReset) :
    exec .switchSupervisorReset s = .next { s with sw := s.sw.supervisorReset } :=
  congrArg Host.Outcome.next (State.onSwitch_of _ hreset)

theorem exec_link6FrameMissed {s : State} (hreset : s.boot.phase ≠ .deviceReset) :
    exec .link6FrameMissed s = .next { s with sw := s.sw.frame6 false 0 0 } := congrArg Host.Outcome.next (State.onSwitch_of _ hreset)

theorem exec_switchLink4Frame {s : State} (hreset : s.boot.phase ≠ .deviceReset) (valid : Bool) :
    exec (.switchLink4Frame valid) s = .next { s with sw := s.sw.frame4 (valid && s.coreRuns) s.links.now4 } :=
  congrArg Host.Outcome.next (State.onSwitch_of _ hreset)

theorem SwitchDie.enterAuto_of {d : SwitchDie} (h : 2 ≤ d.bad) :
    d.enterAuto = { d with auto := true, chB := { d.chB with cond := false } } := by
  rw [SwitchDie.enterAuto, if_pos h]
  exact SwitchDie.driveB_auto rfl

/-- What a slot without a valid frame counts (R20). -/
def SwitchDie.discard4 (d : SwitchDie) : SwitchDie := { d with bad := min (d.bad + 1) 2, good := 0, discards4 := d.discards4 + 1 }

theorem SwitchDie.frame4_first_bad {d : SwitchDie} (h : d.bad = 0) (fr : Frame4) : d.frame4 false fr = d.discard4 := by
  simp [SwitchDie.frame4, SwitchDie.discard4, h]

/-- The second slot in a row without a valid frame (R25). -/
theorem SwitchDie.frame4_second_bad {d : SwitchDie} (h : 1 ≤ d.bad) (fr : Frame4) :
    d.frame4 false fr = { d.discard4 with auto := true, chB := { d.chB with cond := false } } := by
  have hbad : 2 ≤ d.discard4.bad := by simp only [SwitchDie.discard4]; omega
  have hframe : d.frame4 false fr = if 2 ≤ d.discard4.bad then d.discard4.enterAuto else d.discard4 := rfl
  rw [hframe, if_pos hbad, SwitchDie.enterAuto_of hbad]
  rfl

/-- Settles O8: a slot without a frame is the first or a later one in a row, and channel B decides anew on a missed link 6 frame. -/
theorem switchDieLinkLoss : Obligations.SwitchDieLinkLoss := by
  intro s hreset
  refine ⟨⟨_, exec_switchLink4Frame hreset false, rfl, ?link4⟩, fun hbad => ⟨_, exec_switchAutonomous hreset, rfl, ?autonomous⟩,
    ⟨_, exec_link6FrameMissed hreset, rfl, rfl, rfl, rfl, rfl, ?fault6⟩, exec_switchSupervisorReset hreset⟩
  case link4 =>
    rw [Bool.false_and]
    dsimp only
    rcases Nat.eq_zero_or_pos s.sw.bad with hfirst | hlater
    · rw [SwitchDie.frame4_first_bad hfirst]
      exact ⟨rfl, rfl, rfl, rfl, rfl, rfl, rfl, fun h => by omega, fun _ => rfl⟩
    · rw [SwitchDie.frame4_second_bad hlater]
      exact ⟨rfl, rfl, rfl, rfl, rfl, rfl, rfl, fun _ => ⟨rfl, rfl⟩, fun h => by omega⟩
  case autonomous => exact SwitchDie.enterAuto_of hbad
  case fault6 =>
    have hfault : (s.sw.frame6 false 0 0).fault6 = (s.sw.fault6 || decide (2 ≤ min (s.sw.bad6 + 1) 2)) := rfl
    have hsecond : 2 ≤ min (s.sw.bad6 + 1) 2 ↔ 1 ≤ s.sw.bad6 := by omega
    dsimp only
    rw [hfault, Bool.or_eq_true, decide_eq_true_eq, hsecond]

theorem State.ne_deviceReset_of_coreRuns {s : State} (h : s.coreRuns = true) : s.boot.phase ≠ .deviceReset := by
  intro hphase
  simp [State.coreRuns, hphase] at h

/-! A valid frame (R20, R26, R28). -/

/-- The frame ends autonomous mode: it carries the resynchronisation command and is the eighth valid one, or a later one (R26). -/
def SwitchDie.resyncs (fr : Frame4) (d : SwitchDie) : Bool := d.auto && fr.resync && decide (8 ≤ min (d.good + 1) 8)

/-- What a valid frame brings of settings and of channel A, and the end of autonomous mode. -/
def SwitchDie.adopt (fr : Frame4) (d : SwitchDie) : SwitchDie :=
  let set := adoptSettings d.settings fr.changes fr.sliceWords
  { d with seen := true, good := min (d.good + 1) 8, bad := 0, settings := set.1, decA := fr.decA, latchA := fr.latchA, passA := fr.passed,
           tickNo := fr.tick, closed := fr.closed, auto := d.auto && !d.resyncs fr, resynced := d.resynced || d.resyncs fr
           reports := d.reports ++ (if set.2 then [(0x0003, p1 4 ++ p1 fr.slice)] else []) }

/-- The commands of a frame on an armed die that is not in autonomous mode; at a resynchronisation the channels keep theirs (R26). -/
def SwitchDie.command (fr : Frame4) (resync : Bool) (d : SwitchDie) : SwitchDie :=
  if d.auto then d else
  { d with armed := d.armed || fr.arm
           chans := d.chans.mapIdx (fun k c =>
             if d.armed || fr.arm then
               { c with cmd := if resync then c.cmd else fr.cmd.testBit k, restart := c.restart || fr.restart.testBit k }
             else c) }

/-- The latch of channel B by the frame; its test pulse has ended. -/
def SwitchDie.latchB (fr : Frame4) (d : SwitchDie) : SwitchDie :=
  let b := d.chB
  let latch := (b.latch || fr.latchA) && !(fr.clrB && b.decB == fr.decA)
  { d with chB := { b with latch := latch, pulse := false, report := if b.latch && !latch then 0 else b.report } }

theorem SwitchDie.frame4_valid {fr : Frame4} (h : fr.sent = true) (d : SwitchDie) :
    d.frame4 true fr = (((d.adopt fr).command fr (d.resyncs fr)).latchB fr).decideB.compareB := by
  rw [SwitchDie.frame4, h]
  rfl

/-- A command changes channels and arming alone. -/
theorem SwitchDie.command_eq (fr : Frame4) (resync : Bool) (d : SwitchDie) :
    d.command fr resync = { d with armed := (d.command fr resync).armed, chans := (d.command fr resync).chans } := by
  unfold SwitchDie.command
  split <;> rfl

/-- What a valid frame leaves of the die: what it adopted, the commands, and channel B. -/
theorem SwitchDie.frame4_valid_eq {fr : Frame4} (h : fr.sent = true) (d : SwitchDie) : d.frame4 true fr =
    { d.adopt fr with armed := ((d.adopt fr).command fr (d.resyncs fr)).armed, chans := ((d.adopt fr).command fr (d.resyncs fr)).chans
                      chB := (d.frame4 true fr).chB } := by
  have hB := (SwitchDie.decideB_chBOnly (((d.adopt fr).command fr (d.resyncs fr)).latchB fr)).trans (SwitchDie.compareB_chBOnly _)
  rw [← SwitchDie.frame4_valid h] at hB
  rw [hB.frame]
  conv_lhs => rw [SwitchDie.latchB, SwitchDie.command_eq]

theorem SwitchDie.frame4_valid_pulse {fr : Frame4} (h : fr.sent = true) (d : SwitchDie) : (d.frame4 true fr).chB.pulse = false := by
  rw [SwitchDie.frame4_valid h]
  exact ((SwitchDie.decideB_chBOnly _).trans (SwitchDie.compareB_chBOnly _)).pulse

/-- A die that stays in autonomous mode keeps channel B off (R25, R26). -/
theorem SwitchDie.frame4_valid_auto {fr : Frame4} {d : SwitchDie} (h : fr.sent = true) (hauto : d.auto = true) (hsync : fr.resync = false) :
    (d.frame4 true fr).auto = true ∧ (d.frame4 true fr).chB.cond = false := by
  have hadopt : (d.adopt fr).auto = true := by simp [SwitchDie.adopt, SwitchDie.resyncs, hauto, hsync]
  constructor
  · rw [SwitchDie.frame4_valid_eq h]
    exact hadopt
  · rw [SwitchDie.frame4_valid h]
    refine SwitchDie.compareB_off (SwitchDie.decideB_auto ?_)
    rw [SwitchDie.latchB, SwitchDie.command_eq]
    exact hadopt

/-- The commands of an armed die that is not in autonomous mode are those of the frame. -/
theorem SwitchDie.frame4_valid_cmd {fr : Frame4} {d : SwitchDie} {k : Nat} (h : fr.sent = true) (hauto : d.auto = false)
    (harmed : d.armed = true) (hk : k < 48) : (d.frame4 true fr).chans.nth k =
      { d.chans.nth k with cmd := fr.cmd.testBit k, restart := (d.chans.nth k).restart || fr.restart.testBit k } := by
  rw [SwitchDie.frame4_valid_eq h]
  simp [SwitchDie.command, SwitchDie.adopt, SwitchDie.resyncs, hauto, harmed, Vector.nth_mapIdx _ _ _ hk]

/-- Settles O9: the frame is adopted, its commands are taken, and channel B decides and compares. -/
theorem switchDieTakesFrame : Obligations.SwitchDieTakesFrame := by
  intro s hcore hsent
  have hexec := exec_switchLink4Frame (State.ne_deviceReset_of_coreRuns hcore) true
  rw [hcore, Bool.and_self] at hexec
  have hdie := SwitchDie.frame4_valid_eq hsent s.sw
  refine ⟨_, hexec, rfl, ?_⟩
  dsimp only
  exact ⟨congrArg SwitchDie.seen hdie, congrArg SwitchDie.bad hdie, congrArg SwitchDie.good hdie, congrArg SwitchDie.decA hdie,
    congrArg SwitchDie.tickNo hdie, congrArg SwitchDie.closed hdie, (congrArg SwitchDie.groups hdie :), (congrArg SwitchDie.tl hdie :),
    (congrArg SwitchDie.in6 hdie :), SwitchDie.frame4_valid_pulse hsent s.sw, (congrArg SwitchDie.discards4 hdie :),
    SwitchDie.frame4_valid_auto hsent, fun hauto harmed k hk => by simp [SwitchDie.frame4_valid_cmd hsent hauto harmed hk]⟩

end Sys2Proof.Machine
end

section
/-! Every tick by the phase of start-up (O20): a link-up tick as its engine sees it, a control tick, and a held core die (R29, R431, R439,
R440). -/

namespace Sys2Proof.Machine

/-- The end of link-up tick n: the sixteenth leads to the first complete tick (R439). -/
def Engine.linkUp (e : Engine) (n : Nat) : Engine := { e with phase := if n < 15 then .linkUp (n + 1) else .first }

theorem State.phase_engine (s : State) (p : Phase) :
    ({ s with boot := { s.boot with phase := p } } : State).engine = { s.engine with phase := p } := rfl

theorem State.switchHeld_engine (n : Nat) (s : State) :
    (if n = 0 then { s with boot := { s.boot with switchHeld := s.sw.auto } } else s : State).engine = s.engine := by
  split <;> simp

theorem State.linkUpTick_engine (n : Nat) (a : TickIn) (s : State) : (s.linkUpTick n a).engine = s.engine.boundary.linkUp n := by
  refine (State.phase_engine _ _).trans ?_
  simp only [State.moderateAll_engine, State.place_engine, State.memPost_engine, State.buildFrames_engine, State.ilkWatch_engine,
    State.deferLines_engine, State.intake_engine, State.ntTick_engine,
    State.foldl_engine _ (State.compareAxis_engine s.boundary.2), State.switchHeld_engine, State.boundary_engine]
  rfl

theorem exec_tick (a : TickIn) (s : State) : exec (.tick a) s = .next (s.tick [] a) := rfl

theorem State.tick_of_linkUp {s : State} {n : Nat} (hreset : s.boot.resetAsked = false) (hphase : s.boot.phase = .linkUp n) (a : TickIn) :
    s.tick [] a = s.linkUpTick n a := by
  simp [State.tick, hreset, hphase]

theorem exec_tick_linkUp {s : State} {n : Nat} (hreset : s.boot.resetAsked = false) (hphase : s.boot.phase = .linkUp n) (a : TickIn) :
    ∃ t, exec (.tick a) s = .next t ∧ t.engine = s.engine.boundary.linkUp n :=
  ⟨s.linkUpTick n a, congrArg Host.Outcome.next (State.tick_of_linkUp hreset hphase a), s.linkUpTick_engine n a⟩

/-- A tick of a core die that is held: in a core reset the remote dies alone close theirs. -/
theorem State.tick_of_coreReset {s : State} (hreset : s.boot.resetAsked = false) (hphase : s.boot.phase = .coreReset) (a : TickIn) :
    s.tick [] a = { s with sw := s.sw.endTick, field := s.field.endTick, boot := s.boot.older } := by
  simp [State.tick, hreset, hphase]

theorem State.tick_of_held {s : State} (hreset : s.boot.resetAsked = false)
    (hphase : s.boot.phase = .deviceReset ∨ s.boot.phase = .testMode) (a : TickIn) : s.tick [] a = s := by
  rcases hphase with hphase | hphase <;> simp [State.tick, hreset, hphase]

theorem State.tick_of_resetAsked {s : State} (hreset : s.boot.resetAsked = true) (a : TickIn) : s.tick [] a = s.coreReset 6 := by
  simp [State.tick, hreset]

/-- ARMED at a boundary: it is kept, and set where the first complete tick has passed (R440). -/
theorem Engine.boundary_armed (e : Engine) : e.boundary.armed = (e.armed || decide (e.phase = .running)) := rfl

/-- Settles O20: the engine of a tick that counts is that of its boundary, with the phase that its end sets. -/
theorem tickRuns : Obligations.TickRuns := by
  intro a s
  refine ⟨fun hasked => ?reset, fun hreset => ⟨fun n hphase => ?linkUp, fun hphase => ?first, fun hphase => ?running,
    fun hphase => ?core, fun hphase => ?held⟩⟩
  case reset => rw [exec_tick, State.tick_of_resetAsked hasked]; rfl
  case linkUp =>
    obtain ⟨t, hexec, hengine⟩ := exec_tick_linkUp hreset hphase a
    refine ⟨t, hexec, congrArg Engine.tick hengine, congrArg Engine.phase hengine, (congrArg Engine.armed hengine).trans ?_,
      congrArg Engine.pending hengine⟩
    show s.engine.boundary.armed = _
    simp [Engine.boundary_armed, hphase]
  case first =>
    obtain ⟨t, hexec, hengine⟩ := exec_tick_engine a hreset (.inl hphase)
    refine ⟨t, hexec, congrArg Engine.tick hengine, (congrArg Engine.phase hengine).trans (if_pos ⟨hphase, rfl⟩),
      (congrArg Engine.armed hengine).trans ?_, congrArg Engine.pending hengine⟩
    show s.engine.boundary.armed = _
    simp [Engine.boundary_armed, hphase]
  case running =>
    obtain ⟨t, hexec, hengine⟩ := exec_tick_engine a hreset (.inr hphase)
    have hstays : s.engine.boundary.phase ≠ .first := fun h => by
      rw [show s.engine.boundary.phase = s.boot.phase from rfl, hphase] at h
      cases h
    refine ⟨t, hexec, congrArg Engine.tick hengine, (congrArg Engine.phase hengine).trans ?_,
      (congrArg Engine.armed hengine).trans ?_, congrArg Engine.pending hengine⟩
    · exact (if_neg fun h => hstays h.1).trans hphase
    · show s.engine.boundary.armed = _
      simp [Engine.boundary_armed, hphase]
  case core => rw [exec_tick, State.tick_of_coreReset hreset hphase]
  case held => rw [exec_tick, State.tick_of_held hreset hphase]

end Sys2Proof.Machine
end

section
/-! The clears (O32) and the requests (O33) of the control registers: each row is one operation on the committed machine (R12). -/

namespace Sys2Proof.Machine

/-- A row that runs once the configuration is committed, by what its operation makes of the state. -/
theorem whenUp_next {s t : State} {f : State → State} (hup : s.up = true) (h : f s = t) :
    Host.Outcome.next (s.whenUp f) = (.next t.flush : Host.Outcome State Fault Refusal) := by
  rw [State.whenUp_of _ _ hup, h]

/-- A row of a live port that runs once the configuration is committed. -/
theorem onObject_fromPort {port : Nat} {s t : State} {f : State → State} (hport : port < 2) (hup : s.up = true)
    (hlive : s.portLive port = true) (h : f s = t) : onObject 2 port (s.fromPort port f) = .next t.flush := by
  rw [onObject_of_lt _ _ _ hport, State.fromPort_of _ _ _ hup hlive, h]

/-- Settles O32: each clear is its operation, which names the counters that it sets to zero. -/
theorem controlClears : Obligations.ControlClears := by
  refine fun s hup => ⟨?links, ?slots, ?cycles, ?trips, ?steps, ?feedback, ?channels, ?field, ?tracker, fun port hport => ?port,
    ?memories, ?record⟩
  case links => exact whenUp_next (f := State.clrLinks) hup rfl
  case slots => exact whenUp_next (f := State.clrSlots) hup rfl
  case cycles => exact whenUp_next (f := State.clrCycleCounts) hup rfl
  case trips => exact whenUp_next (f := State.clrTripCounts) hup rfl
  case steps => exact whenUp_next (f := State.clrStepCounts) hup rfl
  case feedback => exact whenUp_next (f := State.clrFbkCounts) hup rfl
  case channels => exact whenUp_next (f := State.clrChanCounts) hup rfl
  case field => exact whenUp_next (f := State.clrFieldCounts) hup rfl
  case tracker => exact whenUp_next (f := State.clrTrackHwm) hup rfl
  case port => exact onObject_whenUp (f := State.clrPortStat port) hport hup rfl
  case memories => exact whenUp_next (f := State.clrMemCounts) hup rfl
  case record => exact whenUp_next (f := State.clrRecCount) hup rfl

/-- Settles O33: each request is noted by its operation, and a disarm and a group's words carry the boundary of their clock (R42). -/
theorem controlRequests : Obligations.ControlRequests := by
  refine fun s hup => ⟨?resync, ?overrun, ?latch, ?save, ?alarm, fun axis clk haxis => ?disarm,
    fun port hport hlive => ⟨?opened, fun clk => ?commit⟩⟩
  case resync => exact whenUp_next (f := State.askResync) hup rfl
  case overrun => exact exec_clrOverrun hup
  case latch => exact whenUp_next (f := State.askLatchClear) hup rfl
  case save => exact whenUp_next (f := State.askSave) hup rfl
  case alarm => exact whenUp_next (f := State.clrAlarms) hup rfl
  case disarm => exact onObject_whenUp (f := State.disarm axis clk) haxis hup rfl
  case opened => exact onObject_fromPort (f := State.groupOpen port) hport hup hlive rfl
  case commit => exact onObject_fromPort (f := State.groupCommit port clk) hport hup hlive rfl

end Sys2Proof.Machine
end

section
/-! The canonical form of one memory (O58): the stores that start-up writes out, and what the operations of a unit keep, as rules for simp
(R371, R376, R383, R410, R412, R432). -/

namespace Sys2Proof.Machine

/-! Memories written out. -/

theorem Memory.wf_iff (m : Memory) : m.wf = true ↔ keysRise m.cells = true ∧ ∀ c ∈ m.cells, c.2 ≠ m.background c.1 := by
  simp [Memory.wf]

theorem keysRise_filter {α : Type} (p : Nat × α → Bool) (l : List (Nat × α)) (h : keysRise l = true) :
    keysRise (l.filter p) = true := by
  induction l with
  | nil => rfl
  | cons c l ih =>
    obtain ⟨k, v⟩ := c
    obtain ⟨hk, hl⟩ := (keysRise_cons k v l).mp h
    rw [List.filter_cons]
    split
    · exact (keysRise_cons k v _).mpr ⟨fun c hc => hk c (List.mem_of_mem_filter hc), ih hl⟩
    · exact ih hl

theorem Memory.wf_of_no_cells (filled arm tbl : Bool) : (⟨filled, arm, tbl, []⟩ : Memory).wf = true := rfl

/-- Without defaults an unlisted word is a zero of the fill, or was never written. -/
theorem Memory.background_of_no_defaults (filled : Bool) (l : List (Nat × MemWord)) (w : Nat) :
    (⟨filled, false, false, l⟩ : Memory).background w = if filled then .encode 0 else .unwritten := by
  simp [Memory.background]

/-- What a short pulse leaves is canonical: listed words are valid, and none is a zero where the zeros are unlisted (R432). -/
theorem Memory.partly_wf (n : Nat) {m : Memory} (h : m.wf = true) : (m.partly n).wf = true := by
  rw [Memory.wf_iff] at h ⊢
  refine ⟨keysRise_filter _ _ (keysRise_filter _ _ h.1), fun c hc => ?_⟩
  obtain ⟨hc, hzero⟩ := List.mem_filter.mp hc
  obtain ⟨-, hvalid⟩ := List.mem_filter.mp hc
  rw [Memory.partly, Memory.background_of_no_defaults]
  split
  · next hfilled => exact fun e => by rw [hfilled, e] at hzero; simp at hzero
  · exact fun e => by simp [e, MemWord.unwritten] at hvalid

/-- Outside the regions that new defaults cover an unlisted word holds what it held (R210, R412). -/
theorem Memory.background_defaults (arm tbl : Bool) (m : Memory) (l : List (Nat × MemWord)) {w : Nat}
    (harm : arm = true → inArmRegion w = false) (htbl : tbl = true → inTblRegion w = false) :
    ({ m with armDefault := m.armDefault || arm, tblDefault := m.tblDefault || tbl, cells := l } : Memory).background w =
      m.background w := by
  cases arm <;> cases tbl <;> simp_all [Memory.background]

/-- Defaults written over a region keep the canonical form: the region's words are unlisted. -/
@[simp] theorem MemUnit.defaults_wf (arm tbl : Bool) {u : MemUnit} (h : u.store.wf = true) : (u.defaults arm tbl).store.wf = true := by
  rw [Memory.wf_iff] at h ⊢
  refine ⟨keysRise_filter _ _ h.1, fun c hc => ?_⟩
  obtain ⟨hc, hout⟩ := List.mem_filter.mp hc
  simp only [Bool.and_eq_true, Bool.not_eq_true', Bool.and_eq_false_iff] at hout
  rw [MemUnit.defaults, Memory.background_defaults arm tbl u.store _ (fun e => hout.1.resolve_left (by simp [e]))
    (fun e => hout.2.resolve_left (by simp [e]))]
  exact h.2 c hc

/-! The operations of a unit. -/

/-- A fold that carries something beside the unit. -/
theorem MemUnit.foldl_fst_wf {α ι : Type} (f : MemUnit × α → ι → MemUnit × α)
    (hf : ∀ a i, a.1.store.wf = true → (f a i).1.store.wf = true) (l : List ι) (a : MemUnit × α) (h : a.1.store.wf = true) :
    (l.foldl f a).1.store.wf = true :=
  List.foldlRecOn l f h (fun a h i _ => hf a i h)

@[simp] theorem MemUnit.reset_store (m : Memory) : (MemUnit.reset m).store = m := (rfl)
@[simp] theorem Memory.blank_wf : Memory.blank.wf = true := (rfl)
@[simp] theorem MemUnit.consumedEvents_store (m : Nat) (u : MemUnit) : (u.consumedEvents m).1.store = u.store := (rfl)
@[simp] theorem MemUnit.leak_store (u : MemUnit) : u.leak.store = u.store := (rfl)

@[simp] theorem MemUnit.endPass_store (m outcome : Nat) (u : MemUnit) : (u.endPass m outcome).1.store = u.store := (rfl)

@[simp] theorem MemUnit.startPatrol_store (m : Nat) (u : MemUnit) : (u.startPatrol m).store = u.store := by
  unfold MemUnit.startPatrol
  split <;> rfl

@[simp] theorem MemUnit.passDone_store (m : Nat) (u : MemUnit) : (u.passDone m).1.store = u.store := by
  unfold MemUnit.passDone
  split <;> rfl

@[simp] theorem MemUnit.sluiceCmd_store (rf : RegFile) (m : Nat) (job : Job) (u : MemUnit) : (u.sluiceCmd rf m job).1.store = u.store := by
  unfold MemUnit.sluiceCmd
  dsimp only
  split_ifs <;> rfl

@[simp] theorem MemUnit.injectCmd_store (rf : RegFile) (m : Nat) (job : Job) (u : MemUnit) : (u.injectCmd rf m job).1.store = u.store := by
  unfold MemUnit.injectCmd
  dsimp only
  split_ifs <;> rfl

@[simp] theorem MemUnit.stopCmd_store (m : Nat) (job : Job) (u : MemUnit) : (u.stopCmd m job).1.store = u.store := by
  unfold MemUnit.stopCmd
  split <;> rfl

section
variable {u : MemUnit} (h : u.store.wf = true) (rf : RegFile) (m agent w n : Nat)
include h

@[simp] theorem MemUnit.wf_read : (u.read rf m agent w).1.store.wf = true := MemUnit.read_wf rf m agent w u h
@[simp] theorem MemUnit.wf_use : (u.use rf m agent w).1.store.wf = true := MemUnit.use_wf rf m agent w u h
@[simp] theorem MemUnit.wf_readWords : (u.readWords rf m agent w n).1.store.wf = true := MemUnit.readWords_wf rf m agent w n u h
@[simp] theorem MemUnit.wf_useWords : (u.useWords rf m agent w n).1.store.wf = true := MemUnit.useWords_wf rf m agent w n u h
@[simp] theorem MemUnit.wf_writeFull (d : DWord) : (u.writeFull m agent w d).store.wf = true := MemUnit.writeFull_wf m agent w d u h

@[simp] theorem MemUnit.wf_writeCopy (d : DWord) (bad : Bool) : (u.writeCopy m agent w d bad).store.wf = true :=
  MemUnit.writeCopy_wf m agent w d bad u h

@[simp] theorem MemUnit.wf_writeWords (l : List (DWord × Bool)) : (u.writeWords m agent w l).store.wf = true :=
  MemUnit.writeWords_wf m agent w l u h

@[simp] theorem MemUnit.wf_writeData (addr : Nat) (bytes : List Byte) (bad : Bool) :
    (u.writeData rf m agent addr bytes bad).store.wf = true :=
  MemUnit.writeData_wf rf m agent addr bytes bad u h

@[simp] theorem MemUnit.wf_writeBytes (addr : Nat) (bytes : List Byte) : (u.writeBytes rf m agent addr bytes).store.wf = true :=
  MemUnit.writeBytes_wf rf m agent addr bytes u h

@[simp] theorem MemUnit.wf_workingWrite (place data : Nat) : (u.workingWrite place data).store.wf = true :=
  MemUnit.workingWrite_wf place data u h

@[simp] theorem MemUnit.wf_sluiceSpan : (u.sluiceSpan rf m n).store.wf = true := MemUnit.sluiceSpan_wf rf m n u h

@[simp] theorem MemUnit.wf_sluiceDone : (u.sluiceDone rf m).1.store.wf = true := by
  unfold MemUnit.sluiceDone
  split <;> simp [h]

@[simp] theorem MemUnit.wf_tick : (u.tick rf m).1.store.wf = true := by
  unfold MemUnit.tick
  extract_lets age v v' per due u2
  have hv : v.store.wf = true := by
    simp only [v]
    split <;> exact h
  clear_value v
  repeat' split
  all_goals simp [v', u2, MemUnit.sluiceRun, hv]

/-! Reads of the record's slots and of the image banks (R399, R413). -/

@[simp] theorem MemUnit.wf_probe (i : Nat) : (u.probe rf i).1.store.wf = true := MemUnit.wf_read h rf 1 8 (16 * i)
@[simp] theorem MemUnit.wf_bankRead (b off : Nat) : (u.bankRead rf b off n).1.store.wf = true := MemUnit.wf_useWords h rf 1 12 _ n

@[simp] theorem MemUnit.wf_imgVerify (b : Nat) : (u.imgVerify rf b).1.store.wf = true := by
  unfold MemUnit.imgVerify
  dsimp only
  split_ifs <;> simp [h]

@[simp] theorem MemUnit.wf_imgProbe (b : Nat) : (u.imgProbe rf b).1.store.wf = true := MemUnit.wf_bankRead h rf 4 b 0

end

@[simp] theorem MemUnit.wf_probeUp {u : MemUnit} (h : u.store.wf = true) (rf : RegFile) (i n : Nat) :
    (u.probeUp rf i n).1.store.wf = true := by
  induction n generalizing u i with
  | zero => exact h
  | succ n ih =>
    unfold MemUnit.probeUp
    dsimp only
    split
    · exact h
    · split
      · exact MemUnit.wf_probe h rf i
      · exact ih (MemUnit.wf_probe h rf i) (i + 1)

@[simp] theorem MemUnit.wf_headSearch {u : MemUnit} (h : u.store.wf = true) (rf : RegFile) (base lo hi n : Nat) :
    (u.headSearch rf base lo hi n).1.store.wf = true := by
  induction n generalizing u lo hi with
  | zero => exact h
  | succ n ih =>
    unfold MemUnit.headSearch
    dsimp only
    split_ifs
    · exact h
    · exact ih (MemUnit.wf_probeUp h rf _ recSlots) _ _
    · exact ih (MemUnit.wf_probeUp h rf _ recSlots) _ _

@[simp] theorem MemUnit.wf_pastBad {u : MemUnit} (h : u.store.wf = true) (rf : RegFile) (i n : Nat) :
    (u.pastBad rf i n).1.store.wf = true := by
  induction n generalizing u i with
  | zero => exact h
  | succ n ih =>
    unfold MemUnit.pastBad
    dsimp only
    split_ifs
    · exact h
    · exact ih (MemUnit.wf_probe h rf i) (i + 1)
    · exact MemUnit.wf_probe h rf i

end Sys2Proof.Machine
end

section
/-! The words of the two protected memories, as the machine's operations see them (O58): most leave them alone. -/

namespace Sys2Proof.Machine

/-- What both memories hold (R36, R371). -/
def State.words (s : State) : Memory × Memory := (s.mem0.store, s.mem1.store)

/-- Both memories stand in canonical form. -/
structure Canon (m : Memory × Memory) : Prop where
  fst : m.1.wf = true
  snd : m.2.wf = true

@[simp] theorem canon_mk (a b : Memory) : Canon (a, b) ↔ a.wf = true ∧ b.wf = true :=
  ⟨fun h => ⟨h.fst, h.snd⟩, fun h => ⟨h.1, h.2⟩⟩

theorem State.memCanonical_iff_words (s : State) : s.memCanonical ↔ Canon s.words := (canon_mk _ _).symm

/-! A store read off the pair, and the pair of a state written out: simp sees through a change of other fields. Proved by (rfl), to be
rewritten with: as definitional steps they would let the kernel compare the other fields. -/

@[simp] theorem State.mem0_store_eq_words (s : State) : s.mem0.store = s.words.1 := (rfl)
@[simp] theorem State.mem1_store_eq_words (s : State) : s.mem1.store = s.words.2 := (rfl)

@[simp] theorem State.words_mk (pending freeCount out regs boot time cfg links seq ilk sw field lsw fio leaves encs steps moves dies
    pwrScale pwrNow pwrQuiet pat cans hif mem0 mem1 recd) :
    (⟨pending, freeCount, out, regs, boot, time, cfg, links, seq, ilk, sw, field, lsw, fio, leaves, encs, steps, moves, dies,
      pwrScale, pwrNow, pwrQuiet, pat, cans, hif, mem0, mem1, recd⟩ : State).words = (mem0.store, mem1.store) := (rfl)

@[simp] theorem State.ite_words (c : Prop) [Decidable c] (s t : State) :
    (if c then s else t).words = if c then s.words else t.words := apply_ite State.words c s t

@[simp] theorem State.ite_fst_words {α : Type} (c : Prop) [Decidable c] (a b : State × α) :
    (if c then a else b).1.words = if c then a.1.words else b.1.words := apply_ite (fun x : State × α => x.1.words) c a b

@[simp] theorem State.foldl_words {ι : Type} (f : State → ι → State) (h : ∀ s i, (f s i).words = s.words) (l : List ι)
    (s : State) : (l.foldl f s).words = s.words :=
  (foldl_keeps (fun s t => s.words = t.words) (fun _ => rfl) Eq.trans f (fun s i => (h s i).symm) l s).symm

/-- The same for a fold that carries something beside the state. -/
@[simp] theorem State.foldl_fst_words {α ι : Type} (f : State × α → ι → State × α) (h : ∀ a i, (f a i).1.words = a.1.words)
    (l : List ι) (a : State × α) : (l.foldl f a).1.words = a.1.words :=
  (foldl_keeps (fun a b => a.1.words = b.1.words) (fun _ => rfl) Eq.trans f (fun a i => (h a i).symm) l a).symm

/-- Posting changes the event lists of the memories alone. -/
theorem State.Posted.words {u t : State} (h : u.Posted t) : t.words = u.words := by
  rw [State.words, State.words, h.mem0_store, h.mem1_store]

/-! Posting, placing and the guarantees -/

@[simp] theorem State.post_words (e : Post) (s : State) : (s.post e).words = s.words := (State.post_posted e s).words
@[simp] theorem State.posts_words (l : List Post) (s : State) : (s.posts l).words = s.words := (State.posts_posted l s).words
@[simp] theorem State.says_words (l : List (Nat × List Byte)) (s : State) : (s.says l).words = s.words := (State.says_posted l s).words
@[simp] theorem State.finish_words (f : Finish) (s : State) : (s.finish f).words = s.words := (State.finish_posted f s).words
@[simp] theorem State.finishes_words (l : List Finish) (s : State) : (s.finishes l).words = s.words := (State.finishes_posted l s).words
@[simp] theorem State.place_words (s : State) : s.place.words = s.words := (State.place_posted s).words
@[simp] theorem State.memPost_words (s : State) : s.memPost.words = s.words := (State.memPost_posted s).words
@[simp] theorem State.moderate_words (port r : Nat) (s : State) : (s.moderate port r).words = s.words := by simp [State.moderate]
@[simp] theorem State.moderateAll_words (s : State) : s.moderateAll.words = s.words := by simp [State.moderateAll]
@[simp] theorem State.guarantees_words (s : State) : s.guarantees.words = s.words := by simp [State.guarantees]

/-! The host interface -/

@[simp] theorem State.pageEnd_words (r : PageRun) (status : Nat) (s : State) :
    (s.pageEnd r status).words = s.words := by simp [State.pageEnd]
@[simp] theorem State.pageFinish_words (r : PageRun) (s : State) : (s.pageFinish r).words = s.words := by simp [State.pageFinish]
@[simp] theorem State.hifCmd_words (job : Job) (code : Nat) (s : State) : (s.hifCmd job code).words = s.words := by simp [State.hifCmd]
@[simp] theorem State.violations_words (s : State) : s.violations.words = s.words := by simp [State.violations]

/-! Network time and the CAN controllers -/

@[simp] theorem State.can_words (ctl : Nat) (f : CanCtl → CanCtl) (s : State) : (s.can ctl f).words = s.words := (rfl)
@[simp] theorem State.masterPeriod_words (s : State) : s.masterPeriod.words = s.words := by simp [State.masterPeriod]
@[simp] theorem State.ntLost_words (s : State) : s.ntLost.words = s.words := by simp [State.ntLost]
@[simp] theorem State.ntTick_words (s : State) : s.ntTick.words = s.words := by simp [State.ntTick]
@[simp] theorem State.canRecover_words (s : State) : s.canRecover.words = s.words := by simp [State.canRecover]
@[simp] theorem State.canPosts_words (s : State) : s.canPosts.words = s.words := by simp [State.canPosts]

/-! Patina -/

@[simp] theorem State.leaf_words (l : Nat) (f : Leaf → Leaf) (s : State) : (s.leaf l f).words = s.words := (rfl)
@[simp] theorem State.patMod_words (f : Pat → Pat) (s : State) : (s.patMod f).words = s.words := (rfl)
@[simp] theorem State.patLeaf_words (l : Nat) (f : PatLeaf → PatLeaf) (s : State) : (s.patLeaf l f).words = s.words := (rfl)
@[simp] theorem State.patPortal_words (p : Nat) (f : PatPortal → PatPortal) (s : State) : (s.patPortal p f).words = s.words := (rfl)
@[simp] theorem State.putBin_words (l dir b : Nat) (x : PatBin) (s : State) : (s.putBin l dir b x).words = s.words := (rfl)
@[simp] theorem State.leafSample_words (l k : Nat) (x : Int) (s : State) :
    (s.leafSample l k x).words = s.words := by simp [State.leafSample]
@[simp] theorem State.portalSample_words (p k : Nat) (x : Int) (s : State) :
    (s.portalSample p k x).words = s.words := by simp [State.portalSample]

@[simp] theorem State.portalSample?_words (p k : Nat) (x : Option Int) (s : State) : (s.portalSample? p k x).words = s.words := by
  unfold State.portalSample?
  split <;> simp

@[simp] theorem State.strokeSamples_words (l : Nat) (s : State) (k : Stroke) : (s.strokeSamples l k).words = s.words := by
  unfold State.strokeSamples
  repeat' split
  all_goals simp

@[simp] theorem State.setQuant_words (q obj : Nat) (x : Quant) (s : State) :
    (s.setQuant q obj x).words = s.words := by simp [State.setQuant]
@[simp] theorem State.withdraw_words (q obj : Nat) (s : State) : (s.withdraw q obj).words = s.words := by simp [State.withdraw]
@[simp] theorem State.replan_words (q obj : Nat) (s : State) : (s.replan q obj).words = s.words := by simp [State.replan]
@[simp] theorem State.setArmQ_words (q l : Nat) (x : ArmQ) (s : State) : (s.setArmQ q l x).words = s.words := (rfl)
@[simp] theorem State.armWithdraw_words (q l : Nat) (s : State) : (s.armWithdraw q l).words = s.words := by simp [State.armWithdraw]
@[simp] theorem State.setFrozen_words (q obj : Nat) (v : Bool) (s : State) :
    (s.setFrozen q obj v).words = s.words := by simp [State.setFrozen]
@[simp] theorem State.injSamples_words (l : Nat) (s : State) : (s.injSamples l).words = s.words := by simp [State.injSamples]
@[simp] theorem State.leafGather_words (l : Nat) (s : State) : (s.leafGather l).words = s.words := by simp [State.leafGather]
@[simp] theorem State.inject_words (l : Nat) (s : State) : (s.inject l).words = s.words := by simp [State.inject]
@[simp] theorem State.injectTick_words (p : Nat) (s : State) : (s.injectTick p).words = s.words := by simp [State.injectTick]
@[simp] theorem State.injected_words (l : Nat) (ok : Bool) (s : State) : (s.injected l ok).words = s.words := by simp [State.injected]
@[simp] theorem State.patRefuse_words (q obj : Nat) (s : State) : (s.patRefuse q obj).words = s.words := by simp [State.patRefuse]

/-! The cycle record -/

@[simp] theorem State.recMod_words (f : Rec → Rec) (s : State) : (s.recMod f).words = s.words := (rfl)
@[simp] theorem State.setCycle_words (p : Nat) (c : Option Cycle) (s : State) : (s.setCycle p c).words = s.words := (rfl)
@[simp] theorem State.setRecFrom_words (port n : Nat) (s : State) : (s.setRecFrom port n).words = s.words := (rfl)
@[simp] theorem State.lagStage_words (s : State) : s.lagStage.words = s.words := by simp [State.lagStage]
@[simp] theorem State.drainEnd_words (d : Drain) (status : Nat) (s : State) :
    (s.drainEnd d status).words = s.words := by simp [State.drainEnd]
@[simp] theorem State.setUnit_words (k : Nat) (u : Capture) (s : State) : (s.setUnit k u).words = s.words := (rfl)
@[simp] theorem State.captureEnd_words (k outcome valid : Nat) (s : State) :
    (s.captureEnd k outcome valid).words = s.words := by simp [State.captureEnd]
@[simp] theorem State.capCmd_words (job : Job) (code : Nat) (s : State) : (s.capCmd job code).words = s.words := by simp [State.capCmd]

/-! The bridge dies -/

@[simp] theorem State.die_words (b : Nat) (f : BridgeDie → BridgeDie) (s : State) : (s.die b f).words = s.words := (rfl)
@[simp] theorem State.move_words (a : Nat) (f : Move → Move) (s : State) : (s.move a f).words = s.words := (rfl)
@[simp] theorem State.stepD_words (p : Nat) (f : StepDrive → StepDrive) (s : State) : (s.stepD p f).words = s.words := (rfl)
@[simp] theorem State.driveEv_words (l : Nat) (f : LeafDrive → LeafDrive × List Ev) (s : State) :
    (s.driveEv l f).words = s.words := by simp [State.driveEv]
@[simp] theorem State.stepEv_words (p : Nat) (f : StepDrive → StepDrive × List Ev) (s : State) :
    (s.stepEv p f).words = s.words := by simp [State.stepEv]
@[simp] theorem State.dieEv_words (b : Nat) (f : BridgeDie → BridgeDie × List Ev) (s : State) :
    (s.dieEv b f).words = s.words := by simp [State.dieEv]
@[simp] theorem State.takeEdge_words (s : State) (l : Nat) : (s.takeEdge l).words = s.words := by simp [State.takeEdge]
@[simp] theorem State.learnSafe_words (b : Nat) (safe : Bool) (s : State) :
    (s.learnSafe b safe).words = s.words := by simp [State.learnSafe]
@[simp] theorem State.dieIntake_words (s : State) (b : Nat) (x : DieIn) : (s.dieIntake b x).words = s.words := by simp [State.dieIntake]

/-! Stages 3 and 4: force and obstacles -/

@[simp] theorem State.forceLeaf_words (s : State) (l : Nat) : (s.forceLeaf l).words = s.words := by simp [State.forceLeaf]
@[simp] theorem State.dropCleanWords_words (s : State) : s.dropCleanWords.words = s.words := (rfl)
@[simp] theorem State.limitReaction_words (l : Nat) (s : State) : (s.limitReaction l).words = s.words := by simp [State.limitReaction]
@[simp] theorem State.tripLeaf_words (l own cause dir : Nat) (s : State) :
    (s.tripLeaf l own cause dir).words = s.words := by simp [State.tripLeaf]
@[simp] theorem State.tripPortal_words (p own0 own1 dir : Nat) (s : State) :
    (s.tripPortal p own0 own1 dir).words = s.words := by simp [State.tripPortal]
@[simp] theorem State.releaseOrder_words (s : State) (l : Nat) : (s.releaseOrder l).words = s.words := by simp [State.releaseOrder]
@[simp] theorem State.curtainsLost_words (s : State) : s.curtainsLost.words = s.words := by simp [State.curtainsLost]
@[simp] theorem State.forceStage_words (n : Nat) (s : State) : (s.forceStage n).words = s.words := by simp [State.forceStage]

/-! Stage 7: motion -/

@[simp] theorem State.moveEv_words (a : Nat) (f : Move → Move) (s : State) : (s.moveEv a f).words = s.words := by simp [State.moveEv]

@[simp] theorem State.clampMark_words (a : Nat) (t : Int) (lim : Option Int) (s : State) : (s.clampMark a t lim).words = s.words := by
  unfold State.clampMark
  split <;> simp

@[simp] theorem State.orderMove_words (a : Nat) (o : Order) (p0 : Int) (s : State) : (s.orderMove a o p0).words = s.words := by
  unfold State.orderMove
  split <;> simp

@[simp] theorem State.clampAfter_words (a : Nat) (s : State) : (s.clampAfter a).words = s.words := by
  unfold State.clampAfter
  dsimp only
  repeat' split
  all_goals simp

@[simp] theorem State.leafReact_words (l : Nat) (s : State) : (s.leafReact l).words = s.words := by simp [State.leafReact]
@[simp] theorem State.referenceLeaf_words (l : Nat) (s : State) : (s.referenceLeaf l).words = s.words := by simp [State.referenceLeaf]

@[simp] theorem State.leafOrders_words (l : Nat) (s : State) : (s.leafOrders l).words = s.words := by
  unfold State.leafOrders
  dsimp only
  repeat' split
  all_goals simp

@[simp] theorem State.leafResume_words (l : Nat) (s : State) : (s.leafResume l).words = s.words := by
  unfold State.leafResume
  dsimp only
  repeat' split
  all_goals simp

@[simp] theorem State.leafUv_words (l : Nat) (s : State) : (s.leafUv l).words = s.words := by simp [State.leafUv]
@[simp] theorem State.leafFollow_words (l out : Nat) (s : State) : (s.leafFollow l out).words = s.words := by simp [State.leafFollow]
@[simp] theorem State.leafRun_words (l : Nat) (s : State) : (s.leafRun l).words = s.words := by simp [State.leafRun]
@[simp] theorem State.gearStart_words (l : Nat) (s : State) : (s.gearStart l).words = s.words := by simp [State.gearStart]
@[simp] theorem State.gearFollow_words (l : Nat) (was : Int) (s : State) :
    (s.gearFollow l was).words = s.words := by simp [State.gearFollow]
@[simp] theorem State.leafAfter_words (l : Nat) (s : State) : (s.leafAfter l).words = s.words := by simp [State.leafAfter]
@[simp] theorem State.leafMotion_words (s : State) (l : Nat) : (s.leafMotion l).words = s.words := by simp [State.leafMotion]
@[simp] theorem State.homeOrder_words (p : Nat) (ph : Homing) (s : State) :
    (s.homeOrder p ph).words = s.words := by simp [State.homeOrder]
@[simp] theorem State.homeStart_words (p : Nat) (s : State) : (s.homeStart p).words = s.words := by simp [State.homeStart]

@[simp] theorem State.stepOrders_words (p : Nat) (s : State) : (s.stepOrders p).words = s.words := by
  unfold State.stepOrders
  dsimp only
  repeat' split
  all_goals simp

@[simp] theorem State.homeFail_words (p cause : Nat) (s : State) : (s.homeFail p cause).words = s.words := by simp [State.homeFail]
@[simp] theorem State.homeTrip_words (p : Nat) (s : State) : (s.homeTrip p).words = s.words := by simp [State.homeTrip]
@[simp] theorem State.homeStallTrip_words (p : Nat) (s : State) : (s.homeStallTrip p).words = s.words := by simp [State.homeStallTrip]
@[simp] theorem State.stepStall_words (p : Nat) (slip : Bool) (s : State) :
    (s.stepStall p slip).words = s.words := by simp [State.stepStall]
@[simp] theorem State.homeBefore_words (p : Nat) (s : State) : (s.homeBefore p).words = s.words := by simp [State.homeBefore]
@[simp] theorem State.homeAfter_words (p : Nat) (resumed : Bool) (s : State) :
    (s.homeAfter p resumed).words = s.words := by simp [State.homeAfter]

@[simp] theorem State.homeCount_words (p : Nat) (s : State) : (s.homeCount p).words = s.words := by
  unfold State.homeCount
  split <;> simp

@[simp] theorem State.homeMismatch_words (p : Nat) (s : State) : (s.homeMismatch p).words = s.words := by simp [State.homeMismatch]

@[simp] theorem State.stepHold_words (p : Nat) (s : State) : (s.stepHold p).words = s.words := by
  unfold State.stepHold
  dsimp only
  repeat' split
  all_goals simp

@[simp] theorem State.stallEnd_words (p : Nat) (s : State) : (s.stallEnd p).words = s.words := by simp [State.stallEnd]
@[simp] theorem State.stepMotion_words (s : State) (p : Nat) : (s.stepMotion p).words = s.words := by simp [State.stepMotion]
@[simp] theorem State.beginMoves_words (s : State) : s.beginMoves.words = s.words := (rfl)
@[simp] theorem State.motionStage_words (n : Nat) (s : State) : (s.motionStage n).words = s.words := by simp [State.motionStage]

/-! Stage 8: the drives -/

@[simp] theorem State.powerStep_words (s : State) : s.powerStep.words = s.words := by simp [State.powerStep]
@[simp] theorem State.leafAbort_words (l : Nat) (s : State) : (s.leafAbort l).words = s.words := by simp [State.leafAbort]
@[simp] theorem State.leafLoops_words (onMv : Nat → Nat) (s : State) (l : Nat) :
    (s.leafLoops onMv l).words = s.words := by simp [State.leafLoops]
@[simp] theorem State.stillStep_words (p : Nat) (s : State) : (s.stillStep p).words = s.words := (rfl)
@[simp] theorem State.stepMeasure_words (s : State) (p : Nat) : (s.stepMeasure p).words = s.words := by simp [State.stepMeasure]

@[simp] theorem State.dieWords_words (legs : Nat → List Leg × List Leg) (s : State) (b : Nat) : (s.dieWords legs b).words = s.words := by
  unfold State.dieWords
  dsimp only
  repeat' split
  all_goals simp

/-! Links 4 and 5 -/

@[simp] theorem State.link_words (n : Nat) (f : Link → Link) (s : State) : (s.link n f).words = s.words := (rfl)
@[simp] theorem State.linkEv_words (n : Nat) (f : Link → Link × List Ev) (s : State) :
    (s.linkEv n f).words = s.words := by simp [State.linkEv]
@[simp] theorem State.trainEvents_words (old s : State) : (State.trainEvents old s).words = s.words := by simp [State.trainEvents]
@[simp] theorem State.adoptCmd_words (s : State) : s.adoptCmd.words = s.words := (rfl)
@[simp] theorem State.link4Intake_words (valid : Bool) (temp : Int) (s0 : State) :
    (s0.link4Intake valid temp).1.words = s0.words := by simp [State.link4Intake]
@[simp] theorem State.outView_words (j : Nat) (f : OutView → OutView × List Ev) (s : State) :
    (s.outView j f).words = s.words := by simp [State.outView]
@[simp] theorem State.link5Intake_words (valid : Bool) (s : State) : (s.link5Intake valid).words = s.words := by simp [State.link5Intake]

@[simp] theorem State.lswCmd_words (job : Job) (code : Nat) (s : State) : (s.lswCmd job code).words = s.words := by
  unfold State.lswCmd
  dsimp only
  repeat' split
  all_goals simp

@[simp] theorem State.setOut_words (on : Bool) (s : State) (j : Nat) : (s.setOut on j).words = s.words := by simp [State.setOut]

@[simp] theorem State.fioCmd_words (job : Job) (code : Nat) (s : State) : (s.fioCmd job code).words = s.words := by
  unfold State.fioCmd
  dsimp only
  repeat' split
  all_goals simp

@[simp] theorem State.buildFrames_words (s : State) : s.buildFrames.words = s.words := by simp [State.buildFrames]

/-! Registers -/

@[simp] theorem State.rejectWrite_words (port off cause : Nat) (s : State) :
    (s.rejectWrite port off cause).words = s.words := by simp [State.rejectWrite]
@[simp] theorem State.noteRemote_words (off : Nat) (w : Word) (s : State) : (s.noteRemote off w).words = s.words := (rfl)

@[simp] theorem State.takeWord_words (r : RegRow) (i : Nat) (w : Word) (s : State) : (s.takeWord r i w).words = s.words := by
  simp [State.takeWord]

@[simp] theorem State.judgeField_words (r : RegRow) (i : Nat) (w : Word) (s : State) :
    (s.judgeField r i w).words = s.words := by simp [State.judgeField]

@[simp] theorem State.takeShadow_words (a : State × List Nat) (x : Shadow) : (State.takeShadow a x).1.words = a.1.words := by
  unfold State.takeShadow
  split <;> simp

@[simp] theorem State.takeShadows_words (s : State) : s.takeShadows.1.words = s.words := by simp [State.takeShadows]

/-! Reliefs and images -/

@[simp] theorem State.bankState_words (b : Nat) (f : BankState → BankState) (s : State) : (s.bankState b f).words = s.words := (rfl)

@[simp] theorem State.reliefWord_words (es : List CfgEntry) (check : Bool) (a : State × List Nat) (off : Nat) :
    (State.reliefWord es check a off).1.words = a.1.words := by
  unfold State.reliefWord
  split <;> simp

@[simp] theorem State.changeRelief_words (new : Nat) (s : State) : (s.changeRelief new).1.words = s.words := by simp [State.changeRelief]
@[simp] theorem State.reliefCmd_words (job : Job) (s : State) : (s.reliefCmd job).words = s.words := by simp [State.reliefCmd]
@[simp] theorem State.reliefReq_words (f : ReliefReq → ReliefReq) (s : State) : (s.reliefReq f).words = s.words := (rfl)

@[simp] theorem State.reliefGuard_words (s : State) : s.reliefGuard.words = s.words := by
  unfold State.reliefGuard
  split <;> simp

@[simp] theorem State.reliefEnd_words (q : ReliefReq) (status result : Nat) (s : State) :
    (s.reliefEnd q status result).words = s.words := by simp [State.reliefEnd]

@[simp] theorem State.reliefTimeout_words (s : State) : s.reliefTimeout.words = s.words := by
  unfold State.reliefTimeout
  split <;> simp

@[simp] theorem State.reliefTick_words (s : State) : s.reliefTick.words = s.words := by
  unfold State.reliefTick
  split <;> simp

@[simp] theorem State.headWritten_words (q : Install) (ws : List (DWord × Bool)) (s : State) :
    (s.headWritten q ws).words = s.words := by simp [State.headWritten]
@[simp] theorem State.imgEnd_words (q : Install) (status result : Nat) (s : State) :
    (s.imgEnd q status result).words = s.words := by simp [State.imgEnd]
@[simp] theorem State.imgMoved_words (q : Install) (s : State) : (s.imgMoved q).words = s.words := by simp [State.imgMoved]

/-! The boundary, intake and the judging of commands -/

@[simp] theorem State.takeDisarms_words (s : State) : s.takeDisarms.words = s.words := (rfl)
@[simp] theorem State.intake_words (n : Nat) (a : TickIn) (s : State) : (s.intake n a).1.words = s.words := by simp [State.intake]
@[simp] theorem State.compareAxis_words (armed : List Nat) (s : State) (a : Nat) :
    (s.compareAxis armed a).words = s.words := by simp [State.compareAxis]
@[simp] theorem State.feedbackTick_words (n : Nat) (a : TickIn) (armed : List Nat) (s : State) :
    (s.feedbackTick n a armed).words = s.words := by simp [State.feedbackTick]
@[simp] theorem State.ilkStage_words (a : TickIn) (s : State) : (s.ilkStage a).words = s.words := by simp [State.ilkStage]
@[simp] theorem State.ilkSkipped_words (s : State) : s.ilkSkipped.words = s.words := by simp [State.ilkSkipped]
@[simp] theorem State.seqView_words (s : State) : s.seqView.words = s.words := (rfl)
@[simp] theorem State.markJudged_words (id : Nat) (s : State) : (s.markJudged id).words = s.words := (rfl)

/-! The stages as a whole -/

@[simp] theorem State.seqOut_words (o : SeqOut) (s : State) : (s.seqOut o).words = s.words := by simp [State.seqOut]
@[simp] theorem State.zeroPositions_words (s : State) : s.zeroPositions.words = s.words := by simp [State.zeroPositions]
@[simp] theorem State.rejectBad_words (s : State) : s.rejectBad.words = s.words := by simp [State.rejectBad]
@[simp] theorem State.trackTimeouts_words (s : State) : s.trackTimeouts.words = s.words := by simp [State.trackTimeouts]

@[simp] theorem State.consumedPosts_words (s : State) : s.consumedPosts.words = s.words := by
  simp [State.consumedPosts]

@[simp] theorem State.postStage_words (whole : Bool) (s : State) : (s.postStage whole).words = s.words := by simp [State.postStage]

end Sys2Proof.Machine
end

section
/-! The rows of the environment and the register writes leave the words of both memories alone (O58), where they write no memory. -/

namespace Sys2Proof.Machine

/-! The guards of the rows -/

@[simp] theorem State.flush_words (s : State) : s.flush.words = s.words := (State.flush_posted s).words
@[simp] theorem State.portalRow_words (p : Nat) (f : SeqCtx → PSt → PSt) (s : State) :
    (s.portalRow p f).words = s.words := State.seqOut_words _ s
@[simp] theorem State.pendRow_words (p : Nat) (f : SeqCtx → Pend → SeqOut → SeqOut) (s : State) :
    (s.pendRow p f).words = s.words := State.seqOut_words _ s

@[simp] theorem State.seqCmdNow_words (code : Nat) (job : Job) (s : State) : (s.seqCmdNow code job).words = s.words :=
  State.seqOut_words _ s

@[simp] theorem State.ilkRow_words (f : IlkIn → Ilk → Ilk × List Ev) (s : State) : (s.ilkRow f).words = s.words := by
  simp [State.ilkRow]

/-! Dies, drives, feedback, records -/

@[simp] theorem State.carrierPeriod_words (b half : Nat) (valid : Bool) (s : State) :
    (s.carrierPeriod b half valid).words = s.words := by simp [State.carrierPeriod]

@[simp] theorem State.onSwitch_words (f : SwitchDie → SwitchDie) (s : State) : (s.onSwitch f).words = s.words := by
  simp [State.onSwitch]

@[simp] theorem State.onField_words (f : FieldDie → FieldDie) (s : State) : (s.onField f).words = s.words := by
  simp [State.onField]

@[simp] theorem State.injectionOver_words (leaf : Nat) (aborted : Bool) (s : State) :
    (s.injectionOver leaf aborted).words = s.words := by
  unfold State.injectionOver
  split <;> simp

/-! The CAN controllers -/

@[simp] theorem State.refReceived_words (f : CanFrame) (sof : Nat) (s : State) : (s.refReceived f sof).words = s.words := by
  simp only [State.refReceived]
  repeat' split
  all_goals simp

@[simp] theorem State.canMode_words (ctl : Nat) (s : State) : (s.canMode ctl).words = s.words := (rfl)

/-! The host interface -/

@[simp] theorem State.ringError_words (port r cause : Nat) (s : State) : (s.ringError port r cause).words = s.words := by
  simp [State.ringError]

@[simp] theorem State.jetIgnored_words (port : Nat) (s : State) : (s.jetIgnored port).words = s.words := (rfl)

@[simp] theorem State.jetTail_words (port r : Nat) (value : Word) (s : State) : (s.jetTail port r value).words = s.words := by
  simp [State.jetTail]

@[simp] theorem State.jetCq_words (port r : Nat) (value : Word) (s : State) : (s.jetCq port r value).words = s.words := by
  simp [State.jetCq]

@[simp] theorem State.ringEnable_words (port r : Nat) (s : State) : (s.ringEnable port r).words = s.words := by
  simp [State.ringEnable]

@[simp] theorem State.ringDisable_words (port r : Nat) (s : State) : (s.ringDisable port r).words = s.words := (rfl)
@[simp] theorem State.fetch_words (port r : Nat) (s : State) : (s.fetch port r).words = s.words := by simp [State.fetch]

@[simp] theorem State.readTimeout_words (port : Nat) (isPageIn : Bool) (which : Nat) (s : State) :
    (s.readTimeout port isPageIn which).words = s.words := by
  unfold State.readTimeout
  repeat' split
  all_goals simp

@[simp] theorem State.msixMask_words (port v : Nat) (masked : Bool) (s : State) : (s.msixMask port v masked).words = s.words := by
  simp [State.msixMask]

@[simp] theorem State.msixSend_words (port : Nat) (s : State) : (s.msixSend port).words = s.words := (rfl)
@[simp] theorem State.tellUp_words (port : Nat) (s : State) : (s.tellUp port).words = s.words := by simp [State.tellUp]

@[simp] theorem State.portUp_words (port width speed : Nat) (s : State) : (s.portUp port width speed).words = s.words := by
  simp [State.portUp]

@[simp] theorem State.pcieConfig_words (port : Nat) (req : CfgReq) (s : State) : (s.pcieConfig port req).words = s.words := by
  cases req <;> simp [State.pcieConfig]

@[simp] theorem State.portResetRec_words (port : Nat) (s : State) : (s.portResetRec port).words = s.words := by
  unfold State.portResetRec
  dsimp only
  split <;> simp

@[simp] theorem State.portResetHif_words (port : Nat) (kind : PortResetKind) (s : State) :
    (s.portResetHif port kind).words = s.words := (State.post_words _ _).trans rfl

@[simp] theorem State.portReset_words (port : Nat) (kind : PortResetKind) (s : State) :
    (s.portReset port kind).words = s.words := by simp [State.portReset]

@[simp] theorem State.restoreGuarantee_words (g port : Nat) (s : State) : (s.restoreGuarantee g port).words = s.words := by
  simp [State.restoreGuarantee]

@[simp] theorem State.violation_words (port page : Nat) (s : State) : (s.violation port page).words = s.words := (rfl)

@[simp] theorem State.jobTimeout_words (id : Nat) (s : State) : (s.jobTimeout id).words = s.words := by
  unfold State.jobTimeout
  extract_lets s1 s2 s3 s4 s5 s6
  have h1 : s1.words = s.words := State.foldl_words _ (by simp) _ _
  have h2 : s2.words = s.words := (State.seqOut_words _ _).trans h1
  have h3 : s3.words = s.words := (State.foldl_words _ (by simp) _ _).trans h2
  have h4 : s4.words = s.words := (State.foldl_words _ (fun s port => by split <;> simp) _ _).trans h3
  have h5 : s5.words = s.words := (State.foldl_words _ (fun s m => by by_cases m = 0 <;> simp [*]) _ _).trans h4
  have h6 : s6.words = s.words := by rw [← h5]; simp only [s6]; split <;> simp
  split
  · split <;> simp [h6]
  · exact h6

/-! The control registers -/

@[simp] theorem State.clrLinks_words (s : State) : s.clrLinks.words = s.words := (rfl)
@[simp] theorem State.clrSlots_words (s : State) : s.clrSlots.words = s.words := (rfl)
@[simp] theorem State.clrCycleCounts_words (s : State) : s.clrCycleCounts.words = s.words := (rfl)
@[simp] theorem State.askLatchClear_words (s : State) : s.askLatchClear.words = s.words := (rfl)
@[simp] theorem State.clrTripCounts_words (s : State) : s.clrTripCounts.words = s.words := (rfl)
@[simp] theorem State.clrStepCounts_words (s : State) : s.clrStepCounts.words = s.words := (rfl)
@[simp] theorem State.clrFbkCounts_words (s : State) : s.clrFbkCounts.words = s.words := (rfl)
@[simp] theorem State.clearRef_words (p : Nat) (s : State) : (s.clearRef p).words = s.words := (rfl)

@[simp] theorem State.clrHallFault_words (s : State) (l : Nat) : (s.clrHallFault l).words = s.words := by
  unfold State.clrHallFault
  extract_lets b stands ok s1 s2
  have h2 : s2.words = s.words := by
    simp only [s2, s1]
    repeat' split
    all_goals simp
  exact (State.says_words _ _).trans h2

@[simp] theorem State.clrEncFault_words (s : State) (e : Nat) : (s.clrEncFault e).words = s.words := by
  simp [State.clrEncFault]

@[simp] theorem State.clrLeafOc_words (s : State) (l : Nat) : (s.clrLeafOc l).words = s.words := by simp [State.clrLeafOc]
@[simp] theorem State.clrStepOc_words (s : State) (p : Nat) : (s.clrStepOc p).words = s.words := by simp [State.clrStepOc]
@[simp] theorem State.clrAlarms_words (s : State) : s.clrAlarms.words = s.words := (rfl)
@[simp] theorem State.askSave_words (s : State) : s.askSave.words = s.words := (rfl)
@[simp] theorem State.clrChanCounts_words (s : State) : s.clrChanCounts.words = s.words := (rfl)
@[simp] theorem State.clrFieldCounts_words (s : State) : s.clrFieldCounts.words = s.words := (rfl)
@[simp] theorem State.clrTrackHwm_words (s : State) : s.clrTrackHwm.words = s.words := (rfl)
@[simp] theorem State.clrPortStat_words (port : Nat) (s : State) : (s.clrPortStat port).words = s.words := (rfl)
@[simp] theorem State.clrMemCounts_words (s : State) : s.clrMemCounts.words = s.words := (rfl)
@[simp] theorem State.clrRecCount_words (s : State) : s.clrRecCount.words = s.words := (rfl)
@[simp] theorem State.groupOpen_words (port : Nat) (s : State) : (s.groupOpen port).words = s.words := (rfl)
@[simp] theorem State.groupCommit_words (port clk : Nat) (s : State) : (s.groupCommit port clk).words = s.words := (rfl)
@[simp] theorem State.disarm_words (a clk : Nat) (s : State) : (s.disarm a clk).words = s.words := (rfl)

@[simp] theorem State.askReset_words (port : Nat) (w : Word) (s : State) : (s.askReset port w).words = s.words := by
  simp [State.askReset]

@[simp] theorem State.askResync_words (s : State) : s.askResync.words = s.words := (rfl)
@[simp] theorem State.answerRead_words (port v : Nat) (s : State) : (s.answerRead port v).words = s.words := (rfl)

/-! Register writes -/

@[simp] theorem State.wordClears_words (r : RegRow) (i : Nat) (w : Word) (s : State) : (s.wordClears r i w).words = s.words := by
  simp [State.wordClears]

theorem State.shadowWord_words {port off clk : Nat} {w : Word} {s t : State} (h : s.shadowWord port off clk w = some t) :
    t.words = s.words := by
  unfold State.shadowWord at h
  dsimp only at h
  split at h
  · split at h
    · cases h
    · cases h; rfl
  · cases h; rfl

@[simp] theorem State.wordFields_words (r : RegRow) (i port clk : Nat) (w : Word) (s : State) :
    (s.wordFields r i port clk w).words = s.words := by
  unfold State.wordFields
  extract_lets off mask g old new new' held take f t
  have htaken : ∀ u, t = some u → u.words = s.words := by
    intro u hu
    simp only [t] at hu
    split at hu
    · exact State.shadowWord_words hu
    · cases hu; simp
  clear_value t
  repeat' split
  all_goals simp [htaken]

/-! Start-up: the search for the record's head, the load of the configuration, the patina, the commit -/

@[simp] theorem State.bankSeen_words (b : Nat) (id : Option (Nat × Nat)) (com : Bool) (s : State) :
    (s.bankSeen b id com).words = s.words := (rfl)
@[simp] theorem State.uncommitted_words (b : Nat) (id : Option (Nat × Nat)) (com : Bool) (s : State) :
    (s.uncommitted b id com).words = s.words := by simp [State.uncommitted]
@[simp] theorem State.sendSettings_words (s : State) : s.sendSettings.words = s.words := (rfl)
@[simp] theorem State.commitConfig_words (s : State) : s.commitConfig.words = s.words := by simp [State.commitConfig]

/-! Resets, supplies and the tick -/

@[simp] theorem State.deferLines_words (a : TickIn) (s : State) : (s.deferLines a).words = s.words := (rfl)
@[simp] theorem State.ilkWatch_words (a : TickIn) (s : State) : (s.ilkWatch a).words = s.words := (rfl)

/-! The boundary, the end of a tick and a whole register write -/

@[simp] theorem State.takeClear_words (s : State) : s.takeClear.words = s.words := by
  unfold State.takeClear
  dsimp only
  repeat' split
  all_goals simp

@[simp] theorem State.takeArmed_words (s : State) : s.takeArmed.words = s.words := by
  unfold State.takeArmed
  split <;> simp

@[simp] theorem State.declareOverrun_words (o : Overrun) (s : State) : (s.declareOverrun o).words = s.words := (rfl)
@[simp] theorem State.closeTick_words (ov : List Overrun) (a : TickIn) (s : State) : (s.closeTick ov a).words = s.words :=
  State.reliefGuard_words _
@[simp] theorem State.sampleStraps_words (straps fillClocks us : Nat) (s : State) :
    (s.sampleStraps straps fillClocks us).words = s.words := (rfl)
@[simp] theorem State.vdrvLow_words (b mv10 : Nat) (s : State) : (s.vdrvLow b mv10).words = s.words := by simp [State.vdrvLow]
@[simp] theorem State.vdrvBack_words (b mv10 : Nat) (s : State) : (s.vdrvBack b mv10).words = s.words := by simp [State.vdrvBack]
@[simp] theorem State.askClear_words (s : State) : s.askClear.words = s.words := (rfl)

@[simp] theorem State.wordActs_words (r : RegRow) (i port clk : Nat) (w : Word) (s : State) :
    (s.wordActs r i port clk w).words = s.words := by
  simp [State.wordActs]

@[simp] theorem State.regWrite_words (port off : Nat) (w : Word) (be clk : Nat) (s : State) :
    (s.regWrite port off w be clk).words = s.words := by
  unfold State.regWrite
  repeat' split
  all_goals simp

@[simp] theorem State.regRow_words (port : Nat) (r : RegRow) (i clk : Nat) (w : Word) (s : State) :
    (s.regRow port r i clk w).words = s.words := by
  simp [State.regRow]

end Sys2Proof.Machine
end

section
/-! Where a stage or a command writes a memory, and what is left canonical (O58): the host's pages, the CAN objects, the armature and the
records (R371, R376, R383). -/

namespace Sys2Proof.Machine

@[simp] theorem canon_ite (c : Prop) [Decidable c] (a b : Memory × Memory) :
    Canon (if c then a else b) ↔ if c then Canon a else Canon b := by
  split <;> rfl

/-- A fold of steps that each keep the canonical form. -/
theorem State.foldl_canon {ι : Type} (f : State → ι → State) (hf : ∀ s i, Canon s.words → Canon (f s i).words) (l : List ι)
    {s : State} (h : Canon s.words) : Canon (l.foldl f s).words :=
  List.foldlRecOn l f h (fun s h i _ => hf s i h)

/-- The same for a fold that carries something beside the state. -/
theorem State.foldl_fst_canon {α ι : Type} (f : State × α → ι → State × α)
    (hf : ∀ a i, Canon a.1.words → Canon (f a i).1.words) (l : List ι) {a : State × α} (h : Canon a.1.words) :
    Canon (l.foldl f a).1.words :=
  List.foldlRecOn l f h (fun a h i _ => hf a i h)

section
variable {s : State} (h : Canon s.words)
include h

/-! Rings and pages -/

@[simp] theorem State.track_canon (port r : Nat) (d : List Word) : Canon (s.track port r d).words := by
  simp [State.track, h.fst, h.snd]

@[simp] theorem State.fetched_canon (port r : Nat) (descs : List (List Word)) (failed : Bool) (us : Nat) :
    Canon (s.fetched port r descs failed us).words := by
  unfold State.fetched
  extract_lets x late tell s1 s2 s3
  have h2 : Canon s2.words := by simp [s2, s1, h]
  clear_value s2
  split
  · exact h
  · split
    · simp [h2]
    · exact State.foldl_canon _ (fun s d h => State.track_canon h port r d) _ (by simp [s3, h2])

@[simp] theorem State.pageOutOne_canon (r : PageRun) : Canon (s.pageOutOne r).1.words := by
  simp [State.pageOutOne, h.fst, h.snd]

@[simp] theorem State.pageOutRun_canon (r : PageRun) (n : Nat) : Canon (s.pageOutRun r n).1.words := by
  induction n generalizing s r with
  | zero => exact h
  | succ n ih =>
    unfold State.pageOutRun
    split
    · exact h
    · exact ih (State.pageOutOne_canon h r) _

@[simp] theorem State.pageTick_canon (r : PageRun) : Canon (s.pageTick r).words := by
  have hrun := State.pageOutRun_canon h r pageRate
  unfold State.pageTick
  dsimp only
  repeat' split
  all_goals simp [h, hrun]

@[simp] theorem State.pageDone_canon (port page : Nat) : Canon (s.pageDone port page).words := by
  unfold State.pageDone
  repeat' split
  all_goals simp [h]

@[simp] theorem State.pageData_canon (port page offset : Nat) (data : List Byte) (ep : Bool) :
    Canon (s.pageData port page offset data ep).words := by
  unfold State.pageData
  split
  · exact h
  · split
    · exact h
    · simp [h.fst, h.snd]

@[simp] theorem State.bar2Write_canon (port addr : Nat) (data : List Byte) : Canon (s.bar2Write port addr data).words := by
  simp [State.bar2Write, h, h.fst, h.snd]

@[simp] theorem State.bar2Read_canon (port addr len : Nat) : Canon (s.bar2Read port addr len).words := by
  simp [State.bar2Read, h, h.fst, h.snd]

/-! CAN objects -/

@[simp] theorem State.canStore_canon (ctl o : Nat) (f : CanFrame) (sof : Nat) : Canon (s.canStore ctl o f sof).words := by
  simp [State.canStore, h.fst, h.snd]

@[simp] theorem State.canReceive_canon (ctl : Nat) (f : CanFrame) (sof : Nat) : Canon (s.canReceive ctl f sof).words := by
  unfold State.canReceive
  extract_lets c0 big v s1 s2 s3
  have h3 : s3.words = s.words := by simp [s3, s2, s1]
  clear_value s3
  repeat' split
  all_goals simp [h, h3]

@[simp] theorem State.canStart_canon (ctl clk n : Nat) : Canon (s.canStart ctl clk n).words := by
  induction n generalizing s with
  | zero => exact h
  | succ n ih =>
    unfold State.canStart
    extract_lets c sof f
    split
    · exact h
    · split
      · exact h
      · next o _ =>
        extract_lets begin' hd len d s1
        have hs1 : Canon s1.words := by simp [s1, d, hd, h.fst, h.snd]
        clear_value s1
        split
        · simp [begin', h.fst, h.snd]
        · split
          · exact ih (by simp [hs1])
          · simp [begin', hs1]

@[simp] theorem State.canSent_canon (ctl tdcv : Nat) : Canon (s.canSent ctl tdcv).words := by
  unfold State.canSent
  extract_lets c
  split
  · exact h
  · extract_lets nt w hd head m m' master ref s1
    have hm : m.store.wf = true := by
      simp only [m]
      split <;> simp [hd, h.fst]
    simp [s1, m', hm, h.snd]

@[simp] theorem State.txLoad_canon (ctl o slotWord : Nat) : Canon (s.txLoad ctl o slotWord).1.words := by
  unfold State.txLoad
  extract_lets fm id hd dlc len d data f bads ws m m' bad
  have hd' : d.1.store.wf = true := by simp [d, hd, h.fst]
  simp [m', m, hd', h.snd]

@[simp] theorem State.rxCopy_canon (ctl o slotWord : Nat) : Canon (s.rxCopy ctl o slotWord).1.words := by
  simp [State.rxCopy, h.fst, h.snd]

@[simp] theorem State.canCmd_canon (job : Job) (code : Nat) : Canon (s.canCmd job code).words := by
  unfold State.canCmd
  extract_lets c w ctl page obj count answer objs go r s0 s1
  have hr : Canon r.1.words := State.foldl_fst_canon _ (fun a o h => by
    by_cases hc : code = 1 <;> simp [go, hc, h]) _ h
  have h1 : Canon s1.words := by simp [s1, s0, hr]
  clear_value s1
  repeat' split
  all_goals simp [answer, h, h1]

/-! The armature and the patina's store -/

@[simp] theorem State.armStore_canon (l dir b w : Nat) : Canon (s.armStore l dir b w).words := by
  unfold State.armStore
  dsimp only
  split
  all_goals simp [h, h.fst, h.snd]

@[simp] theorem State.armWrite_canon (l dir b w : Nat) : Canon (s.armWrite l dir b w).words := by simp [State.armWrite, h]

@[simp] theorem State.armRelease_canon (l : Nat) : Canon (s.armRelease l).words :=
  State.foldl_canon _ (fun s x h => State.armStore_canon h l _ _ _) _ (by simp [h])

@[simp] theorem State.putSection_canon (bank : Nat) (x : Section) : Canon (s.putSection bank x).words := by
  unfold State.putSection
  extract_lets u hit ws m
  have hm : m.1.store.wf = true := MemUnit.foldl_fst_wf _ (fun a w h => by simp [h]) _ _ h.snd
  simp [hm, h.fst]

@[simp] theorem State.patSave_canon : Canon s.patSave.words := by simp [State.patSave, h]

@[simp] theorem State.quantPoison_canon (obj q : Nat) : Canon (s.quantPoison obj q).words := by
  unfold State.quantPoison
  extract_lets r s1
  have hr : r.1.store.wf = true := MemUnit.foldl_fst_wf _ (fun a w h => by simp [h]) _ _ h.fst
  have h1 : Canon s1.words := by simp [s1, hr, h.snd]
  clear_value s1
  simp [h, h1]

@[simp] theorem State.quantClean_canon (q obj : Nat) : Canon (s.quantClean q obj).words := by
  unfold State.quantClean
  extract_lets bad m
  have hm : m.1.store.wf = true := MemUnit.foldl_fst_wf _ (fun a w h => by simp [h]) _ _ h.fst
  simp [hm, h.snd]

@[simp] theorem State.propRead_canon (q l page port : Nat) : Canon (s.propRead q l page port).1.words := by
  simp [State.propRead, h.fst, h.snd]

@[simp] theorem State.patRestore_canon : Canon s.patRestore.words := by
  unfold State.patRestore
  extract_lets s1 fresh bad s2
  have h1 : Canon s1.words := by simp [s1, h]
  have hbad : (bad.foldl (fun (u : MemUnit) w => (u.use s1.regs 1 9 w).1) s1.mem1).store.wf = true :=
    MemUnit.keepsWf_fold _ (fun u w => MemUnit.use_wf _ 1 9 w u) bad s1.mem1 h1.snd
  have h2 : Canon s2.words := by simp [s2, h1.fst, hbad]
  have hfresh : ∀ t : State, Canon t.words → Canon (fresh t).words := fun t h => by simp [fresh, h]
  clear_value fresh s2
  split
  · exact hfresh _ h1
  · split
    · exact hfresh _ h1
    · split
      · simp [hfresh _ h2]
      · split
        · simp [hfresh _ h2]
        · exact State.foldl_canon _ (fun s a h => State.armStore_canon h _ _ _ _) _ (by simp [h2])

@[simp] theorem State.patAccept_canon (q obj : Nat) : Canon (s.patAccept q obj).words := by
  unfold State.patAccept
  dsimp only
  split
  · refine State.foldl_canon _ (fun s b h => ?_) _ (by simp [h])
    repeat' split
    all_goals simp [h]
  · simp [h]

@[simp] theorem State.patThaw_canon (q obj : Nat) : Canon (s.patThaw q obj).words := by
  unfold State.patThaw
  extract_lets s1 dir
  have h1 : Canon s1.words := by simp [s1, h]
  clear_value s1
  split
  · refine State.foldl_canon _ (fun s b h => ?_) _ h1
    split <;> simp [h]
  · split <;> simp [h1]

@[simp] theorem State.patCmd_canon (job : Job) (code : Nat) : Canon (s.patCmd job code).words := by
  unfold State.patCmd
  dsimp only
  repeat' split
  all_goals simp [h]

end

end Sys2Proof.Machine
end

section
/-! The patina's replans, the cycle records, the capture units, the steppers' tables and the images keep the canonical form (O58). -/

namespace Sys2Proof.Machine

section
variable {s : State} (h : Canon s.words)
include h

/-! The end of a cycle in the patina -/

theorem State.armStep_canon (q l : Nat) (o : Option (Nat × Int × Int)) (b : Nat) :
    Canon (State.armStep q l (s, o) b).1.words := by
  unfold State.armStep
  dsimp only
  repeat' split
  all_goals simp [h]

@[simp] theorem State.armReplan_canon (q l : Nat) : Canon (s.armReplan q l).words := by
  unfold State.armReplan
  extract_lets dir touched s1 lim near s2 x r s3 port k words
  have h1 : Canon s1.words := by simp [s1, h]
  have h2 : Canon s2.words := by simp [s2, h]
  have hr : Canon r.1.words := State.foldl_fst_canon _ (fun a b h => State.armStep_canon h q l a.2 b) _ h2
  clear_value s1 r
  split
  · refine State.foldl_canon _ (fun s b h => ?_) _ h1
    repeat' split
    all_goals simp [h]
  · repeat' split
    all_goals simp [s3, h2, hr]

@[simp] theorem State.cycleEnd_canon (p : Nat) : Canon (s.cycleEnd p).words := by
  unfold State.cycleEnd
  extract_lets g a b valid s1 s2 s3 ms s4 s5 s6 s7 s8 fresh s9 s10 s11 s12 s13
  have h3 : s3.words = s.words := by simp [s3, s2, s1]
  have h7 : s7.words = s.words := by simp [s7, s6, s5, s4, h3]
  have h9 : Canon s9.words := by simp [s9, s8, h3, h7, h]
  have h10 : Canon s10.words := State.foldl_canon _ (fun s l h => by
    have hq := State.foldl_canon (State.quantPoison l) (fun s q h => State.quantPoison_canon h l q) [0, 1, 2, 3, 4] h
    simpa only [State.replan_words] using State.armReplan_canon (State.armReplan_canon (State.armReplan_canon
      (State.armReplan_canon hq 0 l) 1 l) 2 l) 3 l) _ h9
  have h11 : Canon s11.words := State.foldl_canon _ (fun s q h => State.quantPoison_canon h p q) _ h10
  have h13 : Canon s13.words := by simp [s13, s12, h11]
  clear_value s13
  simp [h13]

@[simp] theorem State.portalGather_canon (p : Nat) (closed : Bool) : Canon (s.portalGather p closed).words := by
  unfold State.portalGather
  extract_lets x tick g entered begins s1 rest g1 bad m st stepRun stepEnd g2 lc rc a b g3 ends g4 dwell s2
  have h1 : s1.words = s.words := by simp [s1]
  have h2 : s2.words = s1.words := State.patMod_words _ _
  clear_value s2 ends
  simp [h2, h1, h]

/-! Cycle records -/

@[simp] theorem State.readSources_canon (p : Nat) : Canon (s.readSources p).1.words := by
  unfold State.readSources
  extract_lets r
  have hr : r.1.store.wf = true := MemUnit.foldl_fst_wf _ (fun a f h => by simp [h]) _ _ h.fst
  simp [hr, h.snd]

@[simp] theorem State.freshSources_canon (p : Nat) (l : List (Nat × Nat)) : Canon (s.freshSources p l).words := by
  unfold State.freshSources
  extract_lets m
  have hm : m.1.store.wf = true := MemUnit.foldl_fst_wf _ (fun a f h => by simp [h]) _ _ h.fst
  simp [hm, h.snd]

@[simp] theorem State.formRecord_canon (p : Nat) (cut : Bool) (c : Cycle) : Canon (s.formRecord p cut c).words := by
  unfold State.formRecord
  extract_lets src s1 harmed r seq after flags bytes m s2
  have h1 : Canon s1.words := by simp [s1, src, h]
  clear_value s1
  have hm : m.store.wf = true := MemUnit.wf_writeWords h1.fst _ _ _ _
  clear_value m
  rw [State.says_words]
  simp [s2, hm, h1.snd]

@[simp] theorem State.cutCycle_canon (p : Nat) : Canon (s.cutCycle p).words := by
  unfold State.cutCycle
  split <;> simp [h]

@[simp] theorem State.cycleStage_canon (closed : Nat → Bool) (trips : List Nat) (ce ue p : Nat) :
    Canon (s.cycleStage closed trips ce ue p).words := by
  unfold State.cycleStage
  dsimp only
  repeat' split
  all_goals simp [h]

@[simp] theorem State.commitOne_canon (seq : Nat) : Canon (s.commitOne seq).words := by simp [State.commitOne, h.fst, h.snd]

@[simp] theorem State.commitStaged_canon : Canon s.commitStaged.words :=
  State.foldl_canon _ (fun _ seq h => State.commitOne_canon h seq) _ h

@[simp] theorem State.findHead_canon : Canon s.findHead.words := by
  unfold State.findHead
  extract_lets rf z first r k skip next rec s1 s2
  have hz : z.1.store.wf = true := by simp [z, h.snd]
  have hr : r.1.store.wf = true := by
    simp only [r]
    split
    · exact hz
    · simp [hz]
  have hk : k.1.store.wf = true := by simp [k, hr]
  simp [s2, s1, hk, h.fst]

@[simp] theorem State.drainCopy_canon (ws : List (DWord × Bool)) (d : Drain) : Canon (s.drainCopy ws d).1.words := by
  simp [State.drainCopy, h.fst, h.snd]

@[simp] theorem State.drainOne_canon (d : Drain) : Canon (s.drainOne d).1.words := by
  unfold State.drainOne
  extract_lets r s1 old s2 d' r'
  have h1 : Canon s1.words := by simp [s1, r, h.fst, h.snd]
  have h2 : Canon s2.words := by simp [s2, h1]
  clear_value s1 s2
  repeat' split
  all_goals simp [r', h1, h2, h2.fst, h2.snd]

@[simp] theorem State.drainRun_canon (d : Drain) (n : Nat) : Canon (s.drainRun d n).1.words := by
  induction n generalizing s d with
  | zero => exact h
  | succ n ih =>
    unfold State.drainRun
    split
    · exact h
    · exact ih (State.drainOne_canon h d) _

@[simp] theorem State.drainFinish_canon (d : Drain) : Canon (s.drainFinish d).words := by
  unfold State.drainFinish
  extract_lets port m s1
  have hm : m.store.wf = true := MemUnit.keepsWf_fold _ (fun u i => MemUnit.writeFull_wf 0 14 _ 0 u) _ s.mem0 h.fst
  simp [s1, hm, h.snd]

@[simp] theorem State.drainTick_canon (port : Nat) : Canon (s.drainTick port).words := by
  unfold State.drainTick
  dsimp only
  repeat' split
  all_goals simp [h]

@[simp] theorem State.drainDone_canon (port : Nat) : Canon (s.drainDone port).words := by
  unfold State.drainDone
  split <;> simp [h]

@[simp] theorem State.drainCmd_canon (job : Job) : Canon (s.drainCmd job).words := by
  unfold State.drainCmd
  dsimp only
  repeat' split
  all_goals simp [h]

/-! Capture units -/

@[simp] theorem State.capTake_canon (k : Nat) : Canon (s.capTake k).words := by
  unfold State.capTake
  extract_lets u isTrig per m s1 n pre dtc nt u1 s2 u2 s3
  have hm : m.1.store.wf = true := MemUnit.foldl_fst_wf _ (fun a d h => by simp [h]) _ _ h.fst
  have h3 : Canon s3.words := by simp [s3, s2, s1, hm, h.snd]
  clear_value s3
  simp [h, h3]

@[simp] theorem State.capTick_canon (k : Nat) : Canon (s.capTick k).words := by simp [State.capTick, h]

@[simp] theorem State.recCmd_canon (job : Job) (code : Nat) : Canon (s.recCmd job code).words := by simp [State.recCmd, h]

@[simp] theorem State.recStage_canon (closed : Nat → Bool) (trips : List Nat) : Canon (s.recStage closed trips).words := by
  unfold State.recStage
  extract_lets s1 ce ue u v s2 s3 s4
  have h1 : Canon s1.words := State.commitStaged_canon h
  have h2 : Canon s2.words := by simp [s2, u, v, h1]
  have h3 : Canon s3.words := State.foldl_canon _ (fun _ p h => State.cycleStage_canon h closed trips ce ue p) _ h2
  have h4 : Canon s4.words := State.foldl_canon _ (fun _ k h => State.capTick_canon h k) _ h3
  simp [h4]

/-! The armature and the tables that a tick reads -/

@[simp] theorem State.readArm_canon (l dir b : Nat) : Canon (s.readArm l dir b).1.words := by
  simp [State.readArm, h.fst, h.snd]

@[simp] theorem State.readArms_canon (l : Nat) : Canon (s.readArms l).1.words := by simp [State.readArms, h]

@[simp] theorem State.judgeLeaf_canon (l : Nat) : Canon (s.judgeLeaf l).1.words := by simp [State.judgeLeaf, h]

@[simp] theorem State.obsPortal_canon (n p : Nat) : Canon (s.obsPortal n p).words := by simp [State.obsPortal, h]

@[simp] theorem State.obsStage_canon (n : Nat) : Canon (s.obsStage n).words :=
  State.foldl_canon _ (fun _ p h => State.obsPortal_canon h n p) _ (by simp [h])

@[simp] theorem State.readTable_canon (p i : Nat) : Canon (s.readTable p i).1.words := by
  simp [State.readTable, h.fst, h.snd]

@[simp] theorem State.stepAmp_canon (p : Nat) (m : Int) : Canon (s.stepAmp p m).1.words := by
  unfold State.stepAmp
  dsimp only
  repeat' split
  all_goals simp [h]

@[simp] theorem State.stepLoops_canon (p : Nat) : Canon (s.stepLoops p).1.words := by
  unfold State.stepLoops
  extract_lets rf a die m ceiling r s1 pull s2 s3 md m3 stopped v micro driven r0 r1 s4
  have h3 : Canon s3.words := by simp [s3, s2, s1, h]
  have h0 : Canon r0.1.words := by simp [r0, h3]
  have h4 : Canon s4.words := by simp [s4, r1, h0]
  clear_value s4
  simp [h4]

@[simp] theorem State.loopStage_canon (onMv : Nat → Nat) : Canon (s.loopStage onMv).words := by
  unfold State.loopStage
  extract_lets s1 s2 q s3 r
  have h1 : s1.words = s.words := State.foldl_words _ (fun s p => State.stepMeasure_words s p) _ _
  have h2 : s2.words = s.words := (State.foldl_words _ (fun s l => State.leafLoops_words onMv s l) _ _).trans (by simp [h1])
  have h3 : Canon s3.words := by simp [s3, h2, h]
  have hr : Canon r.1.words := State.foldl_fst_canon _ (fun a p h => by simp [h]) _ h3
  clear_value r
  simp [hr]

@[simp] theorem State.copyPage_canon (job : Job) (page src dst n : Nat) : Canon (s.copyPage job page src dst n).words := by
  simp [State.copyPage, h.fst, h.snd]

@[simp] theorem State.obsCmd_canon (job : Job) (code : Nat) : Canon (s.obsCmd job code).words := by simp [State.obsCmd, h]

@[simp] theorem State.stpCmd_canon (job : Job) (code : Nat) : Canon (s.stpCmd job code).words := by
  simp [State.stpCmd, h, h.fst, h.snd]

@[simp] theorem State.takeTables_canon : Canon s.takeTables.words := by
  refine State.foldl_canon _ (fun s p h => ?_) _ h
  simp [h, h.fst, h.snd]

/-! Images -/

@[simp] theorem State.loadBlob_canon (b off dst n : Nat) : Canon (s.loadBlob b off dst n).words := by
  simp [State.loadBlob, h.fst, h.snd]

@[simp] theorem State.applyImage_canon (b : Nat) (m : Image) : Canon (s.applyImage b m).words := by
  unfold State.applyImage
  extract_lets f c s1 s2 s3
  have h2 : Canon s2.words := by simp [s2, s1, h]
  have h3 : Canon s3.words := by simp [s3, h2]
  clear_value s3
  simp [h3]

@[simp] theorem State.tryBank_canon (done : Bool) (b : Nat) : Canon (State.tryBank (s, done) b).1.words := by
  unfold State.tryBank
  dsimp only
  repeat' split
  all_goals simp [h, h.fst, h.snd]

@[simp] theorem State.noImage_canon (bank : Nat) : Canon (s.noImage bank).words := by simp [State.noImage, h.fst, h.snd]

@[simp] theorem State.loadConfig_canon : Canon s.loadConfig.words := by
  unfold State.loadConfig
  extract_lets p0 p1 order s1 s2 r
  have h1 : Canon s1.words := by simp [s1, p1, p0, h.fst, h.snd]
  have h2 : Canon s2.words := by simp [s2, h1]
  have hr : Canon r.1.words := State.foldl_fst_canon _ (fun a b h => State.tryBank_canon h a.2 b) _ (by simp [h1])
  clear_value s1 s2 r
  simp [h2, hr]

@[simp] theorem State.reliefPoison_canon (r : Nat) : Canon (s.reliefPoison r).1.words := by
  simp [State.reliefPoison, h, h.fst, h.snd]

@[simp] theorem State.reliefTake_canon : Canon s.reliefTake.1.words := by
  unfold State.reliefTake
  dsimp only
  repeat' split
  all_goals simp [h]

@[simp] theorem State.bankPut_canon (b off v : Nat) : Canon (s.bankPut b off v).words := by simp [State.bankPut, h.fst, h.snd]

@[simp] theorem State.imgCmd_canon (job : Job) (code : Nat) : Canon (s.imgCmd job code).words := by
  simp [State.imgCmd, h]

@[simp] theorem State.cfgCmd_canon (job : Job) (code : Nat) : Canon (s.cfgCmd job code).words := by simp [State.cfgCmd, h]

@[simp] theorem State.imgPage_canon (q : Install) : Canon (s.imgPage q).1.words := by
  simp [State.imgPage, h.fst, h.snd]

@[simp] theorem State.imgPages_canon (q : Install) (n : Nat) : Canon (s.imgPages q n).1.words := by
  induction n generalizing s q with
  | zero => exact h
  | succ n ih =>
    unfold State.imgPages
    split
    · exact h
    · exact ih (State.imgPage_canon h q) _

@[simp] theorem State.topGen_canon : Canon s.topGen.1.words := by simp [State.topGen, h.fst, h.snd]

@[simp] theorem State.imgCommit_canon (q : Install) : Canon (s.imgCommit q).words := by
  unfold State.imgCommit
  extract_lets r s1 g s2 gen s3 s4
  have h1 : Canon s1.words := by simp [s1, r, h.fst, h.snd]
  have h2 : Canon s2.words := by simp [s2, g, h1]
  have h3 : Canon s3.words := State.putSection_canon h2 _ _
  have h4 : Canon s4.words := by simp [s4, h3]
  clear_value s4
  split
  · simp [h1]
  · simp [h4]

@[simp] theorem State.imgDone_canon (code : Nat) : Canon (s.imgDone code).words := by
  unfold State.imgDone
  split
  · exact h
  · simp [h]

@[simp] theorem State.imgTick_canon : Canon s.imgTick.words := by
  unfold State.imgTick
  split
  · exact h
  · simp [h]

/-! The memories' own commands -/

@[simp] theorem State.trackPoison_canon (t : Tracked) : Canon (s.trackPoison t).1.words := by simp [State.trackPoison, h.fst, h.snd]

@[simp] theorem State.memRow_canon (m : Nat) {f : MemUnit → MemUnit × List Finish}
    (hf : ∀ u, u.store.wf = true → (f u).1.store.wf = true) : Canon (s.memRow m f).words := by
  by_cases hm : m = 0
  · simp [State.memRow, hm, hf _ h.fst, h.snd]
  · simp [State.memRow, hm, hf _ h.snd, h.fst]

@[simp] theorem State.memCmd_canon (job : Job) (code : Nat) : Canon (s.memCmd job code).words := by
  unfold State.memCmd
  split
  · simp [h]
  · next m _ =>
    extract_lets u r
    have hr : r.1.store = u.store := by
      simp only [r]
      split_ifs <;> simp
    by_cases hm : m = 0 <;> simp [u, hm, hr, h]

@[simp] theorem State.memTick_canon (m : Nat) : Canon (s.memTick m).words := by
  unfold State.memTick
  extract_lets u late r
  have hu : u.store.wf = true := by by_cases hm : m = 0 <;> simp [u, hm, h.fst, h.snd]
  have hr : r.1.store.wf = true := by
    simp only [r]
    split <;> simp [hu]
  by_cases hm : m = 0 <;> simp [hm, hr, h.fst, h.snd]

@[simp] theorem State.workingWrite_canon : Canon s.workingWrite.words := by
  simp [State.workingWrite, h, h.fst, h.snd]

@[simp] theorem State.initMemory_canon (straps : Nat) : Canon (s.initMemory straps).words := by
  simp [State.initMemory, h.fst, h.snd, Memory.partly_wf, Memory.wf_of_no_cells]

end

end Sys2Proof.Machine
end

section
/-! The tick, the resets and every command keep the canonical form, and so does the step (O58). -/

namespace Sys2Proof.Machine

section
variable {s : State} (h : Canon s.words)
include h

/-! The judging of commands -/

@[simp] theorem State.blockCmd_canon (block : Nat) (job : Job) (code : Nat) : Canon (s.blockCmd block job code).words := by
  unfold State.blockCmd
  split <;> simp [h]

theorem State.judgeWith_canon {f : Job → Nat → State → State} (hf : ∀ job code s, Canon s.words → Canon (f job code s).words)
    (t : Tracked) : Canon (s.judgeWith f t).words := by
  unfold State.judgeWith
  dsimp only
  split
  · simp [h]
  · exact hf _ _ _ (by simp [h])

@[simp] theorem State.judgeBlocks_canon (blocks : Nat → Bool) : Canon (s.judgeBlocks blocks).words :=
  State.foldl_canon _ (fun _ t h => State.judgeWith_canon h (fun job code _ h => State.blockCmd_canon h t.block job code) t) _ h

@[simp] theorem State.seqReqs_canon : Canon s.seqReqs.1.words := by
  refine State.foldl_fst_canon _ (fun a t h => ?_) _ h
  dsimp only
  split <;> simp [h]

/-! The stages of a tick -/

@[simp] theorem State.seqStage_canon (n : Nat) (ovrNew whole : Bool) : Canon (s.seqStage n ovrNew whole).words := by
  simp [State.seqStage, h]

@[simp] theorem State.dispatchStage_canon : Canon s.dispatchStage.words := by simp [State.dispatchStage, h]

@[simp] theorem State.lateStage_canon (n : Nat) (trips : List Nat) : Canon (s.lateStage n trips).words := by
  unfold State.lateStage
  extract_lets s1 s2 s3
  have h1 : Canon s1.words := State.judgeBlocks_canon h _
  have h2 : Canon s2.words := State.foldl_canon _ (fun s l h => by simp [h]) _ h1
  have h3 : Canon s3.words := State.foldl_canon _ (fun s p h => by simp [h]) _ h2
  clear_value s3
  simp [h3]

@[simp] theorem State.serveStage_canon : Canon s.serveStage.words := by
  unfold State.serveStage
  extract_lets s1 s2 s3
  have h1 : Canon s1.words := by simp [s1, h]
  have h2 : Canon s2.words := by simp [s2, h1]
  have h3 : Canon s3.words := State.foldl_canon _ (fun s r h => State.pageTick_canon h r) _ h2
  clear_value s3
  simp [h3]

theorem State.boundary_canon : Canon s.boundary.1.words := by
  unfold State.boundary
  extract_lets time hif s1 s2 a b s3
  have h2 : s2.words = s.words := by simp [s2, s1]
  have ha : Canon a.1.words := State.reliefTake_canon (by simp [h2, h])
  have h3 : Canon s3.words := by simp [s3, b, ha]
  clear_value s3
  simp [h3]

theorem State.controlStages_canon (ov : List Overrun) (a : TickIn) (axes : List Nat) : Canon (s.controlStages ov a axes).1.words := by
  unfold State.controlStages
  extract_lets u ovrNew r s1 s2 s3 s4 s5
  have h1 : Canon s1.words := by simp [s1, r, h]
  have h2 : Canon s2.words := by simp [s2, h1]
  have h4 : Canon s4.words := by simp [s4, s3, h2]
  have h5 : Canon s5.words := State.foldl_canon _ (fun s o h => by simp [h]) _ h4
  clear_value s5
  simp [h5]

theorem State.controlTick_canon (ov : List Overrun) (a : TickIn) : Canon (s.controlTick ov a).words := by
  unfold State.controlTick
  extract_lets b r s1 s2 s3
  have hr : Canon r.1.words := State.controlStages_canon (by simp [b, State.boundary_canon h]) ov a b.2
  have h1 : Canon s1.words := by simp [s1, hr]
  have h2 : Canon s2.words := State.workingWrite_canon (State.serveStage_canon (State.lateStage_canon h1 _ _))
  have h3 : Canon s3.words := by simp [s3, h2]
  clear_value s3
  simp [h3]

theorem State.linkUpTick_canon (n : Nat) (a : TickIn) : Canon (s.linkUpTick n a).words := by
  unfold State.linkUpTick
  extract_lets b s0 boot s1 s2 s3 s4
  have hb : Canon b.1.words := State.boundary_canon h
  have h1 : s1.words = b.1.words := by simp [s1, s0]
  have h2 : s2.words = s1.words := by simp [s2]
  have h4 : Canon s4.words := by simp [s4, s3, h2, h1, hb]
  clear_value s4
  simp [h4]

/-! Resets and supplies -/

theorem State.enterReset_canon (device : Bool) (cause : Nat) : Canon (s.enterReset device cause).words := h

theorem State.coreReset_canon (cause : Nat) : Canon (s.coreReset cause).words := by
  unfold State.coreReset
  split
  · exact h
  · exact h

theorem State.rstLow_canon (ns : Nat) : Canon (s.rstLow ns).words := by
  unfold State.rstLow
  split
  · exact h
  · exact h

theorem State.release_canon (straps fillClocks us : Nat) : Canon (s.release straps fillClocks us).words := by
  unfold State.release
  split
  · exact h
  · split
    · exact h
    · extract_lets s1 ages boot s2
      have h1 : Canon s1.words := State.initMemory_canon (by simp [h]) straps
      have hload : Canon (s2.link 7 (fun l => { l with up := true })).findHead.loadConfig.words :=
        State.loadConfig_canon (State.findHead_canon (by simp [s2, h1]))
      simp [hload]

theorem State.tick_canon (ov : List Overrun) (a : TickIn) : Canon (s.tick ov a).words := by
  unfold State.tick
  split
  · exact State.coreReset_canon h 6
  · split
    case h_4 => exact State.linkUpTick_canon h _ a
    case h_5 | h_6 => exact State.controlTick_canon h ov a
    all_goals exact h

end

/-! The guards of the rows -/

section
variable {f : State → State} (hf : ∀ s, Canon s.words → Canon (f s).words) {s : State} (h : Canon s.words)
include hf h

theorem State.guards_canon (port : Nat) : Canon (s.inCore f).words ∧ Canon (s.inStage f).words ∧ Canon (s.whenUp f).words ∧
    Canon (s.fromPort port f).words := by
  have hkeep := State.guards_keep (fun s t => Canon s.words → Canon t.words) (fun _ h => h) (fun _ t k h => by simp [k h]) f hf port s
  exact ⟨hkeep.1 h, hkeep.2.1 h, hkeep.2.2.1 h, hkeep.2.2.2 h⟩

theorem State.inCore_canon : Canon (s.inCore f).words := (State.guards_canon hf h 0).1
theorem State.inStage_canon : Canon (s.inStage f).words := (State.guards_canon hf h 0).2.1
theorem State.whenUp_canon : Canon (s.whenUp f).words := (State.guards_canon hf h 0).2.2.1
theorem State.fromPort_canon (port : Nat) : Canon (s.fromPort port f).words := (State.guards_canon hf h port).2.2.2

end

/-! Every command -/

/-- An outcome whose next state, where it answers one, has both memories canonical if s has. -/
def State.KeepsCanon (s : State) (o : Host.Outcome State Fault Refusal) : Prop := ∀ t, o = .next t → Canon s.words → Canon t.words

section
variable {s t : State}

theorem State.keepsCanon_next (hkeep : Canon s.words → Canon t.words) : s.KeepsCanon (.next t) := by
  intro u hu
  cases hu
  exact hkeep

theorem State.keepsCanon_onObject (n i : Nat) (hkeep : Canon s.words → Canon t.words) : s.KeepsCanon (onObject n i t) := by
  intro u hu
  rw [(onObject_next n i t u hu).2]
  exact hkeep

theorem State.keepsCanon_onObjects (n i m j : Nat) (hkeep : Canon s.words → Canon t.words) : s.KeepsCanon (onObjects n i m j t) := by
  intro u hu
  rw [(onObjects_next n i m j t u hu).2.2]
  exact hkeep

theorem State.keepsCanon_ite {p : Prop} [Decidable p] {o : Host.Outcome State Fault Refusal} (hkeep : s.KeepsCanon o) :
    s.KeepsCanon (if p then o else .fault .noSuchObject) := by
  intro u hu
  split at hu
  · exact hkeep u hu
  · cases hu

end

/-- No command takes a memory out of its canonical form. -/
theorem exec_keepsCanon (c : Instr) (s : State) : s.KeepsCanon (exec c s) := by
  cases c with
  | tick => exact State.keepsCanon_next (fun h => State.tick_canon h _ _)
  | tickOverrun => exact State.keepsCanon_ite (State.keepsCanon_next (fun h => State.tick_canon h _ _))
  | powerOn | vcoreBrownOut | vioBrownOut => exact State.keepsCanon_next (fun h => State.enterReset_canon h _ _)
  | rstNLow => exact State.keepsCanon_next (fun h => State.rstLow_canon h _)
  | clockLoss | coreWatchdog | coreReset => exact State.keepsCanon_next (fun h => State.coreReset_canon h _)
  | resetRelease => exact State.keepsCanon_next (fun h => State.release_canon h _ _ _)
  | registerWrite => exact State.keepsCanon_onObject _ _ (fun h => by simp [h])
  | genReset => exact State.keepsCanon_onObject _ _ (fun h => by simp [h])
  | canModeWrite | cmpPosWrite => exact State.keepsCanon_onObjects _ _ _ _ (fun h => by simp [h])
  | canObjEnWrite => exact State.keepsCanon_ite (State.keepsCanon_onObjects _ _ _ _ (fun h => by simp [h]))
  | clrOverrun => exact State.keepsCanon_next (State.whenUp_canon (fun s h => by simp [h]))
  | fbkHallFault | fbkEncoderFault =>
    exact State.keepsCanon_ite (State.keepsCanon_next (State.inStage_canon (fun s h => by simp [h])))
  -- the remote dies, and the rows of no guard
  | switchLink4Frame | switchAutonomous | switchSupervisorReset | link6Frame | link6FrameMissed | lswEvaluation | channelBTestPulse
  | switchDieLatch | fieldLink5Frame | fieldOutputsOff | fieldDieSupervisorReset | fieldSample | fieldSupplyState | fsRecExpired
  | trainlineSample | chargePumpRunDown =>
    exact State.keepsCanon_next (fun h => by simp [h])
  | lswComparatorTrip | inrushWindowEnd | pauseEnd | settleExpired | groupUnderVoltage | groupUvRecovered | uvStaggeredRestart
  | openLoadQualified | dimEdge | railDip | senseUpdate | wireBreak | fieldOutputThermal | tlIndeterminate | vdrvLow | vdrvRecovered
  | portUp | pcieConfigRequest | bridgeSafeState | edgeClassChange =>
    exact State.keepsCanon_onObject _ _ (fun h => by simp [h])
  | carrierPeriodStart | leafComparatorTrip | stepComparatorTrip | jetTail | jetCq | descriptorFetch | msixModerationTimeout
  | completionTimeout | msixTableWrite | fetchCompletion =>
    exact State.keepsCanon_onObjects _ _ _ _ (fun h => by simp [h])
  -- hardware that the core die controls
  | ntReferenceReceived | ntMasterPeriod | ntTimeout => exact State.keepsCanon_next (State.inCore_canon (fun s h => by simp [h]))
  | portReset | ldrUvHold | ldrUvResume | ldrRailOv | ldrOvRecovered | canFrameStart | canFrameReceived | canTxDone | canFailedAttempt
  | canReceiveError | canBusoffRecovered | canProtocolException | canMode =>
    exact State.keepsCanon_onObject _ _ (State.inCore_canon (fun s h => by simp [h]))
  | sluiceDone =>
    exact State.keepsCanon_onObject _ _ (State.inCore_canon (fun s h => State.memRow_canon h _ (fun u hu => by simp [hu])))
  | patrolDue =>
    refine State.keepsCanon_onObject _ _ (State.inCore_canon (fun s h => ?_))
    split
    · exact h
    · exact State.memRow_canon h _ (fun u hu => by simp [hu])
  | weirLeak =>
    exact State.keepsCanon_onObject _ _ (State.inCore_canon (fun s h => State.memRow_canon h _ (fun u hu => by simp [hu])))
  | ldrOcLatch | stpOcLatch => exact State.keepsCanon_onObjects _ _ _ _ (State.inCore_canon (fun s h => by simp [h]))
  -- parts of a control stage
  | ilkTestPulse | ilkDiscrepancy | ilkDiscSafe | ilkFeedbackTimeout | patStateSave | recordCommit | reliefTimeout =>
    exact State.keepsCanon_next (State.inStage_canon (fun s h => by simp [h]))
  | reliefApply =>
    refine State.keepsCanon_next (State.inStage_canon (fun s h => ?_))
    extract_lets a t
    have ha : Canon a.1.words := State.reliefTake_canon (by simp [h])
    have ht : Canon t.words := by simp [t, ha]
    clear_value t
    split
    · exact ht
    · split <;> simp [ht]
  | tUnlockExpired | tOpenExpired | tCloseExpired | tLockExpired | tDwellExpired | tWarnExpired | tRecloseExpired | tObsClearExpired
  | tStepExpired | signaturePulse | sigPulseJudged | pendingOpenTaken | pendDeadline | departMsExpired | obsTrip | obsReactionDone
  | injectionRequest | ldrRwindDone | stpStall | standstillReduction | homingTrip | errorWindowClose | fbkZeroSpeed | captureSample
  | cycleCut =>
    exact State.keepsCanon_onObject _ _ (State.inStage_canon (fun s h => by simp [h]))
  | guaranteeRestored => exact State.keepsCanon_onObjects _ _ _ _ (State.inStage_canon (fun s h => by simp [h]))
  -- what runs once the configuration is committed, and what a live port asks for
  | commandTimeout | resyncSwitch | clrLinkCnt | tckClrHwm | clrCycles | clrLatch | clrTrips | stpClrCount | fbkClrCnt | clrAlarm | save
  | lswClrCount | fioClrCnt | hifClrHwm | memClrCount | recClrCount | imgWriteDone | imgCommitDone =>
    exact State.keepsCanon_next (State.whenUp_canon (fun s h => by simp [h]))
  | ldrClrOc | disarm | stpClrOc | clrHall | clrEnc | clrStat | drainDone =>
    exact State.keepsCanon_onObject _ _ (State.whenUp_canon (fun s h => by simp [h]))
  | enable | disable | pageTransferDone | pageInReadCompletion =>
    exact State.keepsCanon_onObjects _ _ _ _ (State.whenUp_canon (fun s h => by simp [h]))
  | bar2Write | bar2Read | dtcLoRead | cfgGroupOpen | cfgGroupCommit =>
    exact State.keepsCanon_onObject _ _ (fun h => State.fromPort_canon (fun s h => by simp [h]) h _)
  | recSeqLoRead => exact State.keepsCanon_onObjects _ _ _ _ (fun h => State.fromPort_canon (fun s h => by simp [h]) h _)
  | seqOpen | seqClose | seqReopen | seqHold | crewClose | isolate | deisolate | clearFault | resetManual | armLoad | armRead | tblLoad
  | tblRead | accept | refuse | thaw | propRead | lswSwitch | lswRestart | setOut | txSend | rxRead | txAbort | nop | pageTake | pageGive
  | pagePass | pageIn | pageOut | sluice | inject | stop | drain | capArm | capTrigger | capStop | reliefSet | imgWrite | imgCommit
  | imgRead =>
    exact State.keepsCanon_onObjects _ _ _ _ (State.whenUp_canon (fun s h => by simp [h]))

/-- Settles O58: the step runs its front command, and no command takes a memory out of the canonical form. -/
theorem stepsKeepMemoriesCanonical : Obligations.StepsKeepMemoriesCanonical := by
  intro s t hs hstep
  rw [State.memCanonical_iff_words] at hs ⊢
  rcases hqueue : s.pending with - | ⟨c, rest⟩
  · rw [stepRunsFrontCommand.2 s hqueue] at hstep
    rw [← Host.Outcome.next.inj hstep]
    exact hs
  · have hfront : step s = exec c { s with pending := rest } := by rw [step, hqueue]
    exact exec_keepsCanon c _ t (hfront.symm.trans hstep) hs

end Sys2Proof.Machine
end
